-- ==== Sys2Proof/Word.lean ====
section
/-! DEFINITION. The words of the machine: bytes, 16-bit digests, station numbers, currents and times. -/

namespace Sys2Proof

/-- One byte, of the image, of a host frame or of a bus frame. -/
abbrev Byte := BitVec 8

/-- A 16-bit field: a digest, a check field, a current as it travels in a frame. -/
abbrev Word16 := BitVec 16

/-- A station number, 0..63 (00_scope, Conventions). -/
abbrev Station := Fin 64

/-- A current in whole units of 0.1 A (00_scope, Conventions).  Sums and differences are worked at full width. -/
abbrev Current := Nat

/-- A moment or a duration in microseconds (log 1). -/
abbrev Time := Nat

end Sys2Proof
end

