-- ==== Sys2Proof/Config.lean ====
section
/-! DEFINITION. What is fixed in the part and has no field in the configuration image.
The manual gives every result, so there is no free value here (INVENTORY, "What the manual leaves open"). -/

namespace Sys2Proof.Config

/-- One millisecond in the model's unit of time (log 1). -/
abbrev msec : Time := 1000

/-- One second in the model's unit of time (log 1). -/
abbrev sec : Time := 1000000

/-- The roster holds at most 24 entries (R23). -/
abbrev rosterCapacity : Nat := 24

/-- The isolation limit (R72). -/
abbrev isolationLimit : Nat := 5

/-- The retry limit (R104). -/
abbrev retryLimit : Nat := 3

/-- The listen time in cycle periods (R69). -/
abbrev listenCycles : Nat := 2

/-- The notification queue holds at most 8 (R176). -/
abbrev queueCapacity : Nat := 8

/-- The fast history keeps the last 10 values (R126). -/
abbrev historyLength : Nat := 10

/-- Consecutive good readings that settle a figure or clear a fault, and slow updates that settle (R126, R128). -/
abbrev settleCount : Nat := 4

/-- Every counter saturates here (00_scope, Conventions). -/
abbrev counterMax : Nat := 65535

/-- Recessive bits that make the bus idle (R88). -/
abbrev idleCount : Nat := 10

/-- The two trailer slots of a frame, ACCEPT and REFUSE (T 5-1). -/
abbrev slotBits : Nat := 2

/-- The bits of the end field (T 5-1, R100). -/
abbrev endBits : Nat := 8

/-- The period of the Meter's updates (R124). -/
abbrev updatePeriod : Time := 100 * msec

/-- The period of re-verification (R157, R160). -/
abbrev reverifyPeriod : Time := 4 * sec

/-- The longest gap inside a host frame (R164). -/
abbrev gapLimit : Time := 20 * msec

/-- The greatest length byte of a host frame (R164). -/
abbrev hostLengthMax : Nat := 64

/-- The start byte of a host frame (R164). -/
abbrev startByte : Byte := 0xC3#8

/-- The length of the configuration image in bytes (10.1). -/
abbrev imageLength : Nat := 42

/-- The format code of the image (T 10-1). -/
abbrev formatCode : Byte := 0x31#8

end Sys2Proof.Config
end

