-- ==== Sys2Proof/Syntax.lean ====
section
/-! DEFINITION. The commands: one constructor for each row of spec/opcode_table.json.
The table gives its rows no operands; an operand here is what the rules say the event brings with it.
`t` is the moment a command arrives (log 1); an expiry of one of the part's own timers has no `t`, its moment is the
timer's deadline. -/

namespace Sys2Proof

/-- What the front end reports of one channel over one period (R125). -/
inductive Reading where
  /-- A good reading, with the RMS value in units of 0.1 A. -/
  | good (v : Word16)
  /-- The input reached full scale. -/
  | saturated
  /-- The front end found the input open. -/
  | openInput
  deriving DecidableEq, Repr

/-- The frame event that WINDOW_CLOSE is about (T 7-2). -/
inductive FrameEvent where
  /-- A complete frame received, valid or damaged, and whether the Link Monitor takes its report first (R121). -/
  | received (bytes : List Byte) (linkFirst : Bool)
  /-- A received frame cut short, and the level of the six identical bits. -/
  | cutShort (recessive : Bool)
  /-- An own attempt that reached its trailer, with the ACCEPT and REFUSE slots as read dominant. -/
  | outcome (accept refuse : Bool)
  /-- An own attempt ended ABORTED at a line bit. -/
  | aborted (pos : Nat)
  deriving DecidableEq, Repr

/-- The outcome that drops a request whose retry count is 3 (R110). -/
inductive DropCause where
  /-- ABORTED at a line bit. -/
  | aborted (pos : Nat)
  /-- PARTIAL: both slots read dominant. -/
  | partly
  deriving DecidableEq, Repr

/-- What the row of re-verification is about: the expiry of the timer with its check, or the fault of the storage that the
check is there to find, a byte of the held copy that changes at a moment of its own (R160; the table has no row of its own
for the fault, log 14). -/
inductive ReverifyEvent where
  /-- The re-verify timer expires, and the copy is checked. -/
  | check
  /-- The storage changes byte `i` of the held copy to `b`. -/
  | storageFault (t : Time) (i : Fin 42) (b : Byte)
  deriving DecidableEq, Repr

/-- What BUS_IDLE brings: its moment, and the bits of the line from the last known one to the one at which the bus becomes idle,
as the other stations leave them, `true` where recessive (R88, log 5). -/
structure LineBits where
  t : Time
  bits : List Bool
  deriving DecidableEq, Repr

/-- What FRAME_CUT_SHORT brings: its moment, and the level of the six identical bits (R89, log 5). -/
structure Violation where
  t : Time
  recessive : Bool
  deriving DecidableEq, Repr

/-- The commands, in the order of spec/opcode_table.json. -/
inductive Instr where
  | powerOn (t : Time)
  | restartInputAsserted (t : Time)
  | restartInputRelease (t : Time)
  | headerRead (t : Time) (b0 b1 : Byte)
  | imageRead (t : Time) (rest : List Byte)
  | reverifyTimerExpiry (ev : ReverifyEvent)
  | state (t : Time) (payload : List Byte)
  | demand (t : Time) (payload : List Byte)
  | peer (t : Time) (payload : List Byte)
  | plan (t : Time) (payload : List Byte)
  | counts (t : Time) (payload : List Byte)
  | note (t : Time) (payload : List Byte)
  | clearCut (t : Time) (payload : List Byte)
  | leave (t : Time) (payload : List Byte)
  | join (t : Time) (payload : List Byte)
  | restart (t : Time) (payload : List Byte)
  | config (t : Time) (payload : List Byte)
  | unknownCommand (t : Time) (code : Byte) (payload : List Byte)
  | hostFrameDiscarded (t : Time) (bytes : List Byte)
  | gapTimerExpiry
  | byteWithoutStopBit (t : Time)
  | replySent (t : Time)
  | busIdle (line : LineBits)
  | attemptStart (t : Time)
  | attemptLost (t : Time) (pos : Nat)
  | attemptAborted (t : Time) (pos : Nat)
  | attemptOutcomeTaken (t : Time) (accept refuse : Bool)
  | requestDropped (t : Time) (cause : DropCause)
  | isolationLimit (t : Time) (refuse : Bool)
  | fallbackDeadline
  | spentDeadline
  | statusFrame (t : Time) (bytes : List Byte) (linkFirst : Bool)
  | announceFrame (t : Time) (bytes : List Byte) (linkFirst : Bool)
  | leaveFrame (t : Time) (bytes : List Byte) (linkFirst : Bool)
  | shedFrame (t : Time) (bytes : List Byte) (linkFirst : Bool)
  | frameCutShort (v : Violation)
  | frameDamaged (t : Time) (bytes : List Byte)
  | cycleTimerExpiry
  | entryGoesQuiet (n : Station)
  | listenTimerExpiry
  | forgetTimerExpiry (n : Station)
  | raiseHoldExpiry
  | shedHoldExpiry
  | statusSpacingTimerExpiry
  | windowClose (t : Time) (ev : FrameEvent)
  | fastUpdate (load feeder : Reading)
  | slowUpdate (load feeder : Reading)
  | channelFaultClears (load feeder : Reading)
  | overloadBegins (load feeder : Reading)
  | overdrawTimerExpiry
  | recoveryTimerExpiry
  | startBit (t : Time)
  | hostByteReceived (t : Time) (b : Byte)
  deriving DecidableEq, Repr

end Sys2Proof
end

