-- ==== Sys2Proof/Decode.lean ====
section
/-! DEFINITION. Decoding: no row of spec/opcode_table.json has bits ("fields" is empty and there is no "fixed"), so no
word spells a command. -/

namespace Sys2Proof

/-- The command that a word spells by the table's bits: none, for every word. -/
def decodeTableWord (_nbits _w : Nat) : Option Instr := none

end Sys2Proof
end

