-- ==== Sys2Proof/Machine/State.lean ====
section
/-! DEFINITION. The state of the FS310, block by block as Table I-2 of 00_scope names the blocks, as plain data.
Times are moments of the clock `now`; a running timer is held as the moment it expires. -/

namespace Sys2Proof.Machine

/-- A timer that is stopped (`none`) or runs to a moment. -/
abbrev Timer := Option Time

/-! ### Names of states, phases, kinds and codes -/

/-- The nine station states (T 4-1). -/
inductive StationState where
  | loading | listening | joining | active | isolated | leaving | dormant | duplicate | fault
  deriving DecidableEq, Repr

/-- The isolation phases (T 4-2). -/
inductive Phase where
  | none | hold | fallback | spent
  deriving DecidableEq, Repr

/-- The loader stages (T 10-3). -/
inductive LoaderStage where
  | reading | awaitingHost | held | failed
  deriving DecidableEq, Repr

/-- How far the read over the memory link has come (R152, R161). -/
inductive ReadStep where
  /-- The read has not begun, or has ended. -/
  | idle
  /-- Bytes 0 and 1 are being read. -/
  | header
  /-- Bytes 2 to 41 are being read; bytes 0 and 1 are these. -/
  | body (b0 b1 : Byte)
  deriving DecidableEq, Repr

/-- The fault reasons (T 10-3). -/
inductive FaultReason where
  | none | format | check | range | heldCopy
  deriving DecidableEq, Repr

/-- The restart causes (R161). -/
inductive RestartCause where
  | power | pin | host
  deriving DecidableEq, Repr

/-- The host line rates (T 10-1, byte 26). -/
inductive LineRate where
  | r9600 | r19200 | r57600 | r115200
  deriving DecidableEq, Repr

/-- The enforcement states (T 9-1). -/
inductive EnfState where
  | clear | over | cut | cooling
  deriving DecidableEq, Repr

/-- A timer of the Enforcement Unit (T 9-2). -/
inductive EnfTimer where
  | stopped
  | running (deadline : Time)
  /-- Held with the time it has left (R143). -/
  | held (left : Time)
  deriving DecidableEq, Repr

/-- The raise hold timer (T 3-1). -/
inductive HoldTimer where
  | stopped
  | running (deadline : Time)
  | expired
  deriving DecidableEq, Repr

/-- The frame kinds (T 5-2). -/
inductive Kind where
  | shed | leave | announce | status
  deriving DecidableEq, Repr

/-- The states that a frame can report (T 5-4). -/
inductive ReportedState where
  | joining | active | isolated
  deriving DecidableEq, Repr

/-- The outcomes of an own attempt (T 5-5, R93, R94); `partly` is PARTIAL. -/
inductive AttemptOutcome where
  | accepted | partly | unheard | lost | aborted
  deriving DecidableEq, Repr

/-- The class of a roster entry (T 2-2). -/
inductive EntryClass where
  | live | quiet | mismatch
  deriving DecidableEq, Repr

/-- The outcome of a plan row (T 1-4); `partly` is PARTIAL. -/
inductive RowOutcome where
  | idle | parked | partly | full
  deriving DecidableEq, Repr

/-- The slots our station drives in a trailer (R98). -/
inductive Trailer where
  | neither | accept | refuse
  deriving DecidableEq, Repr

/-- What a receiver finds wrong with a complete frame (R96). -/
inductive Damage where
  | checkFailure | malformed
  deriving DecidableEq, Repr

/-! ### Frames -/

/-- The state/flags byte of ANNOUNCE and STATUS (T 5-4). -/
structure StateFlags where
  state : ReportedState
  priority : Fin 4
  degraded : Bool
  cut : Bool
  parked : Bool
  deriving DecidableEq, Repr

/-- The claim part that ANNOUNCE and STATUS share (T 5-3). -/
structure ClaimPart where
  serial : Byte
  flags : StateFlags
  min : Word16
  max : Word16
  demand : Word16
  deriving DecidableEq, Repr

/-- The fields that only a STATUS carries (T 5-3).  Station n of the quiet set is the bit that stands n places from the
most significant end (T 5-4). -/
structure StatusPart where
  rosterDigest : Word16
  grant : Word16
  quiet : BitVec 64
  draw : Option Word16
  estimate : Option Word16
  deriving DecidableEq, Repr

/-- A frame of the share bus by its fields (R90, R91). -/
inductive Frame where
  | shed (station : Station) (network : Word16) (excess : Word16)
  | leave (station : Station) (network : Word16) (serial : Byte)
  | announce (station : Station) (network : Word16) (claim : ClaimPart)
  | status (station : Station) (network : Word16) (claim : ClaimPart) (status : StatusPart)
  deriving DecidableEq, Repr

/-! ### Bus Interface (chapter 5) -/

/-- How the receive assembly in progress began (R93 to R95). -/
inductive AssemblyOrigin where
  /-- At a peer's start bit on the idle bus. -/
  | peer
  /-- As our own attempt that ended LOST. -/
  | afterLost
  /-- As our own attempt that ended ABORTED. -/
  | afterAborted
  deriving DecidableEq, Repr

/-- The receive assembly. -/
inductive Assembly where
  | empty
  /-- Still good: the bits taken so far (fill bits and start bit left out), as far as the events tell them (log 5), and
  the length of the current run of identical line bits. -/
  | good (source : AssemblyOrigin) (bits : List Bool) (run : Nat)
  /-- Abandoned at a coding violation: nothing is taken until the bus is idle (R89). -/
  | abandoned
  deriving DecidableEq, Repr

/-- The received frame that fell at the moment of our outcome and was taken before it. -/
inductive FirstFrame where
  /-- None. -/
  | nothing
  /-- Our own broken frame, which another station finished at the bit at which our attempt breaks off (R121, log 42). -/
  | broken
  /-- A valid peer frame at the end of our trailer (R113, log 47). -/
  | peer
  deriving DecidableEq, Repr

/-- Our own attempt on the line: its content, fixed at the start bit (R92), the moment of that bit (log 22), and the frame
that was taken at the moment of its outcome, before it (R113, R121). -/
structure Attempt where
  frame : Frame
  startedAt : Time
  first : FirstFrame
  deriving DecidableEq, Repr

/-- The Bus Interface, with the seven counters of R101. `recessive` counts the recessive bits since the last dominant
one, as far as commands have brought the bits (R88, log 5); `endLeft` says how many bits of a complete frame are still
to come, the last bit of its end field included, and is 0 outside one (R88, R100). -/
@[ext]
structure BusInterface where
  recessive : Nat
  idle : Bool
  endLeft : Nat
  assembly : Assembly
  attempt : Option Attempt
  trailer : Trailer
  framesSent : Nat
  lost : Nat
  aborted : Nat
  partly : Nat
  unheard : Nat
  validReceived : Nat
  damagedReceived : Nat
  deriving DecidableEq, Repr

/-! ### Transmit Scheduler (chapter 6) -/

/-- A request waiting in its slot; `excess` is used by SHED requests alone and is 0 in the others (T 6-1). -/
structure Request where
  retry : Nat
  excess : Current
  deriving DecidableEq, Repr

/-- The attempt in flight (T 6-1). -/
structure InFlight where
  kind : Kind
  request : Request
  deriving DecidableEq, Repr

/-- The Transmit Scheduler (T 6-1) with the requests dropped counter (R115). -/
@[ext]
structure Scheduler where
  shed : Option Request
  leave : Option Request
  announce : Option Request
  status : Option Request
  inFlight : Option InFlight
  spacing : Timer
  isolationCount : Nat
  requestsDropped : Nat
  deriving DecidableEq, Repr

/-! ### Roster Unit (chapter 2) -/

/-- The fields of T 2-1 that are present for origin HEARD. -/
structure Report where
  priority : Fin 4
  min : Current
  max : Current
  demand : Current
  serial : Byte
  grant : Current
  state : ReportedState
  lastHeard : Time
  deriving DecidableEq, Repr

/-- The origin of an entry (T 2-2), with the fields its presence brings. -/
inductive Origin where
  | heard (report : Report)
  | hearsay
  deriving DecidableEq, Repr

/-- The reported flags of an entry (T 2-1). -/
structure ReportedFlags where
  degraded : Bool
  cut : Bool
  parked : Bool
  deriving DecidableEq, Repr

/-- A roster entry (T 2-1). -/
@[ext]
structure Entry where
  station : Station
  cls : EntryClass
  origin : Origin
  flags : ReportedFlags
  draw : Option Current
  estimate : Option Current
  digest : Option Word16
  confirmed : Bool
  silence : Nat
  forget : Timer
  deriving DecidableEq, Repr

/-- The Roster Unit, entries in ascending station number (R23), with the counters of R46. -/
@[ext]
structure RosterUnit where
  entries : List Entry
  overflow : Bool
  forgotten : List Station
  admissionsRefused : Nat
  shedIgnored : Nat
  deriving DecidableEq, Repr

/-! ### Share Planner (chapter 1) -/

/-- A row of the plan (R7). -/
structure Row where
  station : Station
  priority : Fin 4
  min : Current
  demand : Current
  share : Current
  outcome : RowOutcome
  deriving DecidableEq, Repr

/-- The plan table (R14). -/
structure Plan where
  rows : List Row
  pool : Current
  remainder : Current
  headroom : Current
  umax : Current
  deficit : Current
  deriving DecidableEq, Repr

/-- The own claim record (T 1-1); our station number is no part of it (T 6-4, log 15). -/
@[ext]
structure OwnClaim where
  priority : Fin 4
  min : Current
  max : Current
  hostDemand : Current
  effectiveDemand : Current
  serial : Byte
  deriving DecidableEq, Repr

/-- The Share Planner. -/
@[ext]
structure SharePlanner where
  claim : OwnClaim
  plan : Option Plan
  digest : Word16
  deriving DecidableEq, Repr

/-! ### Grant Controller (chapter 3) -/

/-- The Grant Controller (T 3-1). -/
@[ext]
structure GrantController where
  grant : Current
  settled : Bool
  raiseHold : HoldTimer
  deficit : Current
  shedHold : Timer
  deriving DecidableEq, Repr

/-! ### Lifecycle Controller (chapter 4) -/

/-- The Lifecycle Controller (T 4-2). -/
@[ext]
structure Lifecycle where
  state : StationState
  phase : Phase
  listen : Timer
  cycle : Timer
  tClean : Option Time
  tAny : Option Time
  fallbackAt : Option Time
  spentAt : Option Time
  deriving DecidableEq, Repr

/-! ### Meter (chapter 8) -/

/-- One channel of the Meter (T 8-1). -/
@[ext]
structure Channel where
  faulted : Bool
  goodRun : Nat
  fast : Option Current
  fastSettled : Bool
  history : List Current
  slow : Option Current
  slowCount : Nat
  deriving DecidableEq, Repr

/-- The Meter (T 8-1); `trim` is UNTRIMMED (`none`) or TRIMMED with T, `watch` is idle or the time it began. -/
@[ext]
structure Meter where
  update : Timer
  updates : Nat
  load : Channel
  feeder : Channel
  trim : Option Current
  watch : Option Time
  estimate : Option Current
  overload : Nat
  deriving DecidableEq, Repr

/-! ### Enforcement Unit (chapter 9) and Link Monitor (chapter 7) -/

/-- The Enforcement Unit (T 9-2). -/
@[ext]
structure EnforcementUnit where
  state : EnfState
  overdraw : EnfTimer
  recovery : EnfTimer
  deriving DecidableEq, Repr

/-- The Link Monitor (T 7-1). -/
@[ext]
structure LinkMonitor where
  events : Nat
  damaged : Nat
  degraded : Bool
  deriving DecidableEq, Repr

/-! ### Configuration Loader (chapter 10) -/

/-- The Configuration Loader (T 10-3). -/
@[ext]
structure Loader where
  stage : LoaderStage
  readStep : ReadStep
  heldCopy : Option (List Byte)
  networkDigest : Option Word16
  reason : FaultReason
  cause : RestartCause
  reverify : Timer
  lineRate : LineRate
  /-- The rate of the image while it waits for the last byte of a reply (R157). -/
  rateDue : Option LineRate
  deriving DecidableEq, Repr

/-! ### Host Port (chapter 11) -/

/-- The notifications with their contents (T 11-9). -/
inductive Notification where
  | grant (value : Current)
  | stationState (state : StationState) (phase : Phase) (stage : LoaderStage)
  | cut (state : EnfState) (asserted : Bool)
  | link (degraded : Bool)
  | shed (deficit : Current) (active : Bool)
  | overflow (set : Bool)
  | duplicate
  | fault (reason : FaultReason)
  | sense (load feeder : Bool)
  | roster (entries : Nat)
  deriving DecidableEq, Repr

/-- The receive assembly of the host line: the bytes after C3h so far (R164). -/
inductive HostAssembly where
  | hunting
  | collecting (bytes : List Byte)
  deriving DecidableEq, Repr

/-- A complete host command: its code and payload (T 11-2). -/
structure HostCommand where
  code : Byte
  payload : List Byte
  deriving DecidableEq, Repr

/-- The command in progress, with the reply being sent, and whether a restart follows that reply (R165, R175). -/
structure InProgress where
  command : HostCommand
  reply : List Byte
  restarts : Bool
  deriving DecidableEq, Repr

/-- The Host Port (T 11-1). -/
@[ext]
structure HostPort where
  rx : HostAssembly
  gap : Timer
  inProgress : Option InProgress
  waiting : Option HostCommand
  overrun : Bool
  queue : List Notification
  lostFlag : Bool
  framesDiscarded : Nat
  notesLost : Nat
  deriving DecidableEq, Repr

/-! ### The whole machine -/

/-- The state of the FS310, its pins, its clock and the queue of the commands that wait. -/
@[ext]
structure State where
  now : Time
  pending : List Instr
  restartInput : Bool
  cutOutput : Bool
  attention : Bool
  bus : BusInterface
  sched : Scheduler
  roster : RosterUnit
  planner : SharePlanner
  grantCtl : GrantController
  life : Lifecycle
  meter : Meter
  enf : EnforcementUnit
  link : LinkMonitor
  loader : Loader
  host : HostPort
  deriving DecidableEq, Repr

/-- The faults: none.  No event of the manual stops the part, so no meaning ends in one (log 23). -/
inductive Fault where
  deriving DecidableEq, Repr

/-- The refusals. -/
inductive Refusal where
  /-- Raised by an arm of exec whose command has no meaning yet, and by nothing else; safe, since the machine stops. -/
  | notModelled (mnemonic : String)
  deriving DecidableEq, Repr

/-- What one step answers. -/
abbrev Result := Host.Outcome State Fault Refusal

/-! ### Values after a restart -/

/-- R87, T 10-4. -/
def BusInterface.initial : BusInterface :=
  { recessive := 0, idle := false, endLeft := 0, assembly := .empty, attempt := none, trailer := .neither,
    framesSent := 0, lost := 0, aborted := 0, partly := 0, unheard := 0, validReceived := 0, damagedReceived := 0 }

/-- R104, T 6-1. -/
def Scheduler.initial : Scheduler :=
  { shed := none, leave := none, announce := none, status := none, inFlight := none, spacing := none,
    isolationCount := 0, requestsDropped := 0 }

/-- R22, R46. -/
def RosterUnit.initial : RosterUnit :=
  { entries := [], overflow := false, forgotten := [], admissionsRefused := 0, shedIgnored := 0 }

/-- R1, R14, R20; the fields that R1 leaves unused until an image is held read 0 (DESIGN CHOICE, log 19). -/
def SharePlanner.initial : SharePlanner :=
  { claim := { priority := 0, min := 0, max := 0, hostDemand := 0, effectiveDemand := 0, serial := 0 },
    plan := none, digest := 0 }

/-- R47, T 3-1. -/
def GrantController.initial : GrantController :=
  { grant := 0, settled := false, raiseHold := .stopped, deficit := 0, shedHold := none }

/-- R66, T 4-2. -/
def Lifecycle.initial : Lifecycle :=
  { state := .loading, phase := .none, listen := none, cycle := none, tClean := none, tAny := none,
    fallbackAt := none, spentAt := none }

/-- A channel that has taken no reading (T 8-1). -/
def Channel.initial : Channel :=
  { faulted := false, goodRun := 0, fast := none, fastSettled := false, history := [], slow := none, slowCount := 0 }

/-- R124, T 8-1. -/
def Meter.initial : Meter :=
  { update := none, updates := 0, load := Channel.initial, feeder := Channel.initial, trim := none, watch := none,
    estimate := none, overload := 0 }

/-- R140, T 9-2. -/
def EnforcementUnit.initial : EnforcementUnit :=
  { state := .clear, overdraw := .stopped, recovery := .stopped }

/-- R116, T 7-1. -/
def LinkMonitor.initial : LinkMonitor := { events := 0, damaged := 0, degraded := false }

/-- R151, T 10-3, with the cause of the restart and the read begun or not (R161). -/
def Loader.initial (cause : RestartCause) (readStep : ReadStep) : Loader :=
  { stage := .reading, readStep := readStep, heldCopy := none, networkDigest := none, reason := .none, cause := cause,
    reverify := none, lineRate := .r19200, rateDue := none }

/-- R163, T 11-1. -/
def HostPort.initial : HostPort :=
  { rx := .hunting, gap := none, inProgress := none, waiting := none, overrun := false, queue := [], lostFlag := false,
    framesDiscarded := 0, notesLost := 0 }

/-- The machine right after power-on: every block at the values of a restart with cause POWER and the read of the image
begun (R151, R161, R162, T 10-4); CUT asserted (R147), ATTENTION released (R178). -/
def State.reset : State :=
  { now := 0, pending := [], restartInput := false, cutOutput := true, attention := false,
    bus := BusInterface.initial, sched := Scheduler.initial, roster := RosterUnit.initial,
    planner := SharePlanner.initial, grantCtl := GrantController.initial, life := Lifecycle.initial,
    meter := Meter.initial, enf := EnforcementUnit.initial, link := LinkMonitor.initial,
    loader := Loader.initial .power .header, host := HostPort.initial }

end Sys2Proof.Machine
end

