-- ==== Sys2Proof/Machine/Operands.lean ====
section
/-! DEFINITION. What the operands of the commands say: the CRC-16, the share bus frames as bytes and as line bits
(chapter 5), the configuration image and its parameters (chapter 10), the parts of a host frame (chapter 11). -/

namespace Sys2Proof.Machine

/-! ### Bytes and bits -/

/-- The more significant byte of a 16-bit field. -/
def hiByte (w : Word16) : Byte := w.extractLsb' 8 8

/-- The less significant byte of a 16-bit field. -/
def loByte (w : Word16) : Byte := w.extractLsb' 0 8

/-- A 16-bit field from its two bytes, most significant first (00_scope, Layouts). -/
def word16 (hi lo : Byte) : Word16 := hi ++ lo

/-- The two bytes of a field, most significant first. -/
def bytes16 (w : Word16) : List Byte := [hiByte w, loByte w]

/-- The two bytes of a current or of a counter. -/
def bytesOf (n : Nat) : List Byte := bytes16 (BitVec.ofNat 16 n)

/-- The bits of a byte, most significant first (R90). -/
def bitsOfByte (b : Byte) : List Bool :=
  [b.getLsbD 7, b.getLsbD 6, b.getLsbD 5, b.getLsbD 4, b.getLsbD 3, b.getLsbD 2, b.getLsbD 1, b.getLsbD 0]

/-- The bits of a list of bytes in the order sent. -/
def bitsOf : List Byte → List Bool
  | [] => []
  | b :: bs => bitsOfByte b ++ bitsOf bs

/-! ### The CRC-16 of the manual's conventions -/

/-- One step of the register with generator x^16 + x^12 + x^5 + 1. -/
def crcBit (c : Word16) (b : Bool) : Word16 :=
  if (c.msb != b) then (c <<< 1) ^^^ 0x1021#16 else c <<< 1

/-- The CRC-16: the register starts at all ones, bits are taken most significant first, the result is not inverted
(00_scope, CRC-16). -/
def crc16 (bytes : List Byte) : Word16 := (bitsOf bytes).foldl crcBit 0xFFFF#16

/-! ### Frames of the share bus as bytes (R90, R91) -/

/-- The kind of a frame. -/
def Frame.kind : Frame → Kind
  | .shed _ _ _ => .shed
  | .leave _ _ _ => .leave
  | .announce _ _ _ => .announce
  | .status _ _ _ _ => .status

/-- The sender of a frame. -/
def Frame.station : Frame → Station
  | .shed n _ _ => n
  | .leave n _ _ => n
  | .announce n _ _ => n
  | .status n _ _ _ => n

/-- The kind codes of T 5-2. -/
def Kind.code : Kind → BitVec 2
  | .shed => 0
  | .leave => 1
  | .announce => 2
  | .status => 3

/-- The identifier: kind code in bits 7 and 6, station number in bits 5 to 0 (R90). -/
def identifier (k : Kind) (n : Station) : Byte := k.code ++ (BitVec.ofFin n : BitVec 6)

/-- The state codes of T 5-4. -/
def ReportedState.code : ReportedState → BitVec 3
  | .joining => 1
  | .active => 2
  | .isolated => 3

/-- The state of a code; the other codes are out of range (T 5-4). -/
def reportedState (c : BitVec 3) : Option ReportedState :=
  if c = 1 then some .joining else if c = 2 then some .active else if c = 3 then some .isolated else none

/-- The state/flags byte (T 5-4). -/
def stateFlagsByte (f : StateFlags) : Byte :=
  f.state.code ++ (BitVec.ofFin f.priority : BitVec 2) ++ BitVec.ofBool f.degraded ++ BitVec.ofBool f.cut ++ BitVec.ofBool f.parked

/-- The state/flags of a byte, none where the state code is out of range. -/
def readStateFlags (b : Byte) : Option StateFlags :=
  (reportedState (b.extractLsb' 5 3)).map fun st =>
    { state := st, priority := (b.extractLsb' 3 2).toFin, degraded := b.getLsbD 2, cut := b.getLsbD 1,
      parked := b.getLsbD 0 }

/-- The quiet set's byte 14 + k: bit 7 - j stands for station 8k + j (T 5-4). -/
def quietBytes (q : BitVec 64) : List Byte :=
  [q.extractLsb' 56 8, q.extractLsb' 48 8, q.extractLsb' 40 8, q.extractLsb' 32 8, q.extractLsb' 24 8,
    q.extractLsb' 16 8, q.extractLsb' 8 8, q.extractLsb' 0 8]

/-- A station stands in the quiet set (T 5-4). -/
def inQuiet (q : BitVec 64) (n : Station) : Bool := q.getMsbD n.val

/-- The presence byte: bit 0 the measured draw, bit 1 the unmanaged estimate (R91). -/
def presenceByte (draw estimate : Option Word16) : Byte :=
  BitVec.ofNat 8 ((if draw.isSome then 1 else 0) + (if estimate.isSome then 2 else 0))

/-- An optional field, if present. -/
def optionalBytes : Option Word16 → List Byte
  | none => []
  | some w => bytes16 w

/-- The payload of a frame (T 5-3). -/
def Frame.payload : Frame → List Byte
  | .shed _ net excess => bytes16 net ++ bytes16 excess
  | .leave _ net serial => bytes16 net ++ [serial]
  | .announce _ net c =>
    bytes16 net ++ [c.serial, stateFlagsByte c.flags] ++ bytes16 c.min ++ bytes16 c.max ++ bytes16 c.demand
  | .status _ net c s =>
    bytes16 net ++ bytes16 s.rosterDigest ++ [c.serial, stateFlagsByte c.flags] ++ bytes16 c.min ++ bytes16 c.max
      ++ bytes16 c.demand ++ bytes16 s.grant ++ quietBytes s.quiet ++ [presenceByte s.draw s.estimate]
      ++ optionalBytes s.draw ++ optionalBytes s.estimate

/-- Identifier, length and payload: what the check field is taken over (R90). -/
def Frame.body (f : Frame) : List Byte :=
  identifier f.kind f.station :: BitVec.ofNat 8 f.payload.length :: f.payload

/-- The frame's bytes with its check field (R90). -/
def Frame.bytes (f : Frame) : List Byte := f.body ++ bytes16 (crc16 f.body)

/-- The range checks of R96 on a claim: max within 0.1..1000.0 A, min not above max, demand 0 or within min..max. -/
def ClaimPart.inRange (c : ClaimPart) : Bool :=
  decide (1 ≤ c.max.toNat ∧ c.max.toNat ≤ 10000 ∧ c.min.toNat ≤ c.max.toNat ∧
    (c.demand.toNat = 0 ∨ (c.min.toNat ≤ c.demand.toNat ∧ c.demand.toNat ≤ c.max.toNat)))

/-- The range checks of R96; SHED and LEAVE have none. -/
def Frame.inRange : Frame → Bool
  | .shed _ _ _ => true
  | .leave _ _ _ => true
  | .announce _ _ c => c.inRange
  | .status _ _ c s => c.inRange && decide (s.grant.toNat ≤ c.max.toNat)

/-- The claim part from its bytes, none where the state code is out of range. -/
def readClaim (serial flags m1 m0 x1 x0 d1 d0 : Byte) : Option ClaimPart :=
  (readStateFlags flags).map fun fl =>
    { serial := serial, flags := fl, min := word16 m1 m0, max := word16 x1 x0, demand := word16 d1 d0 }

/-- The optional fields by the presence byte: bits 7 to 2 zero, and the length that its bits ask for (R91, R96). -/
def readOptional (p : Byte) (rest : List Byte) : Option (Option Word16 × Option Word16) :=
  match p.toNat, rest with
  | 0, [] => some (none, none)
  | 1, [a1, a0] => some (some (word16 a1 a0), none)
  | 2, [b1, b0] => some (none, some (word16 b1 b0))
  | 3, [a1, a0, b1, b0] => some (some (word16 a1 a0), some (word16 b1 b0))
  | _, _ => none

/-- The fields of a payload for the kind code of the identifier, none where the length is not the kind's (R96). -/
def readPayload (kindCode : Nat) (n : Station) (payload : List Byte) : Option Frame :=
  match kindCode, payload with
  | 0, [n1, n0, e1, e0] => some (.shed n (word16 n1 n0) (word16 e1 e0))
  | 1, [n1, n0, s] => some (.leave n (word16 n1 n0) s)
  | 2, [n1, n0, s, f, m1, m0, x1, x0, d1, d0] =>
    (readClaim s f m1 m0 x1 x0 d1 d0).map fun c => .announce n (word16 n1 n0) c
  | 3, n1 :: n0 :: r1 :: r0 :: s :: f :: m1 :: m0 :: x1 :: x0 :: d1 :: d0 :: g1 :: g0 ::
      q0 :: q1 :: q2 :: q3 :: q4 :: q5 :: q6 :: q7 :: p :: rest =>
    match readClaim s f m1 m0 x1 x0 d1 d0, readOptional p rest with
    | some c, some (draw, est) =>
      some (.status n (word16 n1 n0) c
        { rosterDigest := word16 r1 r0, grant := word16 g1 g0,
          quiet := q0 ++ q1 ++ q2 ++ q3 ++ q4 ++ q5 ++ q6 ++ q7, draw := draw, estimate := est })
    | _, _ => none
  | _, _ => none

/-- The bytes of a complete frame with the two bytes of the check field split off; none where the bytes are not as many
as the length byte gives (R95). -/
def splitFrame (bytes : List Byte) : Option (Byte × List Byte × Word16) :=
  match bytes with
  | ident :: len :: rest =>
    if rest.length = len.toNat + 2 then
      match rest.drop len.toNat with
      | [c1, c0] => some (ident, rest.take len.toNat, word16 c1 c0)
      | _ => none
    else none
  | _ => none

/-- What a receiver makes of a complete frame: valid with its fields, or damaged (R96).  The check field comes first: a
frame that fails it counts as failing the check, one that passes it and fails length or ranges as malformed.
None where the bytes are no complete frame. -/
def judgeFrame (bytes : List Byte) : Option (Frame ⊕ Damage) :=
  (splitFrame bytes).map fun (ident, payload, check) =>
    if crc16 (ident :: BitVec.ofNat 8 payload.length :: payload) = check then
      match readPayload (ident.toNat / 64) (ident.extractLsb' 0 6).toFin payload with
      | some f => if f.inRange then .inl f else .inr .malformed
      | none => .inr .malformed
    else .inr .checkFailure

/-- The frame of complete bytes that pass every check. -/
def validFrame (bytes : List Byte) : Option Frame :=
  match judgeFrame bytes with
  | some (.inl f) => some f
  | _ => none

/-- The damage of complete bytes that fail a check. -/
def damagedFrame (bytes : List Byte) : Option Damage :=
  match judgeFrame bytes with
  | some (.inr d) => some d
  | _ => none

/-! ### Frames on the line: fill bits (R89).  A bit 0 is dominant and a bit 1 recessive (R88). -/

/-- Fill: after five identical bits one bit of the opposite value, the first of a new run; none after the last bit. -/
def fill (last : Bool) (run : Nat) : List Bool → List Bool
  | [] => []
  | b :: rest =>
    let run' := if b = last then run + 1 else 1
    if run' = 5 ∧ rest ≠ [] then b :: (!b) :: fill (!b) 1 rest else b :: fill b run' rest

/-- The bits of the span that carries fill bits: start bit, identifier, length, payload and check. -/
def Frame.spanBits (f : Frame) : List Bool := false :: bitsOf f.bytes

/-- The line bits of a frame's span, from its start bit to the last bit of its check field, fill bits in place. -/
def lineBitsOf (bytes : List Byte) : List Bool := fill true 0 (false :: bitsOf bytes)

/-- The line bits of the span, fill bits in place. -/
def Frame.lineBits (f : Frame) : List Bool := lineBitsOf f.bytes

/-- The count of recessive bits goes on through line bits; every dominant bit restarts it at 0 (R88). -/
def countRecessive (count : Nat) (bits : List Bool) : Nat := bits.foldl (fun n b => if b then n + 1 else 0) count

/-- How many line bits the start bit and the identifier take, a fill bit after the last of them included (log 21). -/
def Frame.identSpan (f : Frame) : Nat := (fill true 0 (f.spanBits.take 10)).length - 1

/-- What a receiver has after line bits: the bits entered and the run; a run of six is a coding violation, at which the
taking stops (R89). -/
def unfill (last : Bool) (run : Nat) (kept : List Bool) : List Bool → List Bool × Nat
  | [] => (kept, run)
  | b :: rest =>
    if run = 5 then
      if b = last then (kept, 6) else unfill b 1 kept rest
    else unfill b (if b = last then run + 1 else 1) (kept ++ [b]) rest

/-- The line bits up to bit `pos`, which was read inverted. -/
def Frame.readUpTo (f : Frame) (pos : Nat) : List Bool := f.lineBits.take pos ++ [!(f.lineBits.getD pos true)]

/-- The receive assembly that a transmitter goes on with when bit `pos` of its line bits was read inverted (R93, R94); a
coding violation at that very bit shows as a run of six, on which FRAME_CUT_SHORT follows (log 34). -/
def assemblyAfter (source : AssemblyOrigin) (f : Frame) (pos : Nat) : Assembly :=
  let taken := unfill true 0 [] (f.readUpTo pos)
  .good source (taken.1.drop 1) taken.2

/-- A mismatch that loses arbitration: within the identifier, dominant read where recessive was sent (R93). -/
def losesAt (f : Frame) (pos : Nat) : Bool :=
  decide (pos < f.identSpan) && f.lineBits.getD pos false

/-- A mismatch that aborts the attempt: any other, up to the last bit of the check field (R94). -/
def abortsAt (f : Frame) (pos : Nat) : Bool :=
  decide (pos < f.lineBits.length) && !losesAt f pos

/-- The last line bit of the span, the last of the check field (R89: no fill bit follows it). -/
def Frame.lastBit (f : Frame) : Nat := f.lineBits.length - 1

/-- The bytes on the line where the last bit of the check field was read inverted: complete, with a check that fails. -/
def Frame.brokenBytes (f : Frame) : List Byte := f.bytes.dropLast ++ [f.bytes.getLastD 0 ^^^ 1]

/-! ### The configuration image (chapter 10) -/

/-- The parameters in use, in the units of T 10-1 and T 10-2. -/
structure Params where
  station : Nat
  priority : Nat
  min : Current
  max : Current
  options : Nat
  trimMargin : Current
  trimTime : Nat
  tolerance : Current
  overdrawTime : Nat
  recoveryHold : Nat
  loadScale : Current
  feederScale : Current
  window : Nat
  threshold : Nat
  lineRate : Nat
  feederLimit : Current
  reserve : Current
  fallback : Current
  cycleUnits : Nat
  silenceLimit : Nat
  forgetTime : Nat
  raiseHold : Nat
  shedHold : Nat
  bitRate : Nat
  deriving DecidableEq, Repr

/-- A byte of the image. -/
def imageByte (img : List Byte) (i : Nat) : Nat := (img.getD i 0).toNat

/-- A two-byte field of the image. -/
def imageWord (img : List Byte) (i : Nat) : Nat := 256 * imageByte img i + imageByte img (i + 1)

/-- A parameter that has a default: the default when its mask bit is set, else its field (R150). -/
def orDefault (img : List Byte) (bit : Nat) (dflt field : Nat) : Nat :=
  if (imageWord img 2).testBit bit then dflt else field

/-- The parameters in use of an image: T 10-1 with the defaults of T 10-2 applied (R150). -/
def paramsOf (img : List Byte) : Params :=
  { station := imageByte img 4
    priority := orDefault img 0 1 (imageByte img 5)
    min := imageWord img 6
    max := imageWord img 8
    options := imageByte img 10
    trimMargin := orDefault img 1 20 (imageWord img 11)
    trimTime := orDefault img 2 60 (imageWord img 13)
    tolerance := orDefault img 3 10 (imageWord img 15)
    overdrawTime := orDefault img 4 10 (imageByte img 17)
    recoveryHold := orDefault img 5 60 (imageWord img 18)
    loadScale := imageWord img 20
    feederScale := imageWord img 22
    window := orDefault img 6 64 (imageByte img 24)
    threshold := orDefault img 7 8 (imageByte img 25)
    lineRate := orDefault img 8 1 (imageByte img 26)
    feederLimit := imageWord img 27
    reserve := orDefault img 9 0 (imageWord img 29)
    fallback := orDefault img 10 60 (imageWord img 31)
    cycleUnits := orDefault img 11 10 (imageByte img 33)
    silenceLimit := orDefault img 12 4 (imageByte img 34)
    forgetTime := orDefault img 13 120 (imageWord img 35)
    raiseHold := orDefault img 14 5 (imageByte img 37)
    shedHold := orDefault img 15 30 (imageByte img 38)
    bitRate := imageByte img 39 }

/-- The options byte marks the station feeder-sensing (T 10-1). -/
def Params.feederSensing (p : Params) : Bool := p.options.testBit 0

/-- The options byte enables the trim (T 10-1). -/
def Params.trimEnable (p : Params) : Bool := p.options.testBit 1

/-- The cycle period. -/
def Params.cyclePeriod (p : Params) : Time := p.cycleUnits * 100 * Config.msec

/-- The forget time. -/
def Params.forgetPeriod (p : Params) : Time := p.forgetTime * Config.sec

/-- Every parameter within its range in T 10-2, and options bits 7 to 2 zero (R156). -/
def Params.inRange (p : Params) : Bool :=
  decide (p.station ≤ 63) && decide (p.priority ≤ 3) && decide (p.min ≤ p.max) &&
  decide (1 ≤ p.max ∧ p.max ≤ 10000) && decide (p.options < 4) &&
  decide (5 ≤ p.trimMargin ∧ p.trimMargin ≤ 200) && decide (30 ≤ p.trimTime ∧ p.trimTime ≤ 600) &&
  decide (p.tolerance ≤ 100) && decide (1 ≤ p.overdrawTime ∧ p.overdrawTime ≤ 60) &&
  decide (5 ≤ p.recoveryHold ∧ p.recoveryHold ≤ 300) && decide (10 ≤ p.loadScale ∧ p.loadScale ≤ 65535) &&
  (!p.feederSensing || decide (10 ≤ p.feederScale ∧ p.feederScale ≤ 65535)) &&
  decide (16 ≤ p.window ∧ p.window ≤ 255) && decide (p.lineRate ≤ 3) &&
  decide (10 ≤ p.feederLimit ∧ p.feederLimit ≤ 20000) && decide (2 ≤ p.cycleUnits ∧ p.cycleUnits ≤ 50) &&
  decide (3 ≤ p.silenceLimit ∧ p.silenceLimit ≤ 15) && decide (10 ≤ p.forgetTime ∧ p.forgetTime ≤ 600) &&
  decide (1 ≤ p.raiseHold ∧ p.raiseHold ≤ 60) && decide (1 ≤ p.shedHold ∧ p.shedHold ≤ 120) &&
  decide (p.bitRate ≤ 2)

/-- The consistency checks of R156; the last is made at full width in milliseconds. -/
def Params.consistent (p : Params) : Bool :=
  decide (p.min ≤ p.max) && decide (p.reserve ≤ p.feederLimit) && decide (p.fallback ≤ p.feederLimit) &&
  decide (p.threshold ≤ p.window) &&
  decide ((p.silenceLimit + 3) * (p.cycleUnits * 100) ≤ p.forgetTime * 1000)

/-- The check word of an image matches (R155, R160). -/
def checkWordOk (img : List Byte) : Bool :=
  decide ((crc16 (img.take 40)).toNat = imageWord img 40)

/-- The judgement of an image in its three steps; NONE says valid (R155). -/
def judgeImage (img : List Byte) : FaultReason :=
  if ¬ (imageByte img 0 = Config.formatCode.toNat ∧ imageByte img 1 = Config.imageLength) then .format
  else if ¬ checkWordOk img then .check
  else if (paramsOf img).inRange && (paramsOf img).consistent then .none
  else .range

/-- The 13 bytes of the network record with the defaults in their fields' encoding (R159). -/
def networkRecord (p : Params) : List Byte :=
  bytesOf p.feederLimit ++ bytesOf p.reserve ++ bytesOf p.fallback ++
  [BitVec.ofNat 8 p.cycleUnits, BitVec.ofNat 8 p.silenceLimit] ++ bytesOf p.forgetTime ++
  [BitVec.ofNat 8 p.raiseHold, BitVec.ofNat 8 p.shedHold, BitVec.ofNat 8 p.bitRate]

/-- The network digest of an image (R159). -/
def networkDigestOf (img : List Byte) : Word16 := crc16 (networkRecord (paramsOf img))

/-- The host line rate of a code (T 10-1, byte 26); a checked image holds one of 0..3 (log 20). -/
def lineRateOf (code : Nat) : LineRate :=
  match code with
  | 0 => .r9600
  | 1 => .r19200
  | 2 => .r57600
  | _ => .r115200

/-- A bit of the share bus lasts 50, 20 or 8 microseconds (R88, T 10-1 byte 39). -/
def bitTime (p : Params) : Time :=
  match p.bitRate with
  | 0 => 50
  | 1 => 20
  | _ => 8

/-! ### Host frames (11.2) -/

/-- The status of a reply (T 11-3). -/
inductive Status where
  | ok | range | state | busy | unknown | format | absent
  deriving DecidableEq, Repr

/-- The status codes of T 11-3. -/
def Status.code : Status → Nat
  | .ok => 0
  | .range => 1
  | .state => 2
  | .busy => 3
  | .unknown => 4
  | .format => 5
  | .absent => 6

/-- The check byte that makes the 8-bit sum of the bytes and itself zero (11.2). -/
def checkByte (bytes : List Byte) : Byte := 0#8 - bytes.foldl (· + ·) 0#8

/-- A reply frame: C3h, length, code with bit 7 set, status byte with the OVERRUN bit, payload, check (R166, T 11-2). -/
def replyFrame (code : Byte) (st : Status) (overrun : Bool) (payload : List Byte) : List Byte :=
  let body := BitVec.ofNat 8 (2 + payload.length) :: (code ||| 0x80#8) ::
    BitVec.ofNat 8 (st.code + if overrun then 128 else 0) :: payload
  Config.startByte :: (body ++ [checkByte body])

/-- The known commands (T 11-2). -/
inductive Cmd where
  | state | demand | peer | plan | counts | note | clearCut | leave | join | restart | config
  deriving DecidableEq, Repr

/-- The codes of T 11-2. -/
def Cmd.code : Cmd → Byte
  | .state => 0x01
  | .demand => 0x02
  | .peer => 0x03
  | .plan => 0x04
  | .counts => 0x05
  | .note => 0x06
  | .clearCut => 0x07
  | .leave => 0x08
  | .join => 0x09
  | .restart => 0x0A
  | .config => 0x0B

/-- The command of a code, none for a code outside T 11-2. -/
def cmdOf (code : Byte) : Option Cmd :=
  match code.toNat with
  | 1 => some .state
  | 2 => some .demand
  | 3 => some .peer
  | 4 => some .plan
  | 5 => some .counts
  | 6 => some .note
  | 7 => some .clearCut
  | 8 => some .leave
  | 9 => some .join
  | 10 => some .restart
  | 11 => some .config
  | _ => none

/-- The payload size of T 11-2. -/
def Cmd.payloadSize : Cmd → Nat
  | .demand => 2
  | .peer => 1
  | .plan => 1
  | .config => Config.imageLength
  | .state => 0
  | .counts => 0
  | .note => 0
  | .clearCut => 0
  | .leave => 0
  | .join => 0
  | .restart => 0

/-- The bytes from the length through the check byte sum to zero in 8 bits (R164). -/
def sumOk (bytes : List Byte) : Bool := decide (bytes.foldl (· + ·) 0#8 = 0#8)

/-- A length byte outside 1..64 ends a host frame at once (R164). -/
def badHostLength (len : Byte) : Bool := decide (len.toNat = 0 ∨ Config.hostLengthMax < len.toNat)

/-- The bytes from the length on are a whole host frame: as many bytes as the length gives, and the check byte (R164). -/
def hostFrameWhole (bytes : List Byte) : Bool :=
  match bytes with
  | [] => false
  | len :: rest => decide (rest.length = len.toNat + 1)

/-- The bytes are a frame that R164 discards for its length or for its sum. -/
def hostFrameFails (bytes : List Byte) : Bool :=
  match bytes with
  | [] => false
  | len :: rest => if badHostLength len then rest.isEmpty else hostFrameWhole bytes && !sumOk bytes

/-- The command in the bytes of a whole frame. -/
def hostCommandOf (bytes : List Byte) : HostCommand :=
  { code := bytes.getD 1 0, payload := (bytes.drop 2).dropLast }

end Sys2Proof.Machine
end

