-- ==== Sys2Proof/Machine/Flags.lean ====
section
/-! DEFINITION. Every flag and condition that is computed from the state, and the codes of T 11-10. -/

namespace Sys2Proof.Machine

/-! ### Parameters and places of the state that rules speak of -/

/-- The parameters in use: the held copy as it stands, with the defaults applied (R150, R160). -/
def State.params (s : State) : Params := paramsOf (s.loader.heldCopy.getD [])

/-- Our own station number, from the held copy as it stands (T 6-4, R160): the low six bits of its byte, all that an
identifier carries (R90, log 20). -/
def State.ownStation (s : State) : Station := Fin.ofNat 64 s.params.station

/-- The entry of a station. -/
def findEntry (n : Station) (es : List Entry) : Option Entry := es.find? (fun e => e.station = n)

/-- The roster's entry for a station. -/
def State.entryOf (s : State) (n : Station) : Option Entry := findEntry n s.roster.entries

/-- Our row in the current plan (R14: an empty table has none); of two rows that bear our number, the first in claimant
order (the model's choice, log 43). -/
def State.ownRow (s : State) : Option Row :=
  match s.planner.plan with
  | none => none
  | some p => p.rows.find? (fun r => r.station = s.ownStation)

/-- Our share in the current plan; it reads 0 while the table is empty (R14). -/
def State.ownShare (s : State) : Current :=
  match s.ownRow with
  | some r => r.share
  | none => 0

/-- The PARKED flag of our station (R12). -/
def State.parked (s : State) : Bool :=
  match s.ownRow with
  | some r => decide (r.outcome = .parked)
  | none => false

/-- The enforcement state is CUT or COOLING (R2, T 5-4). -/
def EnfState.cutOrCooling : EnfState → Bool
  | .cut => true
  | .cooling => true
  | .clear => false
  | .over => false

/-- The CUT flag that our frames carry (T 5-4, R148). -/
def State.cutFlag (s : State) : Bool := s.enf.state.cutOrCooling

/-- The condition under which the CUT output is asserted (R147). -/
def State.cutCondition (s : State) : Bool :=
  decide (s.life.state = .loading) || decide (s.life.state = .fault) || s.cutFlag

/-- The shed active flag (R64). -/
def State.shedActive (s : State) : Bool := s.grantCtl.shedHold.isSome

/-- The station states in which the Roster Unit takes frames and expiries (R22), which are those in which the Bus
Interface assembles frames (R87). -/
def StationState.takesFrames : StationState → Bool
  | .listening => true
  | .joining => true
  | .active => true
  | .isolated => true
  | .leaving => true
  | .loading => false
  | .dormant => false
  | .duplicate => false
  | .fault => false

/-- JOINING, ACTIVE and ISOLATED: the states of full participation (T 4-1). -/
def StationState.participates : StationState → Bool
  | .joining => true
  | .active => true
  | .isolated => true
  | .listening => false
  | .leaving => false
  | .loading => false
  | .dormant => false
  | .duplicate => false
  | .fault => false

/-- The requests accepted in each station state (T 6-2). -/
def StationState.accepts (st : StationState) (k : Kind) : Bool :=
  st.participates || (decide (st = .leaving) && decide (k = .leave))

/-- The requests that may stand in a slot: those T 6-2 accepts, and in LEAVING a SHED held since its entry (R107, R111,
log 11). -/
def StationState.keeps (st : StationState) (k : Kind) : Bool :=
  st.accepts k || (decide (st = .leaving) && decide (k = .shed))

/-! ### Own frame flags -/

/-- The state our frames carry; a STATUS or ANNOUNCE never starts outside JOINING, ACTIVE and ISOLATED (R108). -/
def StationState.reported : StationState → ReportedState
  | .active => .active
  | .isolated => .isolated
  | .joining => .joining
  | .listening => .joining
  | .leaving => .joining
  | .loading => .joining
  | .dormant => .joining
  | .duplicate => .joining
  | .fault => .joining

/-! ### The settled condition and raise permission -/

/-- An entry does not stand in the way of settling: it is not LIVE, or it is confirmed (R50). -/
def Entry.agrees (e : Entry) : Bool := !decide (e.cls = .live) || e.confirmed

/-- The settled condition (R50). -/
def State.settledCondition (s : State) : Bool := !s.roster.overflow && s.roster.entries.all Entry.agrees

/-- Raise permission (R53). -/
def State.permission (s : State) : Bool :=
  decide (s.life.state = .active) && s.grantCtl.settled && decide (s.grantCtl.raiseHold = .expired) && !s.link.degraded

/-! ### The effective demand -/

/-- The effective demand as R2 forms it from the record's other fields (T 1-2). -/
def State.demandFormed (s : State) : Current :=
  if s.enf.state.cutOrCooling then 0
  else match s.meter.trim with
    | some v => v
    | none => s.planner.claim.hostDemand

/-! ### The Meter's settled figures -/

/-- The slow figure when it is settled (R128). -/
def Channel.settledSlow (c : Channel) : Option Current :=
  if c.slowCount = Config.settleCount then c.slow else none

/-- The fast figure that the Enforcement Unit judges: present and settled (R141). -/
def Channel.settledFast (c : Channel) : Option Current :=
  if c.fastSettled then c.fast else none

/-- The trim condition of R131. -/
def State.trimCondition (s : State) : Bool :=
  match s.meter.load.settledSlow with
  | some v => !s.enf.state.cutOrCooling && decide (v + s.params.trimMargin < s.planner.claim.hostDemand)
  | none => false

/-- Our own unmanaged estimate, where the station is feeder-sensing and the Meter holds one (R5, R91, R134). -/
def State.ownEstimate (s : State) : Option Current := if s.params.feederSensing then s.meter.estimate else none

/-! ### Codes of T 11-10 -/

/-- Station state codes. -/
def StationState.code : StationState → Nat
  | .loading => 0
  | .listening => 1
  | .joining => 2
  | .active => 3
  | .isolated => 4
  | .leaving => 5
  | .dormant => 6
  | .duplicate => 7
  | .fault => 8

/-- Loader stage codes. -/
def LoaderStage.code : LoaderStage → Nat
  | .reading => 0
  | .awaitingHost => 1
  | .held => 2
  | .failed => 3

/-- Isolation phase codes. -/
def Phase.code : Phase → Nat
  | .none => 0
  | .hold => 1
  | .fallback => 2
  | .spent => 3

/-- Enforcement state codes. -/
def EnfState.code : EnfState → Nat
  | .clear => 0
  | .over => 1
  | .cut => 2
  | .cooling => 3

/-- Fault reason codes. -/
def FaultReason.code : FaultReason → Nat
  | .none => 0
  | .format => 1
  | .check => 2
  | .range => 3
  | .heldCopy => 4

/-- Restart cause codes. -/
def RestartCause.code : RestartCause → Nat
  | .power => 0
  | .pin => 1
  | .host => 2

/-- Class codes of the digest (T 1-5) and of PEER (T 11-6). -/
def EntryClass.code : EntryClass → Nat
  | .live => 1
  | .quiet => 2
  | .mismatch => 3

/-- Row outcome codes (T 11-7). -/
def RowOutcome.code : RowOutcome → Nat
  | .idle => 0
  | .parked => 1
  | .partly => 2
  | .full => 3

/-- A bit of a byte as a number. -/
def bitValue (b : Bool) (weight : Nat) : Nat := if b then weight else 0

/-- The kind of a notification as T 11-10 codes it. -/
def Notification.kindCode : Notification → Nat
  | .grant _ => 1
  | .stationState _ _ _ => 2
  | .cut _ _ => 3
  | .link _ => 4
  | .shed _ _ => 5
  | .overflow _ => 6
  | .duplicate => 7
  | .fault _ => 8
  | .sense _ _ => 9
  | .roster _ => 10

/-- The content of a notification in the widths and order of T 11-9. -/
def Notification.content : Notification → List Byte
  | .grant v => bytesOf v
  | .stationState st ph stage => [BitVec.ofNat 8 st.code, BitVec.ofNat 8 ph.code, BitVec.ofNat 8 stage.code]
  | .cut e a => [BitVec.ofNat 8 e.code, BitVec.ofNat 8 (bitValue a 1)]
  | .link d => [BitVec.ofNat 8 (bitValue d 1)]
  | .shed d a => bytesOf d ++ [BitVec.ofNat 8 (bitValue a 1)]
  | .overflow b => [BitVec.ofNat 8 (bitValue b 1)]
  | .duplicate => []
  | .fault r => [BitVec.ofNat 8 r.code]
  | .sense l f => [BitVec.ofNat 8 (bitValue l 1 + bitValue f 2)]
  | .roster n => [BitVec.ofNat 8 n]

/-- The flags byte of the STATE reply (T 11-5). -/
def State.flagsByte (s : State) : Byte :=
  BitVec.ofNat 8 (bitValue s.grantCtl.settled 1 + bitValue s.link.degraded 2 + bitValue s.roster.overflow 4 +
    bitValue s.shedActive 8 + bitValue s.parked 16 + bitValue s.meter.trim.isSome 32 + bitValue s.cutOutput 64)

/-- The frame that was taken at the moment of our outcome, before it (R113, R121). -/
def State.firstFrame (s : State) : FirstFrame :=
  match s.bus.attempt with
  | some a => a.first
  | none => .nothing

/-- The slots that we drive after the end of an own attempt: none as its transmitter (R98); the answer to a frame that was
taken first stands (R94, R113, R121). -/
def State.trailerAfterAttempt (s : State) : Trailer := if s.firstFrame = .nothing then .neither else s.bus.trailer

/-- Which line bit of our attempt stands on the bus: the bit times gone since its start bit (log 22). -/
def State.attemptBit (s : State) : Option Nat :=
  s.bus.attempt.map fun a => (s.now - a.startedAt) / bitTime s.params

/-- The REFUSE slot of our attempt has ended, its outcome is due, and no frame was taken before it: the two slots follow the
last bit of the check field with no gap (R99). -/
def State.outcomeDue (s : State) : Bool :=
  match s.bus.attempt, s.attemptBit with
  | some a, some n => decide (a.first = .nothing) && decide (a.frame.lastBit + 3 ≤ n)
  | _, _ => false

end Sys2Proof.Machine
end

