-- ==== Sys2Proof/Machine/Ops.lean ====
section
/-! DEFINITION. Shared operations: the clock, the counters, the notification queue (R176, R178), the request list
(R104, R105, R110, R111, R114), the CUT output (R147), and how a command comes about. -/

namespace Sys2Proof.Machine

/-! ### The clock and how a command comes about -/

/-- The clock at the moment a command arrives: it never goes back (log 1). -/
def State.atTime (s : State) (t : Time) : State := { s with now := max s.now t }

/-- A command that arrives from outside at `t`.  While the RESTART input is asserted the station is held at the values
of a restart (R161), so nothing but time passes. -/
def arrive (t : Time) (s : State) (f : State → State) : Result :=
  .next (if s.restartInput then s.atTime t else f (s.atTime t))

/-- The expiry of one of the part's own timers: it comes about only while the timer runs, at its deadline, or now where
the clock has gone past it (log 1); `f` is given that deadline. -/
def expire (timer : Timer) (s : State) (f : Time → State → State) : Result :=
  match timer with
  | none => .next s
  | some d => .next (if s.restartInput then s else f d (s.atTime d))

/-- An effect that comes about only under a condition (log 3). -/
def onlyIf (c : State → Bool) (f : State → State) (s : State) : State := if c s then f s else s

/-! ### Counters -/

/-- One up, saturating at 65535 (00_scope, Counters). -/
def bump (n : Nat) : Nat := if n < Config.counterMax then n + 1 else n

/-! ### Notifications -/

/-- A notification entered in a queue by its kind (R176): in place, at the tail, or at the tail with the oldest gone. -/
def enterNote (n : Notification) (q : List Notification) : List Notification :=
  if q.any (fun m => m.kindCode == n.kindCode) then q.map (fun m => if m.kindCode = n.kindCode then n else m)
  else if q.length < Config.queueCapacity then q ++ [n]
  else q.tail ++ [n]

/-- Entering a notification discards the oldest: none of the kind is there and the queue is full (R176). -/
def discardsOldest (n : Notification) (q : List Notification) : Bool :=
  !q.any (fun m => m.kindCode == n.kindCode) && decide (Config.queueCapacity ≤ q.length)

/-- A block raises a notification at the Host Port (R176); ATTENTION is asserted (R178). -/
def raiseNote (n : Notification) (s : State) : State :=
  { s with
    attention := true
    host := { s.host with
      queue := enterNote n s.host.queue
      lostFlag := s.host.lostFlag || discardsOldest n s.host.queue
      notesLost := if discardsOldest n s.host.queue then bump s.host.notesLost else s.host.notesLost } }

/-! ### The CUT output and the two states it is driven from -/

/-- The Enforcement Unit drives the CUT output from both states (R147). -/
def driveCut (s : State) : State := { s with cutOutput := s.cutCondition }

/-- The Lifecycle Controller sets the station state and the isolation phase; a change of either raises STATION STATE
(R66) and the CUT output is driven again (R147). -/
def setStation (st : StationState) (ph : Phase) (s : State) : State :=
  if s.life.state = st ∧ s.life.phase = ph then s
  else raiseNote (.stationState st ph s.loader.stage)
    (driveCut { s with life := { s.life with state := st, phase := ph } })

/-- The Enforcement Unit sets its state and drives the CUT output (R147); the notification of R148 is raised apart. -/
def setEnf (e : EnfState) (s : State) : State := driveCut { s with enf := { s.enf with state := e } }

/-- The CUT notification reports the enforcement state and the CUT output (R148). -/
def noteCut (s : State) : State := raiseNote (.cut s.enf.state s.cutOutput) s

/-! ### The request list -/

/-- The slot of a kind. -/
def Scheduler.slot (c : Scheduler) : Kind → Option Request
  | .shed => c.shed
  | .leave => c.leave
  | .announce => c.announce
  | .status => c.status

/-- The list with the slot of a kind replaced. -/
def Scheduler.setSlot (c : Scheduler) (k : Kind) (r : Option Request) : Scheduler :=
  match k with
  | .shed => { c with shed := r }
  | .leave => { c with leave := r }
  | .announce => { c with announce := r }
  | .status => { c with status := r }

/-- A block raises a request (R105): discarded where T 6-2 does not accept the kind, else a new request with retry
count 0, or the waiting one with the larger excess. -/
def raiseRequest (k : Kind) (excess : Current) (s : State) : State :=
  if s.life.state.accepts k then
    { s with sched := s.sched.setSlot k (match s.sched.slot k with
      | none => some { retry := 0, excess := excess }
      | some r => some { r with excess := max r.excess excess }) }
  else s

/-- A request returned to its slot (R110, R111): discarded where the state does not keep its kind; one request is left,
with the larger retry count and the larger excess. -/
def returnRequest (k : Kind) (r : Request) (s : State) : State :=
  if s.life.state.keeps k then
    { s with sched := s.sched.setSlot k (match s.sched.slot k with
      | none => some r
      | some q => some { retry := max r.retry q.retry, excess := max r.excess q.excess }) }
  else s

/-- The whole list is emptied and the STATUS spacing timer stopped (R114). -/
def emptyRequests (s : State) : State :=
  { s with sched := { s.sched with shed := none, leave := none, announce := none, status := none, spacing := none } }

/-- The host LEAVE cancels the STATUS and ANNOUNCE requests held in the list (R114). -/
def cancelClaims (s : State) : State :=
  { s with sched := { s.sched with announce := none, status := none } }

/-- A request may go (R107): its slot holds one that the state keeps, and a STATUS only while the spacing timer is
stopped (R109). -/
def State.eligible (s : State) (k : Kind) : Bool :=
  (s.sched.slot k).isSome && s.life.state.keeps k && (!decide (k = .status) || s.sched.spacing.isNone)

/-- The request the Transmit Scheduler offers: the first eligible one in the order SHED, LEAVE, ANNOUNCE, STATUS (R107). -/
def State.offered (s : State) : Option Kind :=
  [Kind.shed, Kind.leave, Kind.announce, Kind.status].find? s.eligible

/-! ### The receive side of the Bus Interface -/

/-- The Bus Interface drops its assembly and drives no slot, as in the states in which it assembles nothing (R87, R98). -/
def silenceBus (s : State) : State :=
  { s with bus := { s.bus with assembly := .empty, trailer := .neither } }

/-- Line state and assembly as at every entry into LISTENING (R87). -/
def resetLine (s : State) : State :=
  { s with bus := { s.bus with recessive := 0, idle := false, endLeft := 0, assembly := .empty } }

/-- The receive assembly is in progress and still good. -/
def Assembly.isGood : Assembly → Bool
  | .good _ _ _ => true
  | .empty => false
  | .abandoned => false

/-- A frame is being taken: the state assembles (R87) and an assembly that began at a start bit on the idle bus, or with
our own attempt, is still good (R93 to R95). -/
def State.receiving (s : State) : Bool := s.life.state.takesFrames && s.bus.assembly.isGood

/-- The bytes go on from the bits the assembly holds, in which no coding violation stands (R89, R93, R94). -/
def Assembly.goesOnTo (a : Assembly) (bytes : List Byte) : Bool :=
  match a with
  | .good _ bits run => decide (run ≤ 5) && bits.isPrefixOf (bitsOf bytes)
  | .empty => false
  | .abandoned => false

/-- These bytes can be the frame being taken. -/
def State.canTake (s : State) (bytes : List Byte) : Bool :=
  s.life.state.takesFrames && s.bus.assembly.goesOnTo bytes

/-- A complete frame of these bytes has been taken at the last bit of its check field: the two slots and the end field are
still to come (R88, R95, T 5-1). -/
def frameEnds (bytes : List Byte) (s : State) : State :=
  { s with bus := { s.bus with
      recessive := countRecessive 0 (lineBitsOf bytes), endLeft := Config.slotBits + Config.endBits } }

/-! ### A restart (R161, R162) -/

/-- A restart of any kind: every block at its restart values (T 10-4), the cause recorded.  Only the clock, the queue of
commands and the level of the RESTART input stand outside the blocks; while that input is asserted the read has not
begun (R161). -/
def restartWith (cause : RestartCause) (s : State) : State :=
  { State.reset with
    now := s.now
    pending := s.pending
    restartInput := s.restartInput
    loader := Loader.initial cause (if s.restartInput then .idle else .header) }

end Sys2Proof.Machine
end

