-- ==== Sys2Proof/Machine/Planner.lean ====
section
/-! DEFINITION. The Share Planner (chapter 1): headroom, pool, claimant order, the division, the plan table and the
roster digest. -/

namespace Sys2Proof.Machine

/-! ### Headroom and pool (R5, R6) -/

/-- The largest of the unmanaged estimates that count: our own, where the station is feeder-sensing and the Meter holds
one, and those of LIVE entries; 0 where there is none (R5). -/
def State.umax (s : State) : Current :=
  s.roster.entries.foldl
    (fun u e => if e.cls = .live then max u (e.estimate.getD 0) else u)
    (s.ownEstimate.getD 0)

/-- The headroom H = max(0, L - R0 - Umax - D) (R5). -/
def State.headroom (s : State) : Current :=
  s.params.feederLimit - s.params.reserve - s.umax - s.grantCtl.deficit

/-- What one entry takes from the headroom: F while QUIET, its reported max while MISMATCH (R6). -/
def Entry.reservation (fallback : Current) (e : Entry) : Current :=
  match e.cls, e.origin with
  | .quiet, _ => fallback
  | .mismatch, .heard r => r.max
  | .mismatch, .hearsay => 0
  | .live, _ => 0

/-- The reservation Q, at full width (R6). -/
def State.reserved (s : State) : Current :=
  (s.roster.entries.map (Entry.reservation s.params.fallback)).sum

/-- The pool P = max(0, H - Q) (R6). -/
def State.pool (s : State) : Current := s.headroom - s.reserved

/-! ### Rows and claimant order (R7, R8) -/

/-- A row before the division: IDLE where the demand is 0, else a claimant with share 0. -/
def claimRow (n : Station) (pr : Fin 4) (mn dm : Current) : Row :=
  { station := n, priority := pr, min := mn, demand := dm, share := 0,
    outcome := if dm = 0 then .idle else .partly }

/-- The row of a LIVE entry (R7). -/
def Entry.row? (e : Entry) : Option Row :=
  match e.cls, e.origin with
  | .live, .heard r => some (claimRow e.station r.priority r.min r.demand)
  | _, _ => none

/-- Our own row, under our station number (R7). -/
def OwnClaim.row (c : OwnClaim) (n : Station) : Row := claimRow n c.priority c.min c.effectiveDemand

/-- Claimant order: priority 3 first, within one priority ascending station number (R8). -/
def Row.before (a b : Row) : Bool :=
  decide (b.priority < a.priority) || (decide (a.priority = b.priority) && decide (a.station < b.station))

/-- A row put at its place in claimant order (R8); behind a row of the same priority and number (the model's choice,
log 43). -/
def insertRow (r : Row) : List Row → List Row
  | [] => [r]
  | x :: xs => if r.before x then r :: x :: xs else x :: insertRow r xs

/-- Rows in claimant order. -/
def sortRows : List Row → List Row
  | [] => []
  | r :: rs => insertRow r (sortRows rs)

/-- The rows of a new plan before the division, in claimant order (R7, R8). -/
def State.claimRows (s : State) : List Row :=
  sortRows (s.planner.claim.row s.ownStation :: s.roster.entries.filterMap Entry.row?)

/-! ### The division (R9 to R12) -/

/-- The floor walk: each claimant its min in claimant order while the remainder lasts, else PARKED (R9).  A row whose min
lies above its demand, as a fault of the storage lets ours come to be, is given its min too (the model's choice, log 48). -/
def floorWalk (rem : Current) : List Row → List Row × Current
  | [] => ([], rem)
  | r :: rs =>
    if r.outcome = .idle then
      let (out, left) := floorWalk rem rs
      (r :: out, left)
    else if r.min ≤ rem then
      let (out, left) := floorWalk (rem - r.min) rs
      ({ r with share := r.min } :: out, left)
    else
      let (out, left) := floorWalk rem rs
      ({ r with outcome := .parked } :: out, left)

/-- A member of the unfilled set (R10). -/
def Row.unfilled (r : Row) : Bool := decide (r.outcome = .partly) && decide (r.share < r.demand)

/-- One round: each member receives the smaller of q and what it lacks; with the total given (R10). -/
def giveRound (q : Current) : List Row → List Row × Current
  | [] => ([], 0)
  | r :: rs =>
    let (out, given) := giveRound q rs
    if r.unfilled then ({ r with share := r.share + min q (r.demand - r.share) } :: out, given + min q (r.demand - r.share))
    else (r :: out, given)

/-- The leftover step: each member in claimant order receives 1 unit until the remainder is 0 (R11). -/
def leftover (rem : Current) : List Row → List Row × Current
  | [] => ([], rem)
  | r :: rs =>
    if r.unfilled ∧ 0 < rem then
      let (out, left) := leftover (rem - 1) rs
      ({ r with share := r.share + 1 } :: out, left)
    else
      let (out, left) := leftover rem rs
      (r :: out, left)

/-- The fill (R10): rounds while the unfilled set is not empty and the remainder is above 0.  A round with q of 1 or
more removes a member or leaves less than one unit each, so `fuel` of two more than the rows is never used up. -/
def fillRounds (fuel : Nat) (rem : Current) (rows : List Row) : List Row × Current :=
  match fuel with
  | 0 => (rows, rem)
  | fuel + 1 =>
    let n := (rows.filter Row.unfilled).length
    if n = 0 ∨ rem = 0 then (rows, rem)
    else if rem / n = 0 then leftover rem rows
    else
      let (out, given) := giveRound (rem / n) rows
      fillRounds fuel (rem - given) out

/-- The outcome of a row when the division is complete (R12).  R12 gives none for a share above the demand; such a row, which
a fault of the storage lets ours become, stays PARTIAL (the model's choice, log 48). -/
def Row.close (r : Row) : Row :=
  if r.outcome = .partly ∧ r.share = r.demand then { r with outcome := .full } else r

/-- The division of a pool among rows in claimant order, with the unassigned remainder (R9 to R12). -/
def divide (pool : Current) (rows : List Row) : List Row × Current :=
  let (walked, rem) := floorWalk pool rows
  let (filled, left) := fillRounds (rows.length + 2) rem walked
  (filled.map Row.close, left)

/-- The plan computed from the inputs as they stand (R16). -/
def State.planNow (s : State) : Plan :=
  { rows := (divide s.pool s.claimRows).1, pool := s.pool, remainder := (divide s.pool s.claimRows).2,
    headroom := s.headroom, umax := s.umax, deficit := s.grantCtl.deficit }

/-- No plan is computed in LOADING (R1) and in FAULT (R14). -/
def StationState.plans : StationState → Bool
  | .loading => false
  | .fault => false
  | .listening => true
  | .joining => true
  | .active => true
  | .isolated => true
  | .leaving => true
  | .dormant => true
  | .duplicate => true

/-- A new plan has a larger H or P than the plan it replaces; the first plan always counts (R5). -/
def increases (old : Option Plan) (new : Plan) : Bool :=
  match old with
  | none => true
  | some q => decide (q.headroom < new.headroom) || decide (q.pool < new.pool)

/-! ### The roster digest (R18) -/

/-- The three bytes of a digest element (T 1-5). -/
def digestElement (n : Station) (cls : EntryClass) (third : Byte) : List Byte :=
  [BitVec.ofNat 8 n.val, BitVec.ofNat 8 cls.code, third]

/-- The element of an entry: its claim serial while LIVE, else 0 (R18). -/
def Entry.element (e : Entry) : List Byte :=
  digestElement e.station e.cls (match e.cls, e.origin with
    | .live, .heard r => r.serial
    | _, _ => 0)

/-- The bytes under the digest: the entries in ascending station number, our own element at its place (R18); behind the
element of an entry that bears our number (the model's choice, log 43). -/
def digestBytes (own : Station) (serial : Byte) : List Entry → List Byte
  | [] => digestElement own .live serial
  | e :: es =>
    if own < e.station then digestElement own .live serial ++ (e :: es).flatMap Entry.element
    else e.element ++ digestBytes own serial es

/-- The roster digest over the elements as they stand (R18). -/
def State.digestNow (s : State) : Word16 :=
  crc16 (digestBytes s.ownStation s.planner.claim.serial s.roster.entries)

/-! ### What counts as a change (R15, R19) -/

/-- What of an entry counts for the digest: number, class, and while LIVE its serial, priority, min and demand (R19). -/
structure DigestKey where
  station : Station
  cls : EntryClass
  live : Option (Byte × Fin 4 × Current × Current)
  deriving DecidableEq, Repr

/-- What of an entry counts for the plan: number, class, while LIVE its priority, min, demand and estimate, while
MISMATCH its reported max (R15). -/
structure PlanKey where
  station : Station
  cls : EntryClass
  live : Option (Fin 4 × Current × Current × Option Current)
  mismatchMax : Option Current
  deriving DecidableEq, Repr

/-- The part of an entry that counts for the digest. -/
def Entry.digestKey (e : Entry) : DigestKey :=
  { station := e.station, cls := e.cls, live := match e.cls, e.origin with
    | .live, .heard r => some (r.serial, r.priority, r.min, r.demand)
    | _, _ => none }

/-- The part of an entry that counts for the plan. -/
def Entry.planKey (e : Entry) : PlanKey :=
  { station := e.station, cls := e.cls
    live := match e.cls, e.origin with
      | .live, .heard r => some (r.priority, r.min, r.demand, e.estimate)
      | _, _ => none
    mismatchMax := match e.cls, e.origin with
      | .mismatch, .heard r => some r.max
      | _, _ => none }

/-- An event has changed an element of the digest, or a LIVE entry's priority, min or demand (R19). -/
def digestChanged (a b : State) : Bool :=
  decide (a.roster.entries.map Entry.digestKey ≠ b.roster.entries.map Entry.digestKey) ||
  decide (a.planner.claim.serial ≠ b.planner.claim.serial)

/-- An event has changed an input of the plan (R15). -/
def planInputChanged (a b : State) : Bool :=
  decide (a.roster.entries.map Entry.planKey ≠ b.roster.entries.map Entry.planKey) ||
  decide (a.planner.claim.effectiveDemand ≠ b.planner.claim.effectiveDemand) ||
  decide (a.meter.estimate ≠ b.meter.estimate) || decide (a.grantCtl.deficit ≠ b.grantCtl.deficit)

/-- An event has admitted an entry, removed one, or changed the class of one (R42). -/
def membershipChanged (a b : State) : Bool :=
  decide (a.roster.entries.map (fun e => (e.station, e.cls)) ≠ b.roster.entries.map (fun e => (e.station, e.cls)))

/-! ### The own claim (R2, R3) -/

/-- The effective demand is formed again; a changed value moves the claim serial, 255 being followed by 0 (R3). -/
def formDemand (s : State) : State :=
  if s.demandFormed = s.planner.claim.effectiveDemand then s
  else { s with planner := { s.planner with claim := { s.planner.claim with
    effectiveDemand := s.demandFormed, serial := s.planner.claim.serial + 1 } } }

/-- The digest is computed again over the elements as they stand (R19). -/
def recomputeDigest (s : State) : State := { s with planner := { s.planner with digest := s.digestNow } }

/-- The new plan replaces the table whole (R14). -/
def replacePlan (s : State) : State := { s with planner := { s.planner with plan := some s.planNow } }

end Sys2Proof.Machine
end

