-- ==== Sys2Proof/Machine/Grant.lean ====
section
/-! DEFINITION. The Grant Controller (chapter 3), the Lifecycle Controller's entries (chapter 4), and the hand-off
between the Share Planner and the two (R4, R17). -/

namespace Sys2Proof.Machine

/-! ### Changes of the grant (R54 to R59) -/

/-- A change of the grant, handed on as R59 states: the GRANT notification and the STATUS request. -/
def setGrant (g : Current) (s : State) : State :=
  if s.grantCtl.grant = g then s
  else raiseRequest .status 0 (raiseNote (.grant g) { s with grantCtl := { s.grantCtl with grant := g } })

/-- A raise is weighed: in ACTIVE, with raise permission and our standing share above the grant, the grant becomes the
share in one step (R55). -/
def weighRaise (s : State) : State :=
  if s.permission ∧ s.grantCtl.grant < s.ownShare then setGrant s.ownShare s else s

/-- Our share in the standing plan meets the grant: below it, it lowers the grant at once in ACTIVE and JOINING (R54,
R56); above it, it is weighed for a raise in ACTIVE (R55); elsewhere it does nothing (R58). -/
def takeShare (s : State) : State :=
  if (s.life.state = .active ∨ s.life.state = .joining) ∧ s.ownShare < s.grantCtl.grant then setGrant s.ownShare s
  else weighRaise s

/-- The raise hold is restarted in full (R52). -/
def restartRaiseHold (s : State) : State :=
  { s with grantCtl := { s.grantCtl with raiseHold := .running (s.now + s.params.raiseHold * Config.sec) } }

/-- Every confirmed flag is cleared (R49). -/
def clearConfirmations (s : State) : State :=
  { s with roster := { s.roster with entries := s.roster.entries.map (fun e => { e with confirmed := false }) } }

/-- A change of our own digest reaches the Grant Controller (R49, R52) and the Transmit Scheduler (R19). -/
def takeDigestChange (s : State) : State := raiseRequest .status 0 (restartRaiseHold (clearConfirmations s))

/-! ### Station states that the Lifecycle Controller enters -/

/-- Entry into ACTIVE: the share is compared with the grant (R57, R71). -/
def enterActive (s : State) : State := takeShare (setStation .active .none s)

/-- Entry into JOINING (R70, R78): the phase NONE, the isolation deadlines cancelled, the grant compared with our share
(R56), and the settled condition judged (R71). -/
def enterJoining (s : State) : State :=
  let s := setStation .joining .none { s with life := { s.life with fallbackAt := none, spentAt := none } }
  let s := takeShare s
  if s.grantCtl.settled then enterActive s else s

/-- The settled condition is evaluated again (R50); a flag that becomes set takes JOINING to ACTIVE and has a raise
weighed (R51). -/
def evalSettled (s : State) : State :=
  if s.settledCondition = s.grantCtl.settled then s
  else
    let s' := { s with grantCtl := { s.grantCtl with settled := s.settledCondition } }
    if s.settledCondition then (if s.life.state = .joining then enterActive s' else weighRaise s') else s'

/-! ### Handing an event on (R4, R16, R17, R42) -/

/-- What the Share Planner does when an event has been taken whole: the digest is recomputed before the plan; then the
digest change goes to the Grant Controller, then an increase of headroom, then our share (R17).  No plan is computed in
LOADING and FAULT. -/
def handOn (dig pln : Bool) (s : State) : State :=
  let s1 := if dig then recomputeDigest s else s
  let plans := pln && s1.life.state.plans
  let grown := plans && increases s1.planner.plan s1.planNow
  let s2 := if plans then replacePlan s1 else s1
  let s3 := if dig then takeDigestChange s2 else s2
  let s4 := if grown then restartRaiseHold s3 else s3
  if plans then takeShare s4 else s4

/-- An event that began in `before` and has been taken whole is handed on by what it changed (R15, R19, R42). -/
def commit (before s : State) : State := handOn (digestChanged before s) (planInputChanged before s) s

/-- In ISOLATED the grant follows our effective demand: in HOLD downwards only (R77), in FALLBACK up to F (R75). -/
def followDemand (s : State) : State :=
  if s.life.state = .isolated then
    match s.life.phase with
    | .hold => setGrant (min s.grantCtl.grant s.planner.claim.effectiveDemand) s
    | .fallback => setGrant (min s.params.fallback s.planner.claim.effectiveDemand) s
    | .spent => s
    | .none => s
  else s

/-- An event that may have changed an input of the effective demand is handed on: the demand is formed once, after the
event has been taken whole (R3), then the Share Planner's hand-off, then the STATUS request (R4) and the Lifecycle
Controller (R75, R77); the settled condition follows a digest change (R50). -/
def commitDemand (before s : State) : State :=
  let s1 := formDemand s
  let s2 := commit before s1
  let s3 := if before.planner.claim.effectiveDemand = s1.planner.claim.effectiveDemand then s2
    else followDemand (raiseRequest .status 0 s2)
  if digestChanged before s1 then evalSettled s3 else s3

/-! ### The shed deficit (R61 to R64) -/

/-- An excess is applied: D becomes the larger of D and the excess, the shed hold restarts in full, and a change of D or
of the shed active flag raises the SHED notification (R61, R62, R64).  The plan is the event's own business. -/
def applyShed (excess : Current) (s : State) : State :=
  let s' := { s with grantCtl := { s.grantCtl with
    deficit := max s.grantCtl.deficit excess
    shedHold := some (s.now + s.params.shedHold * Config.sec) } }
  if s.grantCtl.deficit < excess ∨ !s.shedActive then raiseNote (.shed (max s.grantCtl.deficit excess) true) s' else s'

/-! ### ISOLATED (R74 to R76) -/

/-- The FALLBACK deadline: t_any plus the silence limit plus one, in cycle periods (R74). -/
def State.fallbackDue (s : State) : Time :=
  s.life.tAny.getD 0 + (s.params.silenceLimit + 1) * s.params.cyclePeriod

/-- The SPENT deadline: t_clean plus the forget time, less one cycle period (R74). -/
def State.spentDue (s : State) : Time :=
  s.life.tClean.getD 0 + s.params.forgetPeriod - s.params.cyclePeriod

/-- Entry into ISOLATED (R74): the phase that stands after the deadlines already reached, and the grant of that phase,
handed on once. -/
def enterIsolated (s : State) : State :=
  let ph : Phase := if s.spentDue ≤ s.now then .spent else if s.fallbackDue ≤ s.now then .fallback else .hold
  let g : Current := match ph with
    | .spent => 0
    | .fallback => min s.params.fallback s.planner.claim.effectiveDemand
    | .hold => min s.grantCtl.grant (min s.params.fallback s.planner.claim.effectiveDemand)
    | .none => 0
  setGrant g (setStation .isolated ph
    { s with life := { s.life with fallbackAt := some s.fallbackDue, spentAt := some s.spentDue } })

/-- The phase SPENT with grant 0 (R76). -/
def enterSpent (s : State) : State := setGrant 0 (setStation .isolated .spent s)

/-- The phase FALLBACK with the smaller of F and our effective demand (R75). -/
def enterFallback (s : State) : State :=
  setGrant (min s.params.fallback s.planner.claim.effectiveDemand) (setStation .isolated .fallback s)

/-! ### LISTENING, LEAVING, DORMANT, DUPLICATE, FAULT -/

/-- What every entry into LISTENING does (R69, R87): line state and assembly afresh, the listen timer, both marks, the
isolation count 0, a grant of 0. -/
def enterListening (s : State) : State :=
  let s := setStation .listening .none (resetLine s)
  let s := { s with
    life := { s.life with
      listen := some (s.now + Config.listenCycles * s.params.cyclePeriod), tClean := some s.now, tAny := some s.now }
    sched := { s.sched with isolationCount := 0 } }
  setGrant 0 s

/-- Host LEAVE (R79): LEAVING, timers cancelled, a grant of 0, the claims cancelled, the LEAVE request raised. -/
def enterLeaving (s : State) : State :=
  let s := setStation .leaving .none
    { s with life := { s.life with listen := none, fallbackAt := none, spentAt := none } }
  raiseRequest .leave 0 (cancelClaims (setGrant 0 s))

/-- The Roster Unit raises OVERFLOW for a change of the overflow flag and then ROSTER for a change of membership (R42). -/
def noteRoster (before s : State) : State :=
  let s := if before.roster.overflow = s.roster.overflow then s else raiseNote (.overflow s.roster.overflow) s
  if membershipChanged before s then raiseNote (.roster s.roster.entries.length) s else s

/-- Entry into DORMANT (R81): roster, overflow flag and forgotten set emptied, the list emptied, the isolation count 0,
the bus silent; the digest over our own element alone (handed on as a change where an entry went, log 10) and a plan of
our own row.
STATION STATE is raised first, then OVERFLOW, then ROSTER (the model's choice, log 40). -/
def enterDormant (s : State) : State :=
  let b := emptyRequests (silenceBus (setStation .dormant .none s))
  let s := { b with
    roster := { b.roster with entries := [], overflow := false, forgotten := [] }
    sched := { b.sched with isolationCount := 0 } }
  evalSettled (handOn (digestChanged b s) true (recomputeDigest (noteRoster b s)))

/-- Every running forget timer stops and the roster is held (R22). -/
def holdRoster (s : State) : State :=
  { s with roster := { s.roster with entries := s.roster.entries.map (fun e => { e with forget := none }) } }

/-- Entry into DUPLICATE (R82): notifications in the order DUPLICATE, STATION STATE, GRANT; timers and deadlines
cancelled, the list emptied, the roster held, the bus silent. -/
def enterDuplicate (s : State) : State :=
  let s := setStation .duplicate .none (raiseNote .duplicate
    { s with life := { s.life with listen := none, fallbackAt := none, spentAt := none } })
  setGrant 0 (holdRoster (emptyRequests (silenceBus s)))

/-- A running timer becomes held with the time it has left (R140, R143). -/
def EnfTimer.hold (t : EnfTimer) (now : Time) : EnfTimer :=
  match t with
  | .running d => .held (d - now)
  | .held l => .held l
  | .stopped => .stopped

/-- A held timer runs again for the time it has left (R143). -/
def EnfTimer.resume (t : EnfTimer) (now : Time) : EnfTimer :=
  match t with
  | .held l => .running (now + l)
  | .running d => .running d
  | .stopped => .stopped

/-- Both timers of the Enforcement Unit become held (R140, R143). -/
def holdEnforcement (s : State) : State :=
  { s with enf := { s.enf with overdraw := s.enf.overdraw.hold s.now, recovery := s.enf.recovery.hold s.now } }

/-- Entry into FAULT with a reason (R83, R158, R160): notifications in the order FAULT, STATION STATE, GRANT; every
lifecycle timer but the cycle timer cancelled, the list emptied, an attempt on the line broken off with no outcome
(R102), the plan emptied (R14), the roster held (R22), the Meter and the Enforcement Unit held (R124, R140). -/
def enterFault (r : FaultReason) (s : State) : State :=
  let s := raiseNote (.fault r)
    { s with loader := { s.loader with stage := .failed, readStep := .idle, reason := r, reverify := none } }
  let s := setStation .fault .none
    { s with life := { s.life with listen := none, fallbackAt := none, spentAt := none } }
  let s := holdEnforcement (holdRoster (emptyRequests (silenceBus s)))
  setGrant 0 { s with
    bus := { s.bus with attempt := none }
    sched := { s.sched with inFlight := none }
    planner := { s.planner with plan := none }
    meter := { s.meter with update := none, watch := none } }

/-! ### The Link Monitor (chapter 7) -/

/-- A window closes and DEGRADED becomes `d`: a change raises LINK, and a flag that clears has a raise weighed (R65,
R119, R120). -/
def closeWindow (d : Bool) (s : State) : State :=
  let s' := { s with link := { events := 0, damaged := 0, degraded := d } }
  if s.link.degraded = d then s'
  else if d then raiseNote (.link d) s' else weighRaise (raiseNote (.link d) s')

/-- The next frame event closes the window: it brings the count to W (R119). -/
def State.windowDue (s : State) : Bool := decide (s.params.window ≤ s.link.events + 1)

/-- One frame event (R117 to R119): counted, damaged or not; the event that brings the count to W closes the window. -/
def frameEvent (damaged : Bool) (s : State) : State :=
  let d := if damaged then s.link.damaged + 1 else s.link.damaged
  if s.windowDue then closeWindow (decide (s.params.threshold < d)) s
  else { s with link := { s.link with events := s.link.events + 1, damaged := d } }

end Sys2Proof.Machine
end

