-- ==== Sys2Proof/Machine/Outcome.lean ====
section
/-! DEFINITION. Own frames and the outcomes of own attempts: the content taken at the start bit (R108, T 6-4), the
disposal of the request (R110, R111) and the hand-off (R112). -/

namespace Sys2Proof.Machine

/-! ### The content of our frames (R91, R108, T 6-4) -/

/-- The quiet set: the numbers of all QUIET entries (R33). -/
def quietSet (entries : List Entry) : BitVec 64 :=
  entries.foldl (fun q e => if e.cls = .quiet then q ||| (0x8000000000000000#64 >>> e.station.val) else q) 0

/-- A current as a frame field. -/
def field16 (n : Nat) : Word16 := BitVec.ofNat 16 n

/-- Our network digest as frames carry it. -/
def State.ownNetwork (s : State) : Word16 := s.loader.networkDigest.getD 0

/-- The claim part of our ANNOUNCE and STATUS (T 6-4). -/
def State.claimPart (s : State) : ClaimPart :=
  { serial := s.planner.claim.serial
    flags := { state := s.life.state.reported, priority := s.planner.claim.priority, degraded := s.link.degraded,
               cut := s.cutFlag, parked := s.parked }
    min := field16 s.planner.claim.min, max := field16 s.planner.claim.max
    demand := field16 s.planner.claim.effectiveDemand }

/-- The fields of our STATUS alone: the measured draw while the load slow figure is settled (R91, R130), the unmanaged
estimate while the station is feeder-sensing and the Meter holds one (R91, R135). -/
def State.statusPart (s : State) : StatusPart :=
  { rosterDigest := s.planner.digest, grant := field16 s.grantCtl.grant, quiet := quietSet s.roster.entries
    draw := s.meter.load.settledSlow.map field16
    estimate := s.ownEstimate.map field16 }

/-- The frame of a request, taken from the blocks as they stand (R108); a SHED carries the excess of its request. -/
def State.frameFor (s : State) (k : Kind) (r : Request) : Frame :=
  match k with
  | .shed => .shed s.ownStation s.ownNetwork (field16 r.excess)
  | .leave => .leave s.ownStation s.ownNetwork s.planner.claim.serial
  | .announce => .announce s.ownStation s.ownNetwork s.claimPart
  | .status => .status s.ownStation s.ownNetwork s.claimPart s.statusPart

/-! ### Counting and disposal (R101, R109, R110, R111) -/

/-- The counters of an outcome (R101). -/
def BusInterface.count (b : BusInterface) : AttemptOutcome → BusInterface
  | .accepted => { b with framesSent := bump b.framesSent }
  | .partly => { b with framesSent := bump b.framesSent, partly := bump b.partly }
  | .unheard => { b with framesSent := bump b.framesSent, unheard := bump b.unheard }
  | .lost => { b with lost := bump b.lost }
  | .aborted => { b with aborted := bump b.aborted }

/-- The outcomes after which a request is tried again (T 6-5). -/
def AttemptOutcome.retried : AttemptOutcome → Bool
  | .partly => true
  | .aborted => true
  | .accepted => false
  | .unheard => false
  | .lost => false

/-- The outcome drops the request: ABORTED or PARTIAL with the count at 3 (T 6-5). -/
def AttemptOutcome.drops (o : AttemptOutcome) (r : Request) : Bool :=
  o.retried && decide (Config.retryLimit ≤ r.retry)

/-- The disposal of the request that was in flight (R110, R111): removed, returned, returned with its count raised, or
dropped and counted (R115). -/
def disposeRequest (o : AttemptOutcome) (a : InFlight) (s : State) : State :=
  match o with
  | .accepted => s
  | .unheard => s
  | .lost => returnRequest a.kind a.request s
  | .partly | .aborted =>
    if o.drops a.request then { s with sched := { s.sched with requestsDropped := bump s.sched.requestsDropped } }
    else returnRequest a.kind { a.request with retry := a.request.retry + 1 } s

/-- The STATUS spacing timer starts at the end of each STATUS attempt that took the bus (R109). -/
def startSpacing (o : AttemptOutcome) (k : Kind) (s : State) : State :=
  if k = .status ∧ o ≠ .lost then
    { s with sched := { s.sched with spacing := some (s.now + s.params.cyclePeriod / 4) } }
  else s

/-! ### Hand-off (R112) -/

/-- The report to the Link Monitor: PARTIAL and ABORTED damaged, LOST none (R112, R117). -/
def reportOutcome (o : AttemptOutcome) (s : State) : State :=
  match o with
  | .lost => s
  | .accepted => frameEvent false s
  | .unheard => frameEvent false s
  | .partly => frameEvent true s
  | .aborted => frameEvent true s

/-- The isolation count after an outcome, in JOINING, ACTIVE and ISOLATED (R72, R113). -/
def countIsolation (o : AttemptOutcome) (s : State) : State :=
  if s.life.state.participates then
    match o with
    | .unheard =>
      { s with sched := { s.sched with isolationCount := min Config.isolationLimit (s.sched.isolationCount + 1) } }
    | .accepted => { s with sched := { s.sched with isolationCount := 0 } }
    | .partly => { s with sched := { s.sched with isolationCount := 0 } }
    | .lost => s
    | .aborted => s
  else s

/-- The marks of an outcome (R73). -/
def setMarks (o : AttemptOutcome) (s : State) : State :=
  match o with
  | .accepted => { s with life := { s.life with tClean := some s.now, tAny := some s.now } }
  | .partly => { s with life := { s.life with tAny := some s.now } }
  | .unheard => s
  | .lost => s
  | .aborted => s

/-- An UNHEARD outcome brings the isolation count from 4 to 5 in JOINING or ACTIVE (R72, R113). -/
def State.limitReached (s : State) (o : AttemptOutcome) : Bool :=
  decide (o = .unheard) && (decide (s.life.state = .joining) || decide (s.life.state = .active)) &&
    decide (s.sched.isolationCount + 1 = Config.isolationLimit)

/-- The outcomes that show that a peer took the frame (R73, R78). -/
def AttemptOutcome.heard : AttemptOutcome → Bool
  | .accepted => true
  | .partly => true
  | .unheard => false
  | .lost => false
  | .aborted => false

/-- A LEAVE attempt that ends LEAVING: ACCEPTED, UNHEARD, or the request dropped (R80). -/
def AttemptOutcome.endsLeave (o : AttemptOutcome) (dropped : Bool) : Bool :=
  decide (o = .accepted) || decide (o = .unheard) || dropped

/-- The Lifecycle Controller takes an outcome (R73, R74, R78, R80). -/
def lifecycleOutcome (o : AttemptOutcome) (k : Kind) (limit dropped : Bool) (s : State) : State :=
  let s := setMarks o s
  if limit then enterIsolated s
  else if s.life.state = .isolated ∧ o.heard then enterJoining s
  else if s.life.state = .leaving ∧ k = .leave ∧ o.endsLeave dropped then enterDormant s
  else s

/-- The end of an attempt: counted, disposed of, and handed on to the Link Monitor, the isolation count and the
Lifecycle Controller in this order (R101, R110, R112).  Through its own frame's trailer the transmitter has driven neither
slot; after LOST and ABORTED the answer to the frame that goes on is not fixed yet (R98), unless that frame was taken first
(R121). -/
def endAttempt (o : AttemptOutcome) (a : InFlight) (s : State) : State :=
  let s := { s with
    bus := { s.bus.count o with attempt := none, trailer := s.trailerAfterAttempt }
    sched := { s.sched with inFlight := none } }
  let s := startSpacing o a.kind (disposeRequest o a s)
  let limit := s.limitReached o
  lifecycleOutcome o a.kind limit (o.drops a.request) (countIsolation o (reportOutcome o s))

/-- The outcome read from the two slots of the trailer (T 5-5). -/
def outcomeOf (accept refuse : Bool) : AttemptOutcome :=
  if accept then (if refuse then .partly else .accepted) else .unheard

/-- The attempt on the line with its request, if there is one. -/
def State.ownAttempt (s : State) : Option (Attempt × InFlight) :=
  match s.bus.attempt, s.sched.inFlight with
  | some a, some r => some (a, r)
  | _, _ => none

/-- The attempt on the line, where it can still end through its trailer: our broken frame has not been taken (log 42). -/
def State.openAttempt (s : State) : Option (Attempt × InFlight) :=
  if s.firstFrame = .broken then none else s.ownAttempt

/-- Our frame has reached the end of its REFUSE slot, with these levels in its two slots; its end field is still to come
(R88, R99, R100). -/
def slotsRead (accept refuse : Bool) (f : Frame) (s : State) : State :=
  { s with bus := { s.bus with
      recessive := countRecessive 0 (f.lineBits ++ [!accept, !refuse]), endLeft := Config.endBits } }

/-- The attempt ends with what it read from the trailer (R99). -/
def takeOutcome (accept refuse : Bool) (s : State) : State :=
  match s.openAttempt with
  | none => s
  | some (a, r) => endAttempt (outcomeOf accept refuse) r (slotsRead accept refuse a.frame s)

/-- What the receive side goes on with after bit `pos` was read inverted (R93, R94), and the count of recessive bits up to it
(R88); no assembly where the state assembles nothing (R87), and neither where a frame was taken before the outcome (R121). -/
def keepAssembling (origin : AssemblyOrigin) (f : Frame) (pos : Nat) (s : State) : State :=
  { s with bus := { s.bus with
    assembly := if s.life.state.takesFrames && decide (s.firstFrame = .nothing) then assemblyAfter origin f pos else .empty
    recessive := if s.firstFrame = .nothing then countRecessive 0 (f.readUpTo pos) else s.bus.recessive } }

/-- A mismatch at line bit `pos` loses the attempt, unless a frame was taken at the moment of its outcome (R93). -/
def Attempt.lostAt (a : Attempt) (pos : Nat) : Bool := decide (a.first = .nothing) && losesAt a.frame pos

/-- A mismatch in the identifier at line bit `pos`: LOST (R93). -/
def loseAt (pos : Nat) (s : State) : State :=
  match s.ownAttempt with
  | none => s
  | some (a, r) => if a.lostAt pos then endAttempt .lost r (keepAssembling .afterLost a.frame pos s) else s

/-- A mismatch at line bit `pos` aborts the attempt; one whose broken frame was taken first breaks off at its last bit (R94,
R121, log 42), one at the end of whose trailer a peer frame was taken no more (R113, log 47). -/
def Attempt.breaksAt (a : Attempt) (pos : Nat) : Bool :=
  abortsAt a.frame pos && match a.first with
    | .nothing => true
    | .broken => decide (pos = a.frame.lastBit)
    | .peer => false

/-- Any other mismatch at line bit `pos`: ABORTED (R94).  At the start bit itself, bit 0 read recessive, the bus stays not
idle and the assembly goes on with no bit taken (the model's choice, log 36). -/
def abortAt (pos : Nat) (s : State) : State :=
  match s.ownAttempt with
  | none => s
  | some (a, r) => if a.breaksAt pos then endAttempt .aborted r (keepAssembling .afterAborted a.frame pos s) else s

end Sys2Proof.Machine
end

