-- ==== Sys2Proof/Machine/Bus.lean ====
section
/-! DEFINITION. The bus line and own attempts (chapters 5 and 6). -/

namespace Sys2Proof.Machine

/-- We drive the slot that stands so many bits before the end of the frame: ACCEPT is the first of the two slots, REFUSE the
second (R98, T 5-1). -/
def Trailer.drives (t : Trailer) (left : Nat) : Bool :=
  match t with
  | .accept => decide (left = Config.slotBits + Config.endBits)
  | .refuse => decide (left = Config.endBits + 1)
  | .neither => false

/-- The recessive count at the bit at which the bus becomes idle, where that is the last of these bits.  A bit is dominant
where the other stations drive it (`false`) or we do.  The bus is idle when the count has reached 10, but within a complete
frame not before the last bit of its end field; a dominant bit restarts the count, in the end field too (R88, R100). -/
def idleAfter (slots : Trailer) (count left : Nat) : List Bool → Option Nat
  | [] => none
  | b :: rest =>
    let n := if b && !slots.drives left then count + 1 else 0
    if Config.idleCount ≤ n ∧ left ≤ 1 then (if rest = [] then some n else none)
    else idleAfter slots n (left - 1) rest

/-- The bus is idle, and an assembly abandoned or none begins afresh at the next start bit (R88, R89). -/
def becomeIdle (count : Nat) (s : State) : State :=
  { s with bus := { s.bus with recessive := count, idle := true, endLeft := 0, assembly := .empty } }

/-- The line can become idle: the state watches the bus, no attempt of ours is on the line, no frame is being assembled
(log 33), and it is not idle yet.  In LOADING, DORMANT, DUPLICATE and FAULT, where the Bus Interface drives and
assembles nothing (R87), the line state stays as it stands, which R88 does not say (the model's choice, log 41). -/
def State.lineFree (s : State) : Bool :=
  s.life.state.takesFrames && s.bus.attempt.isNone && !s.bus.assembly.isGood && !s.bus.idle

/-- The line carries these bits, at the last of which the bus becomes idle; bits that bring it earlier, or not at all, are no
such event (log 3, log 5). -/
def carryBits (bits : List Bool) (s : State) : State :=
  match idleAfter s.bus.trailer s.bus.recessive s.bus.endLeft bits with
  | some n => becomeIdle n s
  | none => s

/-- BUS_IDLE (R88, R100). -/
def execBusIdle (line : LineBits) (s : State) : Result := arrive line.t s (onlyIf State.lineFree (carryBits line.bits))

/-- A peer's dominant start bit on the idle bus: not idle, and an assembly begins (R88, R92, R95), with no answer to it
fixed yet (R98). -/
def beginAssembly (s : State) : State :=
  { s with bus := { s.bus with
      recessive := 0, idle := false, endLeft := 0
      assembly := .good .peer [] 1, trailer := .neither } }

/-- A start bit begins an assembly: the state assembles (R87), the bus is idle and no attempt of ours is on the line.  In
the states that assemble nothing a dominant bit leaves the line state as it stands too (the model's choice, log 41). -/
def State.awaitsStart (s : State) : Bool := s.life.state.takesFrames && s.bus.idle && s.bus.attempt.isNone

/-- START_BIT (R95). -/
def execStartBit (t : Time) (s : State) : Result := arrive t s (onlyIf State.awaitsStart beginAssembly)

/-- Our start bit: the request leaves its slot and becomes the attempt in flight, with the frame's content as the blocks
stand (R92, R104, R108).  As the transmitter of this frame we drive neither slot of its trailer (R98). -/
def startAttempt (k : Kind) (r : Request) (s : State) : State :=
  { s with
    bus := { s.bus with recessive := 0, idle := false, endLeft := 0, assembly := .empty, trailer := .neither,
                        attempt := some { frame := s.frameFor k r, startedAt := s.now, first := .nothing } }
    sched := { s.sched.setSlot k none with inFlight := some { kind := k, request := r } } }

/-- The offered request with the content of its slot. -/
def State.offer (s : State) : Option (Kind × Request) :=
  match s.offered with
  | none => none
  | some k => (s.sched.slot k).map fun r => (k, r)

/-- The attempt that starts when the bus is idle, no attempt is in flight and a request is offered (R92, R107). -/
def startOffered (s : State) : State :=
  match s.offer with
  | none => s
  | some (k, r) => startAttempt k r s

/-- An attempt may start: the bus is idle and none of ours is on the line or in flight (R92, R104). -/
def State.mayStart (s : State) : Bool := s.bus.idle && s.bus.attempt.isNone && s.sched.inFlight.isNone

/-- ATTEMPT_START (R92). -/
def execAttemptStart (t : Time) (s : State) : Result := arrive t s (onlyIf State.mayStart startOffered)

/-- ATTEMPT_LOST (R93). -/
def execAttemptLost (t : Time) (pos : Nat) (s : State) : Result := arrive t s (loseAt pos)

/-- ATTEMPT_ABORTED (R94). -/
def execAttemptAborted (t : Time) (pos : Nat) (s : State) : Result := arrive t s (abortAt pos)

/-- ATTEMPT_OUTCOME_TAKEN (R99). -/
def execAttemptOutcomeTaken (t : Time) (accept refuse : Bool) (s : State) : Result := arrive t s (takeOutcome accept refuse)

/-- The request in flight is at its last retry (T 6-5). -/
def State.lastRetry (s : State) : Bool :=
  match s.sched.inFlight with
  | some a => decide (Config.retryLimit ≤ a.request.retry)
  | none => false

/-- The outcome that drops a request. -/
def takeDrop (cause : DropCause) (s : State) : State :=
  match cause with
  | .aborted pos => abortAt pos s
  | .partly => takeOutcome true true s

/-- REQUEST_DROPPED (R110): the outcome ABORTED or PARTIAL of a request whose retry count is 3 (log 4). -/
def execRequestDropped (t : Time) (cause : DropCause) (s : State) : Result :=
  arrive t s (onlyIf State.lastRetry (takeDrop cause))

/-- ISOLATION_LIMIT (R74): the outcome UNHEARD that brings the isolation count to 5 (log 4). -/
def execIsolationLimit (t : Time) (refuse : Bool) (s : State) : Result :=
  arrive t s (onlyIf (fun s => s.limitReached .unheard) (takeOutcome false refuse))

end Sys2Proof.Machine
end

