-- ==== Sys2Proof/Machine/Enforcement.lean ====
section
/-! DEFINITION. The expiries of the two timers of the Enforcement Unit (chapter 9). -/

namespace Sys2Proof.Machine

/-- The moment a running timer expires; a held one does not run (R143). -/
def EnfTimer.due : EnfTimer → Timer
  | .running d => some d
  | .stopped => none
  | .held _ => none

/-- The Meter ends any trim and makes its watch idle on the entry into CUT (R131, R133). -/
def dropTrim (s : State) : State := { s with meter := { s.meter with trim := none, watch := none } }

/-- Entry into CUT: the output asserted at once, the trim ended, the demand formed again and handed on, and last the CUT
notification (R144). -/
def enterCut (s : State) : State :=
  noteCut (commitDemand s (dropTrim (setEnf .cut { s with enf := { s.enf with overdraw := .stopped } })))

/-- OVERDRAW_TIMER_EXPIRY (R142): it acts in OVER. -/
def execOverdrawTimerExpiry (s : State) : Result :=
  expire s.enf.overdraw.due s (fun _ => onlyIf (fun s => decide (s.enf.state = .over)) enterCut)

/-- The return from COOLING to CLEAR: the timer stopped, the output driven, the demand formed again and handed on, and
the CUT notification (R146). -/
def leaveCooling (s : State) : State :=
  noteCut (commitDemand s (setEnf .clear { s with enf := { s.enf with recovery := .stopped } }))

/-- RECOVERY_TIMER_EXPIRY (R146): it acts in COOLING. -/
def execRecoveryTimerExpiry (s : State) : Result :=
  expire s.enf.recovery.due s (fun _ => onlyIf (fun s => decide (s.enf.state = .cooling)) leaveCooling)

end Sys2Proof.Machine
end

