-- ==== Sys2Proof/Machine/Roster.lean ====
section
/-! DEFINITION. The Roster Unit (chapter 2): admission and update, hearsay, removal, silence; each event is handed on as R42
states. -/

namespace Sys2Proof.Machine

/-! ### The list of entries, in ascending station number (R23) -/

/-- An entry put at its place; an entry of the same number is replaced. -/
def upsertEntry (e : Entry) : List Entry → List Entry
  | [] => [e]
  | x :: xs =>
    if e.station < x.station then e :: x :: xs
    else if e.station = x.station then e :: xs
    else x :: upsertEntry e xs

/-- The entries without those of a number. -/
def removeEntry (n : Station) (es : List Entry) : List Entry := es.filter (fun e => e.station ≠ n)

/-- A station has an entry. -/
def hasEntry (n : Station) (es : List Entry) : Bool := (findEntry n es).isSome

/-- There is room for one more entry (R23). -/
def RosterUnit.hasRoom (r : RosterUnit) : Bool := decide (r.entries.length < Config.rosterCapacity)

/-! ### Admission and update (R26 to R30) -/

/-- The class a network digest gives (R27). -/
def State.classFor (s : State) (network : Word16) : EntryClass :=
  if s.loader.networkDigest = some network then .live else .mismatch

/-- The moment a forget timer started now expires. -/
def State.forgetAt (s : State) : Timer := some (s.now + s.params.forgetPeriod)

/-- The entry that an ANNOUNCE (no status part) or a STATUS makes, whatever stood there before but for the confirmed
flag, which only a STATUS of an entry that stays LIVE leaves to the Grant Controller (R26, R27, R29, R30). -/
def State.entryFrom (s : State) (n : Station) (network : Word16) (c : ClaimPart) (st : Option StatusPart) : Entry :=
  { station := n
    cls := s.classFor network
    origin := .heard
      { priority := c.flags.priority, min := c.min.toNat, max := c.max.toNat, demand := c.demand.toNat,
        serial := c.serial, grant := (st.map (fun p => p.grant.toNat)).getD 0, state := c.flags.state,
        lastHeard := s.now }
    flags := { degraded := c.flags.degraded, cut := c.flags.cut, parked := c.flags.parked }
    draw := st.bind (fun p => p.draw.map BitVec.toNat)
    estimate := st.bind (fun p => p.estimate.map BitVec.toNat)
    digest := st.map StatusPart.rosterDigest
    confirmed := st.isSome && decide (s.classFor network = .live) &&
      ((s.entryOf n).map Entry.confirmed).getD false
    silence := 0
    forget := if s.classFor network = .live then none else s.forgetAt }

/-- An entry stands in the roster, its number out of the forgotten set (R26, R29), and the trailer is answered ACCEPT
(R25). -/
def putEntry (e : Entry) (s : State) : State :=
  { s with
    roster := { s.roster with entries := upsertEntry e s.roster.entries, forgotten := s.roster.forgotten.erase e.station }
    bus := { s.bus with trailer := .accept } }

/-- An admission is refused for want of room: REFUSE, counted, the overflow flag set (R28). -/
def refuseAdmission (s : State) : State :=
  { s with
    roster := { s.roster with overflow := true, admissionsRefused := bump s.roster.admissionsRefused }
    bus := { s.bus with trailer := .refuse } }

/-- The sender of an ANNOUNCE or STATUS has an entry or there is room for one (R26, R28, R29). -/
def State.canHold (s : State) (n : Station) : Bool := hasEntry n s.roster.entries || s.roster.hasRoom

/-- An ANNOUNCE or a STATUS admits or updates its sender, or is refused (R26, R28, R29). -/
def takeClaim (n : Station) (network : Word16) (c : ClaimPart) (st : Option StatusPart) (s : State) : State :=
  if s.canHold n then putEntry (s.entryFrom n network c st) s else refuseAdmission s

/-- The sender's entry is LIVE. -/
def State.isLive (s : State) (n : Station) : Bool :=
  match s.entryOf n with
  | some e => decide (e.cls = .live)
  | none => false

/-! ### Hearsay (R34 to R37) -/

/-- An entry learned by hearsay (R35). -/
def State.hearsayEntry (s : State) (n : Station) : Entry :=
  { station := n, cls := .quiet, origin := .hearsay, flags := { degraded := false, cut := false, parked := false },
    draw := none, estimate := none, digest := none, confirmed := false, silence := 0, forget := s.forgetAt }

/-- One number of a quiet set: passed over, left as it is, admitted, or refused with the overflow flag set (R34 to
R37). -/
def hearNumber (s : State) (n : Station) : State :=
  if n = s.ownStation ∨ hasEntry n s.roster.entries ∨ n ∈ s.roster.forgotten then s
  else if s.roster.hasRoom then
    { s with roster := { s.roster with entries := upsertEntry (s.hearsayEntry n) s.roster.entries } }
  else { s with roster := { s.roster with overflow := true } }

/-- A quiet set in ascending station number (R34). -/
def takeQuietSet (quiet : BitVec 64) (s : State) : State :=
  ((List.finRange 64).filter (inQuiet quiet)).foldl hearNumber s

/-- A STATUS is taken for hearsay only when its sender's entry is LIVE after the update (R34). -/
def takeHearsay (n : Station) (quiet : BitVec 64) (s : State) : State := if s.isLive n then takeQuietSet quiet s else s

/-! ### Confirmation (R43, R48) -/

/-- The confirmed flag of a LIVE sender becomes whether the carried digest equals ours (R48). -/
def confirmSender (n : Station) (digest : Word16) (s : State) : State :=
  { s with roster := { s.roster with entries := s.roster.entries.map (fun e =>
      if e.station = n ∧ e.cls = .live then { e with confirmed := decide (digest = s.planner.digest) } else e) } }

/-! ### The four kinds of frame -/

/-- What the Roster Unit's event from `before` to `s` is handed on as: notifications, then the Share Planner (R42). -/
def handRoster (before s : State) : State := commit before (noteRoster before s)

/-- A valid STATUS of a peer (R26 to R30, R34, R42, R43, R48, R50). -/
def takeStatus (n : Station) (network : Word16) (c : ClaimPart) (st : StatusPart) (s : State) : State :=
  let taken := takeClaim n network c (some st) s
  let heard := if s.canHold n then takeHearsay n st.quiet taken else taken
  evalSettled (confirmSender n st.rosterDigest (handRoster s heard))

/-- A valid ANNOUNCE of a peer: admitted or updated, and a STATUS request (R26 to R30, R42, R43, R50). -/
def takeAnnounce (n : Station) (network : Word16) (c : ClaimPart) (s : State) : State :=
  evalSettled (raiseRequest .status 0 (handRoster s (takeClaim n network c none s)))

/-- An entry is removed and the overflow flag cleared (R40). -/
def dropEntry (n : Station) (s : State) : State :=
  { s with roster := { s.roster with entries := removeEntry n s.roster.entries, overflow := false } }

/-- The trailer of a frame that needs no admission is answered ACCEPT (R25). -/
def answerAccept (s : State) : State := { s with bus := { s.bus with trailer := .accept } }

/-- A valid LEAVE of a peer: its entry, if there is one, is removed at once (R31, R40). -/
def takeLeave (n : Station) (s : State) : State :=
  let a := answerAccept s
  if hasEntry n s.roster.entries then evalSettled (handRoster s (dropEntry n a)) else a

/-- A frame is heard from the sender of a SHED: its silence count, last heard time and forget timer (R32). -/
def Entry.refresh (e : Entry) (now : Time) (forget : Timer) : Entry :=
  match e.origin, e.cls with
  | .heard r, .live => { e with silence := 0, origin := .heard { r with lastHeard := now } }
  | .heard r, _ => { e with forget := forget, origin := .heard { r with lastHeard := now } }
  | .hearsay, _ => e

/-- The sender of a SHED, if it has an entry, counts as heard (R32). -/
def refreshSender (n : Station) (s : State) : State :=
  { s with roster := { s.roster with entries := s.roster.entries.map (fun e =>
      if e.station = n then e.refresh s.now s.forgetAt else e) } }

/-- A SHED of our network is applied to the deficit, another is ignored and counted (R32, R61). -/
def judgeShed (network : Word16) (excess : Current) (s : State) : State :=
  if s.loader.networkDigest = some network then applyShed excess s
  else { s with roster := { s.roster with shedIgnored := bump s.roster.shedIgnored } }

/-- A valid SHED of a peer (R32, R61). -/
def takeShed (n : Station) (network : Word16) (excess : Current) (s : State) : State :=
  commit s (judgeShed network excess (refreshSender n (answerAccept s)))

/-- A valid frame of a peer by its kind. -/
def takePeerFrame (f : Frame) (s : State) : State :=
  match f with
  | .status n network c st => takeStatus n network c st s
  | .announce n network c => takeAnnounce n network c s
  | .leave n _ _ => takeLeave n s
  | .shed n network excess => takeShed n network excess.toNat s

/-- The Lifecycle Controller takes a valid peer frame: the isolation count becomes 0, and it ends ISOLATED (R72, R78). -/
def reportPeerFrame (s : State) : State :=
  let s := { s with sched := { s.sched with isolationCount := 0 } }
  if s.life.state = .isolated then enterJoining s else s

/-! ### Silence and forgetting (R38 to R40) -/

/-- An entry that becomes QUIET by silence (R39); its forget timer counts from its last heard time. -/
def Entry.fallQuiet (e : Entry) (limit : Nat) (forget : Time) : Entry :=
  { e with
    cls := .quiet, draw := none, estimate := none, digest := none, confirmed := false, silence := limit
    forget := match e.origin with
      | .heard r => some (r.lastHeard + forget)
      | .hearsay => e.forget }

/-- One cycle expiry at an entry: a LIVE one counts, and falls QUIET at the silence limit (R38). -/
def Entry.countSilence (e : Entry) (limit : Nat) (forget : Time) : Entry :=
  if e.cls = .live then
    if limit ≤ e.silence + 1 then e.fallQuiet limit forget else { e with silence := e.silence + 1 }
  else e

/-- The Roster Unit counts a cycle expiry in the states in which it takes events, and hands it on (R38, R42). -/
def countSilences (s : State) : State :=
  if s.life.state.takesFrames then
    evalSettled (handRoster s { s with roster := { s.roster with
      entries := s.roster.entries.map (fun e => e.countSilence s.params.silenceLimit s.params.forgetPeriod) } })
  else s

/-- The entry is LIVE and this cycle expiry brings its count to the silence limit (R38). -/
def State.fallsQuiet (s : State) (n : Station) : Bool :=
  match s.entryOf n with
  | some e => decide (e.cls = .live) && decide (s.params.silenceLimit ≤ e.silence + 1)
  | none => false

/-- The forget timer of a station's entry. -/
def State.forgetTimer (s : State) (n : Station) : Timer :=
  match s.entryOf n with
  | some e => e.forget
  | none => none

/-- The entry is removed by forget expiry, and its number joins the forgotten set (R37, R40); so does the number of an entry
that bears our own (the model's choice, log 43). -/
def forgetEntry (n : Station) (s : State) : State :=
  let d := dropEntry n s
  evalSettled (handRoster s { d with roster := { d.roster with
    forgotten := if n ∈ d.roster.forgotten then d.roster.forgotten else n :: d.roster.forgotten } })

end Sys2Proof.Machine
end

