-- ==== Sys2Proof/Machine/Frames.lean ====
section
/-! DEFINITION. Received frames (R95 to R98): valid ones by kind, damaged ones, and those cut short. -/

namespace Sys2Proof.Machine

/-- A valid frame is counted and its assembly ended (R95, R101). -/
def countValid (s : State) : State :=
  { s with bus := { s.bus with assembly := .empty, validReceived := bump s.bus.validReceived } }

/-- A valid frame bearing our own number: neither slot, and DUPLICATE (R41, R82). -/
def takeOwnNumber (s : State) : State := enterDuplicate { s with bus := { s.bus with trailer := .neither } }

/-- What the Roster Unit and the Lifecycle Controller do with a valid frame: the check of our own number comes first
(R41, R97), and the report to the Lifecycle Controller after the frame has been taken whole (R78). -/
def takeValid (f : Frame) (s : State) : State :=
  if f.station = s.ownStation then takeOwnNumber s else reportPeerFrame (takePeerFrame f s)

/-- A valid received frame, its report to the Link Monitor before or after its taking (R117, R121, log 7).  Where it comes
after, it comes after the report to the Lifecycle Controller too (the model's choice, log 37). -/
def receiveValid (f : Frame) (linkFirst : Bool) (s : State) : State :=
  let c := countValid s
  if linkFirst then takeValid f (frameEvent false c) else frameEvent false (takeValid f c)

/-- The valid frame of a kind in these bytes. -/
def frameOfKind (k : Kind) (bytes : List Byte) : Option Frame :=
  match validFrame bytes with
  | some f => if f.kind = k then some f else none
  | none => none

/-- A frame that no assembly takes falls at the moment of our outcome: the attempt on the line, whose outcome is still to
be drawn, is marked with it (R113, R121). -/
def markAttempt (m : FirstFrame) (bytes : List Byte) (s : State) : State :=
  if s.canTake bytes then s
  else { s with bus := { s.bus with attempt := s.bus.attempt.map fun a => { a with first := m } } }

/-- A valid peer frame may fall at the moment of our outcome, which is due and not yet taken; either may be first (R113,
log 47). -/
def State.meetsOutcome (s : State) (f : Frame) : Bool :=
  s.life.state.takesFrames && decide (f.station ≠ s.ownStation) && s.outcomeDue

/-- This valid frame with these bytes can be taken: by the assembly, or at the moment of our outcome. -/
def State.canTakeValid (s : State) (f : Frame) (bytes : List Byte) : Bool := s.canTake bytes || s.meetsOutcome f

/-- A valid frame is received where it can be taken. -/
def takeFrame (f : Frame) (bytes : List Byte) (linkFirst : Bool) (s : State) : State :=
  if s.canTakeValid f bytes then receiveValid f linkFirst (frameEnds bytes (markAttempt .peer bytes s)) else s

/-- A valid frame of a kind is received; bytes that are no such frame, or cannot be the frame being taken, are no such
event (log 3, log 6). -/
def receiveKind (k : Kind) (bytes : List Byte) (linkFirst : Bool) (s : State) : State :=
  match frameOfKind k bytes with
  | some f => takeFrame f bytes linkFirst s
  | none => s

/-- STATUS_FRAME (R29, R48). -/
def execStatusFrame (t : Time) (bytes : List Byte) (linkFirst : Bool) (s : State) : Result :=
  arrive t s (receiveKind .status bytes linkFirst)

/-- ANNOUNCE_FRAME (R26). -/
def execAnnounceFrame (t : Time) (bytes : List Byte) (linkFirst : Bool) (s : State) : Result :=
  arrive t s (receiveKind .announce bytes linkFirst)

/-- LEAVE_FRAME (R31). -/
def execLeaveFrame (t : Time) (bytes : List Byte) (linkFirst : Bool) (s : State) : Result :=
  arrive t s (receiveKind .leave bytes linkFirst)

/-- SHED_FRAME (R32). -/
def execShedFrame (t : Time) (bytes : List Byte) (linkFirst : Bool) (s : State) : Result :=
  arrive t s (receiveKind .shed bytes linkFirst)

/-- The level of the six identical bits: that of the last bit taken where the assembly holds a run of six, else as the
command brings it (R89, log 5). -/
def Assembly.violationLevel (a : Assembly) (recessive : Bool) : Bool :=
  match a with
  | .good _ bits 6 => bits.getLastD recessive
  | _ => recessive

/-- The coding violation that abandons the assembly: neither slot is driven, and the recessive count is 6 or 0 by the
level of the six bits (R88, R89, R98). -/
def abandon (recessive : Bool) (s : State) : State :=
  { s with bus := { s.bus with
      assembly := .abandoned, trailer := .neither
      recessive := if s.bus.assembly.violationLevel recessive then 6 else 0 } }

/-- A received frame cut short: abandoned; counted and reported unless it is the broken remainder of our own ABORTED attempt
(R89, R94, R98, R101, R117).  One counter stands for every kind of damage, as R101 has it (log 46). -/
def cutShort (recessive : Bool) (s : State) : State :=
  match s.bus.assembly with
  | .good .afterAborted _ _ => abandon recessive s
  | .good _ _ _ =>
    let u := abandon recessive s
    frameEvent true { u with bus := { u.bus with damagedReceived := bump u.bus.damagedReceived } }
  | .empty => s
  | .abandoned => s

/-- FRAME_CUT_SHORT (R89). -/
def execFrameCutShort (v : Violation) (s : State) : Result :=
  arrive v.t s (onlyIf State.receiving (cutShort v.recessive))

/-- A complete damaged frame: counted, REFUSE driven, reported to the Link Monitor and to no other block (R97, R98,
R101).  One counter stands for every kind of damage, as R101 has it (log 46). -/
def receiveDamaged (s : State) : State :=
  frameEvent true { s with bus := { s.bus with
    assembly := .empty, trailer := .refuse, damagedReceived := bump s.bus.damagedReceived } }

/-- These bytes are the frame that another station finishes at the very bit at which our attempt breaks off, the last of the
check field: the frame and the outcome ABORTED are two events, and either may be first (R94, R121, log 42). -/
def State.overtakenBy (s : State) (bytes : List Byte) : Bool :=
  s.life.state.takesFrames && match s.bus.attempt with
    | some a => decide (a.first = .nothing) && decide (bytes = a.frame.brokenBytes)
    | none => false

/-- These bytes can be a damaged frame on the line. -/
def State.canTakeDamaged (s : State) (bytes : List Byte) : Bool := s.canTake bytes || s.overtakenBy bytes

/-- A complete frame that fails a check is received (R96).  Where our own attempt was aborted within the last five bits of
the check field and the assembly ends complete, it is taken so too, whoever drove the rest (the model's choice, log 35). -/
def takeDamaged (bytes : List Byte) (s : State) : State :=
  if (damagedFrame bytes).isSome ∧ s.canTakeDamaged bytes then
    receiveDamaged (frameEnds bytes (markAttempt .broken bytes s))
  else s

/-- FRAME_DAMAGED (R96). -/
def execFrameDamaged (t : Time) (bytes : List Byte) (s : State) : Result := arrive t s (takeDamaged bytes)

end Sys2Proof.Machine
end

