-- ==== Sys2Proof/Machine/HostPort.lean ====
section
/-! DEFINITION. The Host Port (chapter 11) with the end of a load (R157), which a CONFIG may bring: the command buffer, the
judgement of a command (R166, T 11-4), what each command does, and the replies. -/

namespace Sys2Proof.Machine

/-! ### Discarding a frame that is being received, and the line rate (R163, R164) -/

/-- A frame that is being assembled is discarded: counted, and the assembly hunting; nothing while hunting (R164). -/
def discardHostFrame (s : State) : State :=
  match s.host.rx with
  | .hunting => s
  | .collecting _ =>
    { s with host := { s.host with
      rx := .hunting, gap := none, framesDiscarded := bump s.host.framesDiscarded } }

/-- The host line goes to a rate; a change of the rate discards the frame being received (R157, R163, log 28). -/
def setRate (r : LineRate) (s : State) : State :=
  let s' := if s.loader.lineRate = r then s else discardHostFrame s
  { s' with loader := { s'.loader with lineRate := r, rateDue := none } }

/-- The rate that waits for the last byte of a reply takes effect (R157). -/
def applyRateDue (s : State) : State :=
  match s.loader.rateDue with
  | none => s
  | some r => setRate r s

/-! ### The end of a load (R157, R158) -/

/-- The Loader places a valid image in the held copy with its digest, and starts the re-verify timer (R157, R159). -/
def placeImage (img : List Byte) (s : State) : State :=
  { s with loader := { s.loader with
    stage := .held, readStep := .idle, heldCopy := some img, networkDigest := some (networkDigestOf img),
    reason := .none, reverify := some (s.now + Config.reverifyPeriod) } }

/-- The own claim record takes its priority, min and max from the station record, and keeps them (R1). -/
def takeStationRecord (p : Params) (s : State) : State :=
  { s with planner := { s.planner with claim := { s.planner.claim with
    priority := Fin.ofNat 4 p.priority, min := p.min, max := p.max } } }

/-- The cycle timer and the Meter's update timer start at the first entry into LISTENING (R68, R124). -/
def startTimers (s : State) : State :=
  { s with
    life := { s.life with cycle := some (s.now + s.params.cyclePeriod) }
    meter := { s.meter with update := some (s.now + Config.updatePeriod) } }

/-- A valid image ends the load in the order of R157: held copy, stage, digest, line rate, re-verify timer; then
LISTENING (R69) with its timers, the first digest and the first plan (R14, R20, R47).  `replyFollows` says that a reply
is on the line or about to be, so that the rate waits for its last byte. -/
def imageHeld (img : List Byte) (replyFollows : Bool) (s : State) : State :=
  let rate := lineRateOf (paramsOf img).lineRate
  let s := placeImage img s
  let s := if replyFollows then { s with loader := { s.loader with rateDue := some rate } } else setRate rate s
  evalSettled (handOn true true (startTimers (enterListening (takeStationRecord (paramsOf img) s))))

/-- The end of a load: held where the image is valid, else FAULT with the reason (R155, R157, R158). -/
def endLoad (img : List Byte) (replyFollows : Bool) (s : State) : State :=
  match judgeImage img with
  | .none => imageHeld img replyFollows s
  | .format => enterFault .format s
  | .check => enterFault .check s
  | .range => enterFault .range s
  | .heldCopy => enterFault .heldCopy s

/-! ### What a command answers -/

/-- The status and payload of a reply, with the state that stands when the command's effects are complete. -/
structure Answer where
  status : Status
  payload : List Byte
  after : State

/-- A reply without payload and without effect. -/
def refuse (st : Status) (s : State) : Answer := { status := st, payload := [], after := s }

/-- OK without payload. -/
def okWith (s : State) : Answer := { status := .ok, payload := [], after := s }

/-- STATE: the 15 bytes of T 11-5 (R168). -/
def actState (s : State) : Answer :=
  { status := .ok
    payload := [BitVec.ofNat 8 s.life.state.code, BitVec.ofNat 8 s.loader.stage.code, BitVec.ofNat 8 s.life.phase.code,
        BitVec.ofNat 8 s.enf.state.code, s.flagsByte] ++
      bytesOf s.grantCtl.grant ++ bytesOf s.ownShare ++ bytesOf s.planner.claim.effectiveDemand ++
      bytesOf s.planner.claim.hostDemand ++
      [BitVec.ofNat 8 s.loader.cause.code, BitVec.ofNat 8 s.loader.reason.code]
    after := s }

/-- The host demand becomes `v`; a changed one ends the trim and makes the watch idle (R1, R131, R133), and the demand
is formed again and handed on (R3, R4). -/
def setHostDemand (v : Current) (s : State) : State :=
  if v = s.planner.claim.hostDemand then s
  else commitDemand s { s with
    planner := { s.planner with claim := { s.planner.claim with hostDemand := v } }
    meter := { s.meter with trim := none, watch := none } }

/-- The values DEMAND accepts: 0, or within min..max of the held configuration (R169).  After a fault of the storage these
need not be the min and max of the claim record, and a demand outside the record's is taken as it stands (the model's
choice, log 48). -/
def Params.acceptsDemand (p : Params) (v : Current) : Bool := decide (v = 0 ∨ (p.min ≤ v ∧ v ≤ p.max))

/-- DEMAND (R169). -/
def actDemand (v : Current) (s : State) : Answer :=
  if s.params.acceptsDemand v then okWith (setHostDemand v s) else refuse .range s

/-- The claim fields of the PEER reply, bytes 4 to 14 of T 11-6; they read 0 together where they are absent (R170). -/
def Entry.claimBytes (e : Entry) : List Byte :=
  match e.origin with
  | .heard r =>
    [BitVec.ofNat 8 r.priority.val] ++ bytesOf r.min ++ bytesOf r.max ++ bytesOf r.demand ++ [r.serial] ++
      bytesOf r.grant ++ [r.state.code.setWidth 8]
  | .hearsay => List.replicate 11 0#8

/-- The claim fields are present (T 2-1). -/
def Entry.claimPresent (e : Entry) : Bool :=
  match e.origin with
  | .heard _ => true
  | .hearsay => false

/-- The 23 bytes of T 11-6 (R170). -/
def Entry.peerBytes (e : Entry) : List Byte :=
  [BitVec.ofNat 8 e.station.val, BitVec.ofNat 8 e.cls.code, BitVec.ofNat 8 (bitValue (!e.claimPresent) 1),
    BitVec.ofNat 8 (bitValue e.claimPresent 1 + bitValue e.draw.isSome 2 + bitValue e.estimate.isSome 4 +
      bitValue e.digest.isSome 8)] ++
  e.claimBytes ++
  [BitVec.ofNat 8 (bitValue e.flags.parked 1 + bitValue e.flags.cut 2 + bitValue e.flags.degraded 4)] ++
  bytesOf (e.draw.getD 0) ++ bytesOf (e.estimate.getD 0) ++ bytes16 (e.digest.getD 0) ++
  [BitVec.ofNat 8 (bitValue e.confirmed 1 + 2 * e.silence)]

/-- PEER (R170). -/
def actPeer (n : Byte) (s : State) : Answer :=
  if h : n.toNat < 64 then
    match s.entryOf ⟨n.toNat, h⟩ with
    | some e => { status := .ok, payload := e.peerBytes, after := s }
    | none => refuse .absent s
  else refuse .range s

/-- The 16 bytes of T 11-7 for row k of a plan (R171). -/
def Plan.rowBytes (p : Plan) (k : Byte) (r : Row) : List Byte :=
  [k, BitVec.ofNat 8 p.rows.length, BitVec.ofNat 8 r.station.val] ++ bytesOf r.share ++
  [BitVec.ofNat 8 r.outcome.code] ++ bytesOf p.pool ++ bytesOf p.remainder ++ bytesOf p.headroom ++
  bytesOf p.umax ++ bytesOf p.deficit

/-- PLAN (R171). -/
def actPlan (k : Byte) (s : State) : Answer :=
  if 24 < k.toNat then refuse .range s
  else match s.planner.plan with
    | none => refuse .absent s
    | some p => match p.rows[k.toNat]? with
      | some r => { status := .ok, payload := p.rowBytes k r, after := s }
      | none => refuse .absent s

/-- COUNTS: the twelve counters in the order of T 11-8 (R172); one for damaged frames of every kind (R101, log 46). -/
def actCounts (s : State) : Answer :=
  { status := .ok
    payload := bytesOf s.bus.framesSent ++ bytesOf s.bus.lost ++ bytesOf s.bus.aborted ++ bytesOf s.bus.partly ++
      bytesOf s.bus.unheard ++ bytesOf s.bus.validReceived ++ bytesOf s.bus.damagedReceived ++
      bytesOf s.roster.admissionsRefused ++ bytesOf s.sched.requestsDropped ++ bytesOf s.roster.shedIgnored ++
      bytesOf s.host.framesDiscarded ++ bytesOf s.host.notesLost
    after := s }

/-- NOTE: the oldest notification leaves the queue, the lost flag is reported and cleared (R173), and ATTENTION follows
the queue (R178). -/
def actNote (s : State) : Answer :=
  match s.host.queue with
  | [] => refuse .absent s
  | n :: rest =>
    { status := .ok
      payload := [BitVec.ofNat 8 n.kindCode, BitVec.ofNat 8 (bitValue s.host.lostFlag 1)] ++ n.content
      after := { s with attention := !rest.isEmpty, host := { s.host with queue := rest, lostFlag := false } } }

/-- CLEAR CUT: from CUT into COOLING with the recovery timer in full; refused elsewhere (R145).  The timer starts running
also where the load figure is absent already, and is held at the next update that hands over an absent figure (R143; the
model's choice against R146's "held while the load figure is absent", log 38). -/
def actClearCut (s : State) : Answer :=
  match s.enf.state with
  | .cut => okWith (noteCut (setEnf .cooling { s with enf := { s.enf with
      recovery := .running (s.now + s.params.recoveryHold * Config.sec) } }))
  | .clear => refuse .state s
  | .over => refuse .state s
  | .cooling => refuse .state s

/-- LEAVE, where it is taken (R79, R174). -/
def actLeave (s : State) : Answer := okWith (enterLeaving s)

/-- Both counts of the Link Monitor become 0 on the entry into LISTENING that a JOIN causes; DEGRADED stays (R122). -/
def restartWindow (s : State) : State := { s with link := { s.link with events := 0, damaged := 0 } }

/-- JOIN, where it is taken: LISTENING afresh from the empty roster (R81); no digest element and no input of the plan
changes, so neither is computed (R15, R19, log 9). -/
def actJoin (s : State) : Answer := okWith (restartWindow (enterListening s))

/-- CONFIG, where it is taken: the image is judged, and the reply carries the state that results and the reason (R153,
R175). -/
def actConfig (img : List Byte) (s : State) : Answer :=
  let s' := endLoad img true s
  { status := .ok, payload := [BitVec.ofNat 8 s'.life.state.code, BitVec.ofNat 8 s'.loader.reason.code], after := s' }

/-! ### Commands by state (T 11-4, R86, R154, R167) -/

/-- LISTENING, JOINING, ACTIVE and ISOLATED: the states from which LEAVE goes (R79). -/
def StationState.leaves : StationState → Bool
  | .listening => true
  | .joining => true
  | .active => true
  | .isolated => true
  | .loading => false
  | .leaving => false
  | .dormant => false
  | .duplicate => false
  | .fault => false

/-- The column FAULT of T 11-4. -/
def faultGate : Cmd → Option Status
  | .state => none
  | .peer => none
  | .plan => none
  | .counts => none
  | .note => none
  | .restart => none
  | .demand => some .state
  | .clearCut => some .state
  | .leave => some .state
  | .join => some .state
  | .config => some .state

/-- The column DUPLICATE of T 11-4. -/
def duplicateGate : Cmd → Option Status
  | .clearCut => none
  | c => faultGate c

/-- The columns of LOADING in T 11-4, by the loader stage. -/
def loadingGate (stage : LoaderStage) (c : Cmd) : Option Status :=
  match c with
  | .state => none
  | .note => if stage = .awaitingHost then none else some .busy
  | .restart => if stage = .awaitingHost then none else some .busy
  | .config => if stage = .awaitingHost then none else some .busy
  | .demand => some .busy
  | .peer => some .busy
  | .plan => some .busy
  | .counts => some .busy
  | .clearCut => some .busy
  | .leave => some .busy
  | .join => some .busy

/-- The last column of T 11-4 with R86: LEAVE and JOIN where chapter 4 gives a transition. -/
def runningGate (st : StationState) (c : Cmd) : Option Status :=
  match c with
  | .leave => if st.leaves then none else some .state
  | .join => if st = .dormant then none else some .state
  | .config => some .state
  | .state => none
  | .demand => none
  | .peer => none
  | .plan => none
  | .counts => none
  | .note => none
  | .clearCut => none
  | .restart => none

/-- The status with which the station state or the loader stage refuses a command; none where it is taken (R167). -/
def State.gate (s : State) (c : Cmd) : Option Status :=
  match s.life.state with
  | .loading => loadingGate s.loader.stage c
  | .fault => faultGate c
  | .duplicate => duplicateGate c
  | st => runningGate st c

/-! ### Taking a command (R165, R166) -/

/-- What a command does once its state and its size are judged: range and effect. -/
def act (c : Cmd) (payload : List Byte) (s : State) : Answer :=
  match c, payload with
  | .state, _ => actState s
  | .demand, [v1, v0] => actDemand (word16 v1 v0).toNat s
  | .peer, [n] => actPeer n s
  | .plan, [k] => actPlan k s
  | .counts, _ => actCounts s
  | .note, _ => actNote s
  | .clearCut, _ => actClearCut s
  | .leave, _ => actLeave s
  | .join, _ => actJoin s
  | .restart, _ => okWith s
  | .config, img => actConfig img s
  | .demand, _ => refuse .format s
  | .peer, _ => refuse .format s
  | .plan, _ => refuse .format s

/-- The judgement in the order of R166: code, state, size, range. -/
def answerTo (cmd : HostCommand) (s : State) : Answer :=
  match cmdOf cmd.code with
  | none => refuse .unknown s
  | some c =>
    match s.gate c with
    | some st => refuse st s
    | none => if cmd.payload.length = c.payloadSize then act c cmd.payload s else refuse .format s

/-- The command is RESTART and was answered OK, so a restart follows its reply (R161, R175). -/
def restartsAfter (cmd : HostCommand) (a : Answer) : Bool :=
  decide (cmdOf cmd.code = some .restart) && decide (a.status = .ok)

/-- A command is taken: its effects, then its reply, whose first byte carries the overrun mark and clears it (R165,
R166). -/
def takeCommand (cmd : HostCommand) (s : State) : State :=
  let a := answerTo cmd s
  { a.after with host := { a.after.host with
    overrun := false
    inProgress := some
      { command := cmd
        reply := replyFrame cmd.code a.status a.after.host.overrun a.payload
        restarts := restartsAfter cmd a } } }

/-- A complete command with a good check is entered in the buffer: taken at once, waiting, or dropped and counted with
the overrun mark set (R165). -/
def enterCommand (cmd : HostCommand) (s : State) : State :=
  match s.host.inProgress, s.host.waiting with
  | none, _ => takeCommand cmd s
  | some _, none => { s with host := { s.host with waiting := some cmd } }
  | some _, some _ =>
    { s with host := { s.host with overrun := true, framesDiscarded := bump s.host.framesDiscarded } }

/-- The assembly is hunting again after a whole frame. -/
def endHostFrame (s : State) : State := { s with host := { s.host with rx := .hunting, gap := none } }

/-- The arrival of a whole command frame with a good check (R164, R165, log 17). -/
def commandArrives (t : Time) (code : Byte) (payload : List Byte) (s : State) : Result :=
  arrive t s (onlyIf (fun _ => decide (payload.length < Config.hostLengthMax))
    (fun s => enterCommand { code := code, payload := payload } (endHostFrame s)))

/-- The waiting command is taken (R165). -/
def takeWaiting (s : State) : State :=
  match s.host.waiting with
  | none => s
  | some cmd => takeCommand cmd { s with host := { s.host with waiting := none } }

/-- The last byte of a reply is sent: a host RESTART is taken (R161), or the line rate that waited takes effect (R157)
and the waiting command is taken (R165).  The rate comes first, so that a frame that its change discards is counted before
a waiting COUNTS is taken (the model's choice, log 39). -/
def finishReply (p : InProgress) (s : State) : State :=
  if p.restarts then restartWith .host s
  else takeWaiting (applyRateDue { s with host := { s.host with inProgress := none } })

end Sys2Proof.Machine
end

