-- ==== Sys2Proof/Machine/HostCommands.lean ====
section
/-! DEFINITION. The host command rows: each is the arrival of the command's whole frame (log 17), which is judged by R165
and R166 and acts as its own rule states. -/

namespace Sys2Proof.Machine

/-- STATE (R168). -/
def execState (t : Time) (payload : List Byte) (s : State) : Result := commandArrives t Cmd.state.code payload s

/-- DEMAND (R169). -/
def execDemand (t : Time) (payload : List Byte) (s : State) : Result := commandArrives t Cmd.demand.code payload s

/-- PEER (R170). -/
def execPeer (t : Time) (payload : List Byte) (s : State) : Result := commandArrives t Cmd.peer.code payload s

/-- PLAN (R171). -/
def execPlan (t : Time) (payload : List Byte) (s : State) : Result := commandArrives t Cmd.plan.code payload s

/-- COUNTS (R172). -/
def execCounts (t : Time) (payload : List Byte) (s : State) : Result := commandArrives t Cmd.counts.code payload s

/-- NOTE (R173). -/
def execNote (t : Time) (payload : List Byte) (s : State) : Result := commandArrives t Cmd.note.code payload s

/-- CLEAR CUT (R145). -/
def execClearCut (t : Time) (payload : List Byte) (s : State) : Result := commandArrives t Cmd.clearCut.code payload s

/-- LEAVE (R79). -/
def execLeave (t : Time) (payload : List Byte) (s : State) : Result := commandArrives t Cmd.leave.code payload s

/-- JOIN (R81). -/
def execJoin (t : Time) (payload : List Byte) (s : State) : Result := commandArrives t Cmd.join.code payload s

/-- RESTART (R175). -/
def execRestart (t : Time) (payload : List Byte) (s : State) : Result := commandArrives t Cmd.restart.code payload s

/-- CONFIG (R153). -/
def execConfig (t : Time) (payload : List Byte) (s : State) : Result := commandArrives t Cmd.config.code payload s

/-- UNKNOWN_COMMAND: a whole frame whose code is outside T 11-2 (R166 step 1); a known code is no such event (log 3). -/
def execUnknownCommand (t : Time) (code : Byte) (payload : List Byte) (s : State) : Result :=
  if (cmdOf code).isNone then commandArrives t code payload s else arrive t s id

end Sys2Proof.Machine
end

