-- ==== Sys2Proof/Machine/HostLine.lean ====
section
/-! DEFINITION. The host line byte by byte, frames discarded, and the end of a reply (R164, R165). -/

namespace Sys2Proof.Machine

/-- The assembly goes on with these bytes, the gap timer started again (R164). -/
def collect (bytes : List Byte) (s : State) : State :=
  { s with host := { s.host with rx := .collecting bytes, gap := some (s.now + Config.gapLimit) } }

/-- A further byte of a frame: the length, a byte of the frame, or the check byte that completes it (R164). -/
def takeFrameByte (bytes : List Byte) (b : Byte) (s : State) : State :=
  if bytes.isEmpty && badHostLength b then discardHostFrame s
  else if hostFrameWhole (bytes ++ [b]) then
    (if sumOk (bytes ++ [b]) then enterCommand (hostCommandOf (bytes ++ [b])) (endHostFrame s) else discardHostFrame s)
  else collect (bytes ++ [b]) s

/-- A byte with a valid stop bit (R164). -/
def takeHostByte (b : Byte) (s : State) : State :=
  match s.host.rx with
  | .hunting => if b = Config.startByte then collect [] s else s
  | .collecting bytes => takeFrameByte bytes b s

/-- HOST_BYTE_RECEIVED (R164). -/
def execHostByteReceived (t : Time) (b : Byte) (s : State) : Result := arrive t s (takeHostByte b)

/-- HOST_FRAME_DISCARDED: the arrival of a whole frame whose length or sum is bad (R164); bytes that R164 does not
discard are no such event (log 3). -/
def execHostFrameDiscarded (t : Time) (bytes : List Byte) (s : State) : Result :=
  arrive t s (onlyIf (fun _ => hostFrameFails bytes) (fun s =>
    { s with host := { s.host with
      rx := .hunting, gap := none, framesDiscarded := bump s.host.framesDiscarded } }))

/-- GAP_TIMER_EXPIRY: the gap discards the frame (R164). -/
def execGapTimerExpiry (s : State) : Result := expire s.host.gap s (fun _ => discardHostFrame)

/-- BYTE_WITHOUT_STOP_BIT: it discards the frame being assembled; while hunting it is passed over (R164). -/
def execByteWithoutStopBit (t : Time) (s : State) : Result := arrive t s discardHostFrame

/-- The last byte of the reply in progress, if one is. -/
def replyEnds (s : State) : State :=
  match s.host.inProgress with
  | none => s
  | some p => finishReply p s

/-- REPLY_SENT (R165). -/
def execReplySent (t : Time) (s : State) : Result := arrive t s replyEnds

end Sys2Proof.Machine
end

