-- ==== Sys2Proof/Machine/Loading.lean ====
section
/-! DEFINITION. The Configuration Loader's steps over the memory link and its re-verification (R152 to R160). -/

namespace Sys2Proof.Machine

/-- No memory has answered: AWAITING HOST, with a STATION STATE notification that reports it (R152, R153). -/
def awaitHost (s : State) : State :=
  raiseNote (.stationState .loading .none .awaitingHost)
    { s with loader := { s.loader with stage := .awaitingHost, readStep := .idle } }

/-- Bytes 0 and 1 have been read (R152). -/
def takeHeader (b0 b1 : Byte) (s : State) : State :=
  if b0 = 0xFF#8 ∧ b1 = 0xFF#8 then awaitHost s
  else if b0 = Config.formatCode ∧ b1.toNat = Config.imageLength then
    { s with loader := { s.loader with readStep := .body b0 b1 } }
  else enterFault .format s

/-- The Loader is reading in LOADING (R152). -/
def State.reads (s : State) : Bool := decide (s.life.state = .loading) && decide (s.loader.stage = .reading)

/-- HEADER_READ (R152): comes about only while bytes 0 and 1 are being read. -/
def execHeaderRead (t : Time) (b0 b1 : Byte) (s : State) : Result :=
  arrive t s (onlyIf (fun s => s.reads && decide (s.loader.readStep = .header)) (takeHeader b0 b1))

/-- Bytes 2 to 41 have been read, and the 42 bytes are judged (R152, R155); a reply on the line holds back the line rate
(R157). -/
def takeBody (rest : List Byte) (s : State) : State :=
  match s.loader.readStep with
  | .body b0 b1 => endLoad (b0 :: b1 :: rest) s.host.inProgress.isSome s
  | .idle => s
  | .header => s

/-- IMAGE_READ (R152): comes about only while bytes 2 to 41 are being read, and brings 40 bytes. -/
def execImageRead (t : Time) (rest : List Byte) (s : State) : Result :=
  arrive t s (onlyIf (fun s => s.reads && decide (rest.length = 40)) (takeBody rest))

/-- The storage changes a byte of the held copy, where one is held: nothing marks the event, and every block reads its
parameters from the changed copy from then on (R160, log 14). -/
def upsetCopy (i : Fin 42) (b : Byte) (s : State) : State :=
  { s with loader := { s.loader with heldCopy := s.loader.heldCopy.map (fun img => img.set i.val b) } }

/-- The held copy against its check word (R160). -/
def State.copyOk (s : State) : Bool :=
  match s.loader.heldCopy with
  | some img => checkWordOk img
  | none => false

/-- The check of an expiry that fell due at `d` (R160): equal, the timer is restarted and nothing else follows; else FAULT
with reason HELD COPY (R83). -/
def reverify (d : Time) (s : State) : State :=
  if s.copyOk then { s with loader := { s.loader with reverify := some (d + Config.reverifyPeriod) } }
  else enterFault .heldCopy s

/-- REVERIFY_TIMER_EXPIRY: the check, or the fault of the storage that a later check finds (R160, log 14). -/
def execReverifyTimerExpiry (ev : ReverifyEvent) (s : State) : Result :=
  match ev with
  | .check => expire s.loader.reverify s reverify
  | .storageFault t i b => arrive t s (upsetCopy i b)

end Sys2Proof.Machine
end

