-- ==== Sys2Proof/Machine/Readings.lean ====
section
/-! DEFINITION. The Meter (chapter 8): the channels, the slow figures, the trim, the unmanaged estimate, the overload, and
the judgement of the load that each update ends with (R129, R141, R143). -/

namespace Sys2Proof.Machine

/-! ### One channel (T 8-2, R128) -/

/-- The last ten values (R126). -/
def keepLast (h : List Current) : List Current := h.drop (h.length - Config.historyLength)

/-- The effect of a good reading of value `v` (T 8-2). -/
def Channel.good (v : Current) (c : Channel) : Channel :=
  let run := min Config.settleCount (c.goodRun + 1)
  let h := keepLast (c.history ++ [v])
  if c.faulted ∧ run < Config.settleCount then { c with goodRun := run, history := h }
  else { c with
    faulted := false, goodRun := run, fast := some v
    fastSettled := c.fastSettled || decide (run = Config.settleCount), history := h }

/-- The effect of a faulty reading (T 8-2). -/
def Channel.faulty (c : Channel) : Channel :=
  { c with faulted := true, goodRun := 0, fast := none, fastSettled := false, history := [], slow := none, slowCount := 0 }

/-- The fast update of a channel with its sense scale, which bounds a good value (R125, log 13). -/
def Channel.take (scale : Current) (r : Reading) (c : Channel) : Channel :=
  match r with
  | .good v => c.good (min v.toNat scale)
  | .saturated => c.faulty
  | .openInput => c.faulty

/-- The slow update of a channel (R128). -/
def Channel.formSlow (c : Channel) : Channel :=
  if c.history.length = Config.historyLength then
    { c with slow := some (c.history.sum / Config.historyLength), slowCount := min Config.settleCount (c.slowCount + 1) }
  else { c with slow := none, slowCount := 0 }

/-! ### The fast part of an update (R125 to R127, R133, R135) -/

/-- Both channels are taken; the feeder only on a feeder-sensing station (R125, R126).  Where a fault of the storage has
cleared the feeder-sensing bit, the feeder's figures and faulted flag stay as they stand (the model's choice, log 45). -/
def takeReadings (load feeder : Reading) (s : State) : State :=
  { s with meter := { s.meter with
    load := s.meter.load.take s.params.loadScale load
    feeder := if s.params.feederSensing then s.meter.feeder.take s.params.feederScale feeder else s.meter.feeder } }

/-- A faulted load channel ends the trim and makes the watch idle (R131, R133); a faulted feeder channel makes U absent
(R135). -/
def withdrawFigures (s : State) : State :=
  { s with meter := { s.meter with
    trim := if s.meter.load.faulted then none else s.meter.trim
    watch := if s.meter.load.faulted then none else s.meter.watch
    estimate := if s.meter.feeder.faulted then none else s.meter.estimate } }

/-- SENSE at each change of a channel's faulted flag (R127). -/
def noteSense (before s : State) : State :=
  if before.meter.load.faulted = s.meter.load.faulted ∧ before.meter.feeder.faulted = s.meter.feeder.faulted then s
  else raiseNote (.sense s.meter.load.faulted s.meter.feeder.faulted) s

/-- The feeder figure for the overload: the value of a good reading, the sense scale on saturation, none on an open
input (R136, log 12). -/
def overloadFigure (scale : Current) : Reading → Option Current
  | .good v => some (min v.toNat scale)
  | .saturated => some scale
  | .openInput => none

/-- The overload count after an update with this figure (R136). -/
def countOverload (limit : Current) (figure : Option Current) (count : Nat) : Nat :=
  match figure with
  | some v => if limit < v then min 2 (count + 1) else 0
  | none => 0

/-- The overload figure of an update, none on a station that is not feeder-sensing. -/
def State.overloadFigure (s : State) (feeder : Reading) : Option Current :=
  if s.params.feederSensing then Machine.overloadFigure s.params.feederScale feeder else none

/-- The overload is judged (R136). -/
def judgeOverload (feeder : Reading) (s : State) : State :=
  { s with meter := { s.meter with
    overload := countOverload s.params.feederLimit (s.overloadFigure feeder) s.meter.overload } }

/-! ### The slow part (R128, R131 to R135) -/

/-- The slow figures of both channels (R128). -/
def formSlowFigures (s : State) : State :=
  { s with meter := { s.meter with
    load := s.meter.load.formSlow
    feeder := if s.params.feederSensing then s.meter.feeder.formSlow else s.meter.feeder } }

/-- A slow figure at or above T less half the margin ends the trim (R133). -/
def State.trimEnds (s : State) : Bool :=
  match s.meter.trim, s.meter.load.settledSlow with
  | some t, some v => decide (2 * t ≤ 2 * v + s.params.trimMargin)
  | _, _ => false

/-- The trim ends where R133 says so at a slow update. -/
def endTrim (s : State) : State := if s.trimEnds then { s with meter := { s.meter with trim := none } } else s

/-- The trimmed value fixed at a slow update: the larger of min and the slow figure plus the margin (R132). -/
def State.trimValue (s : State) : Current :=
  max s.planner.claim.min (s.meter.load.settledSlow.getD 0 + s.params.trimMargin)

/-- The trim watch at the slow update that fell due at `d`, while UNTRIMMED: it begins, runs, becomes idle, or one trim
time after it began the trim is made (R131, R132, log 26).  Where a fault of the storage has shortened the trim time below
what the watch has run, the trim is made at the next slow update (the model's choice, log 49). -/
def judgeWatch (d : Time) (s : State) : State :=
  if ¬ s.trimCondition then { s with meter := { s.meter with watch := none } }
  else match s.meter.watch with
    | none => { s with meter := { s.meter with watch := some d } }
    | some b =>
      if b + s.params.trimTime * Config.sec ≤ d then
        { s with meter := { s.meter with trim := some s.trimValue, watch := none } }
      else s

/-- The watch is judged while the trim enable is set and the trim state is UNTRIMMED (R131).  Where a fault of the storage
has cleared the enable, a watch that runs stays as it stands (the model's choice, log 44). -/
def State.watchJudged (s : State) : Bool := s.params.trimEnable && s.meter.trim.isNone

/-- The trim at a slow update: a standing trim ends where R133 says so, whatever the enable reads, and then the watch is
judged (R131, R132). -/
def judgeTrim (d : Time) (s : State) : State :=
  if (endTrim s).watchJudged then judgeWatch d (endTrim s) else endTrim s

/-- The draws that U subtracts: our own settled slow figure and the measured draws of LIVE entries (R134). -/
def State.knownDraws (s : State) : Current :=
  s.meter.load.settledSlow.getD 0 +
    ((s.roster.entries.filter (fun e => e.cls = .live)).map (fun e => e.draw.getD 0)).sum

/-- The unmanaged estimate (R134). -/
def formEstimate (s : State) : State :=
  { s with meter := { s.meter with
    estimate := if s.params.feederSensing then s.meter.feeder.settledSlow.map (fun f => f - s.knownDraws) else none } }

/-- A slow update after the fast part of the same update (R126, R128). -/
def slowPart (d : Time) (s : State) : State := formEstimate (judgeTrim d (formSlowFigures s))

/-! ### The excess (R62, R137) -/

/-- The excess of this update, where the overload lasts and the excess exceeds D (R137). -/
def State.excess (s : State) (feeder : Reading) : Option Current :=
  match s.overloadFigure feeder with
  | some v =>
    if s.meter.overload = 2 ∧ s.grantCtl.deficit < v - s.params.feederLimit then some (v - s.params.feederLimit) else none
  | none => none

/-- The excess is applied to D, then a SHED request is raised with it (R62, R137). -/
def applyExcess (feeder : Reading) (s : State) : State :=
  match s.excess feeder with
  | some x => raiseRequest .shed x (applyShed x s)
  | none => s

/-! ### The judgement of the load (R141 to R143) -/

/-- The level above which the load overdraws: the grant plus the tolerance (R141). -/
def State.drawLimit (s : State) : Current := s.grantCtl.grant + s.params.tolerance

/-- Held timers run again (R143). -/
def resumeEnforcement (s : State) : State :=
  { s with enf := { s.enf with overdraw := s.enf.overdraw.resume s.now, recovery := s.enf.recovery.resume s.now } }

/-- OVER is entered, and the overdraw timer starts in full (R141, R142). -/
def enterOver (s : State) : State :=
  noteCut (setEnf .over { s with enf := { s.enf with
    overdraw := .running (s.now + s.params.overdrawTime * Config.sec) } })

/-- OVER is left for CLEAR, and the overdraw timer stops, running or held (R141, R143). -/
def leaveOver (s : State) : State := noteCut (setEnf .clear { s with enf := { s.enf with overdraw := .stopped } })

/-- A present, settled figure is judged (R141), and a held timer runs again (R143). -/
def judgeFigure (v : Current) (s : State) : State :=
  match s.enf.state with
  | .clear => if s.drawLimit < v then enterOver s else s
  | .over => if s.drawLimit < v then resumeEnforcement s else leaveOver s
  | .cut => s
  | .cooling => resumeEnforcement s

/-- The Enforcement Unit takes the load figure of an update, or its absence (R129, R141, R143). -/
def judgeLoad (s : State) : State :=
  match s.meter.load.settledFast with
  | some v => judgeFigure v s
  | none => holdEnforcement s

/-! ### One update (R126, R129) -/

/-- The update that falls due now is also a slow update: the tenth of its ten (R126). -/
def State.slowDue (s : State) : Bool := decide (s.meter.updates = 9)

/-- The update timer runs on, and the updates are counted modulo ten (R124, R126). -/
def countUpdate (d : Time) (s : State) : State :=
  { s with meter := { s.meter with
    update := some (d + Config.updatePeriod), updates := if s.slowDue then 0 else s.meter.updates + 1 } }

/-- What an update changes before it is handed on: the readings, the figures withdrawn, the overload count, SENSE, the
slow part where it is due, and the excess. -/
def takeUpdate (load feeder : Reading) (d : Time) (s : State) : State :=
  let fast := noteSense s (judgeOverload feeder (withdrawFigures (takeReadings load feeder s)))
  applyExcess feeder (countUpdate d (if s.slowDue then slowPart d fast else fast))

/-- One update of the Meter that fell due at `d`: taken whole, handed to the Share Planner as one event, and then the
load judged against the grant that stands (R129). -/
def meterUpdate (load feeder : Reading) (d : Time) (s : State) : State :=
  judgeLoad (commitDemand s (takeUpdate load feeder d s))

end Sys2Proof.Machine
end

