-- ==== Sys2Proof/Machine/Meter.lean ====
section
/-! DEFINITION. The four rows of the Meter's update.  FAST_UPDATE is every update with all that belongs to it; the other
three name an update of a special kind (log 4). -/

namespace Sys2Proof.Machine

/-- FAST_UPDATE (R126). -/
def execFastUpdate (load feeder : Reading) (s : State) : Result := expire s.meter.update s (meterUpdate load feeder)

/-- SLOW_UPDATE (R128): the update that is the tenth of its ten. -/
def execSlowUpdate (load feeder : Reading) (s : State) : Result :=
  expire s.meter.update s (fun d => onlyIf State.slowDue (meterUpdate load feeder d))

/-- The channel is faulted and this reading clears it: good, after three good ones (R127, T 8-2). -/
def Channel.clearsWith (c : Channel) (r : Reading) : Bool :=
  c.faulted && decide (c.goodRun + 1 = Config.settleCount) &&
    (match r with
      | .good _ => true
      | .saturated => false
      | .openInput => false)

/-- This update clears the fault of a measured channel. -/
def State.faultClears (s : State) (load feeder : Reading) : Bool :=
  s.meter.load.clearsWith load || (s.params.feederSensing && s.meter.feeder.clearsWith feeder)

/-- CHANNEL_FAULT_CLEARS (R127): the update at which a channel's fourth consecutive good reading clears its fault. -/
def execChannelFaultClears (load feeder : Reading) (s : State) : Result :=
  expire s.meter.update s (fun d => onlyIf (fun s => s.faultClears load feeder) (meterUpdate load feeder d))

/-- This update brings the overload count from 1 to 2 (R136). -/
def State.overloadBegins (s : State) (feeder : Reading) : Bool :=
  decide (s.meter.overload = 1) &&
    decide (countOverload s.params.feederLimit (s.overloadFigure feeder) s.meter.overload = 2)

/-- OVERLOAD_BEGINS (R136): the update at which the overload count reaches 2. -/
def execOverloadBegins (load feeder : Reading) (s : State) : Result :=
  expire s.meter.update s (fun d => onlyIf (fun s => s.overloadBegins feeder) (meterUpdate load feeder d))

end Sys2Proof.Machine
end

