-- ==== Sys2Proof/Machine/Restart.lean ====
section
/-! DEFINITION. The three kinds of restart that come from outside the part (R161); the host RESTART is taken at
REPLY_SENT. -/

namespace Sys2Proof.Machine

/-- POWER_ON: a restart with cause POWER (R161).  It is taken whatever the level of the RESTART input; while that input
is asserted the read is not begun (log 16). -/
def execPowerOn (t : Time) (s : State) : Result := .next (restartWith .power (s.atTime t))

/-- RESTART_INPUT_ASSERTED: the station is held at the values of a restart, the read not begun, until the release; the
cause recorded so far is kept, since the restart is taken at the release (R161, log 16). -/
def execRestartInputAsserted (t : Time) (s : State) : Result :=
  .next (if s.restartInput then s.atTime t
    else restartWith s.loader.cause { s.atTime t with restartInput := true })

/-- RESTART_INPUT_RELEASE: after an assertion, a restart with cause PIN (R161). -/
def execRestartInputRelease (t : Time) (s : State) : Result :=
  .next (if s.restartInput then restartWith .pin { s.atTime t with restartInput := false } else s.atTime t)

end Sys2Proof.Machine
end

