-- ==== Sys2Proof/Machine/Timers.lean ====
section
/-! DEFINITION. The expiries of the timers of the Lifecycle Controller, the Roster Unit, the Grant Controller and the
Transmit Scheduler. -/

namespace Sys2Proof.Machine

/-- A cycle expiry that fell due at `d`: the next one falls one cycle period after it; silence is counted, and a STATUS
request raised (R38, R68, R106). -/
def cycleExpires (d : Time) (s : State) : State :=
  raiseRequest .status 0
    (countSilences { s with life := { s.life with cycle := some (d + s.params.cyclePeriod) } })

/-- CYCLE_TIMER_EXPIRY (R68). -/
def execCycleTimerExpiry (s : State) : Result := expire s.life.cycle s cycleExpires

/-- ENTRY_GOES_QUIET (R39): the cycle expiry at which this LIVE entry's count reaches the silence limit (log 4). -/
def execEntryGoesQuiet (n : Station) (s : State) : Result :=
  expire s.life.cycle s (fun d =>
    onlyIf (fun s => s.life.state.takesFrames && s.fallsQuiet n) (cycleExpires d))

/-- The listen ends: JOINING, an ANNOUNCE request, the grant compared and settling judged (R70, R71).  The request is
raised last; JOINING and ACTIVE, where the event may end, both accept it. -/
def listenEnds (s : State) : State :=
  raiseRequest .announce 0 (enterJoining { s with life := { s.life with listen := none } })

/-- LISTEN_TIMER_EXPIRY (R70). -/
def execListenTimerExpiry (s : State) : Result :=
  expire s.life.listen s (fun _ => onlyIf (fun s => decide (s.life.state = .listening)) listenEnds)

/-- FORGET_TIMER_EXPIRY of a station's entry (R40). -/
def execForgetTimerExpiry (n : Station) (s : State) : Result :=
  expire (s.forgetTimer n) s (fun _ => onlyIf (fun s => s.life.state.takesFrames) (forgetEntry n))

/-- The moment a running raise hold expires. -/
def HoldTimer.due : HoldTimer → Timer
  | .running d => some d
  | .stopped => none
  | .expired => none

/-- RAISE_HOLD_EXPIRY (R52): the timer stays expired, and a raise is weighed (R55). -/
def execRaiseHoldExpiry (s : State) : Result :=
  expire s.grantCtl.raiseHold.due s (fun _ s =>
    weighRaise { s with grantCtl := { s.grantCtl with raiseHold := .expired } })

/-- The shed hold ends: D becomes 0, the timer stops, SHED is raised, and a changed D brings a plan (R63, R64). -/
def shedHoldEnds (s : State) : State :=
  commit s (raiseNote (.shed 0 false) { s with grantCtl := { s.grantCtl with deficit := 0, shedHold := none } })

/-- SHED_HOLD_EXPIRY (R63). -/
def execShedHoldExpiry (s : State) : Result := expire s.grantCtl.shedHold s (fun _ => shedHoldEnds)

/-- STATUS_SPACING_TIMER_EXPIRY (R109): the timer stops, so a waiting STATUS is offered again. -/
def execStatusSpacingTimerExpiry (s : State) : Result :=
  expire s.sched.spacing s (fun _ s => { s with sched := { s.sched with spacing := none } })

/-- The SPENT deadline has been reached. -/
def State.spentReached (s : State) : Bool :=
  match s.life.spentAt with
  | some d => decide (d ≤ s.now)
  | none => false

/-- The FALLBACK deadline in HOLD; both deadlines reached, they are taken as one (R75). -/
def fallbackReached (s : State) : State := if s.spentReached then enterSpent s else enterFallback s

/-- FALLBACK_DEADLINE (R75): it has an effect in HOLD alone. -/
def execFallbackDeadline (s : State) : Result :=
  expire s.life.fallbackAt s (fun _ =>
    onlyIf (fun s => decide (s.life.state = .isolated) && decide (s.life.phase = .hold)) fallbackReached)

/-- SPENT_DEADLINE (R76): it has an effect in HOLD and FALLBACK. -/
def execSpentDeadline (s : State) : Result :=
  expire s.life.spentAt s (fun _ =>
    onlyIf (fun s => decide (s.life.state = .isolated) &&
      (decide (s.life.phase = .hold) || decide (s.life.phase = .fallback))) enterSpent)

end Sys2Proof.Machine
end

