-- ==== Sys2Proof/Machine/Window.lean ====
section
/-! DEFINITION. The row WINDOW_CLOSE (R119): the frame event that brings the window event count to W, taken with all that
the event itself does (log 4). -/

namespace Sys2Proof.Machine

/-- A frame event comes about in this state (T 7-2): a complete frame that can be the one being taken or that falls at the
moment of our outcome (log 42, log 47), one cut short that is not the remainder of our own ABORTED attempt, an outcome of
our attempt, an ABORTED one at a bit that aborts. -/
def State.frameEventOccurs (s : State) : FrameEvent → Bool
  | .received bytes _ => match judgeFrame bytes with
    | some (.inl f) => s.canTakeValid f bytes
    | some (.inr _) => s.canTakeDamaged bytes
    | none => false
  | .cutShort _ => match s.bus.assembly with
    | .good .afterAborted _ _ => false
    | _ => s.receiving
  | .outcome _ _ => s.openAttempt.isSome
  | .aborted pos => match s.ownAttempt with
    | some (a, _) => a.breaksAt pos
    | none => false

/-- A complete received frame, valid or damaged. -/
def takeReceived (bytes : List Byte) (linkFirst : Bool) (s : State) : State :=
  match judgeFrame bytes with
  | some (.inl f) => takeFrame f bytes linkFirst s
  | some (.inr _) => takeDamaged bytes s
  | none => s

/-- What a frame event does. -/
def takeFrameEvent (ev : FrameEvent) (s : State) : State :=
  match ev with
  | .received bytes linkFirst => takeReceived bytes linkFirst s
  | .cutShort recessive => cutShort recessive s
  | .outcome accept refuse => takeOutcome accept refuse s
  | .aborted pos => abortAt pos s

/-- WINDOW_CLOSE (R119): comes about only where the event occurs and brings the count to W. -/
def execWindowClose (t : Time) (ev : FrameEvent) (s : State) : Result :=
  arrive t s (onlyIf (fun s => s.windowDue && s.frameEventOccurs ev) (takeFrameEvent ev))

end Sys2Proof.Machine
end

