-- ==== Sys2Proof/Machine/Dispatch.lean ====
section
/-! DEFINITION. The dispatch: one arm for each command, each one call of its meaning. -/

namespace Sys2Proof.Machine

/-- The effect of a command on everything but the queue of commands. -/
def exec (i : Instr) (s : State) : Host.Outcome State Fault Refusal :=
  match i with
  | .powerOn t => Sys2Proof.Machine.execPowerOn t s
  | .restartInputAsserted t => Sys2Proof.Machine.execRestartInputAsserted t s
  | .restartInputRelease t => Sys2Proof.Machine.execRestartInputRelease t s
  | .headerRead t b0 b1 => Sys2Proof.Machine.execHeaderRead t b0 b1 s
  | .imageRead t rest => Sys2Proof.Machine.execImageRead t rest s
  | .reverifyTimerExpiry ev => Sys2Proof.Machine.execReverifyTimerExpiry ev s
  | .state t payload => Sys2Proof.Machine.execState t payload s
  | .demand t payload => Sys2Proof.Machine.execDemand t payload s
  | .peer t payload => Sys2Proof.Machine.execPeer t payload s
  | .plan t payload => Sys2Proof.Machine.execPlan t payload s
  | .counts t payload => Sys2Proof.Machine.execCounts t payload s
  | .note t payload => Sys2Proof.Machine.execNote t payload s
  | .clearCut t payload => Sys2Proof.Machine.execClearCut t payload s
  | .leave t payload => Sys2Proof.Machine.execLeave t payload s
  | .join t payload => Sys2Proof.Machine.execJoin t payload s
  | .restart t payload => Sys2Proof.Machine.execRestart t payload s
  | .config t payload => Sys2Proof.Machine.execConfig t payload s
  | .unknownCommand t code payload => Sys2Proof.Machine.execUnknownCommand t code payload s
  | .hostFrameDiscarded t bytes => Sys2Proof.Machine.execHostFrameDiscarded t bytes s
  | .gapTimerExpiry => Sys2Proof.Machine.execGapTimerExpiry s
  | .byteWithoutStopBit t => Sys2Proof.Machine.execByteWithoutStopBit t s
  | .replySent t => Sys2Proof.Machine.execReplySent t s
  | .busIdle line => Sys2Proof.Machine.execBusIdle line s
  | .attemptStart t => Sys2Proof.Machine.execAttemptStart t s
  | .attemptLost t pos => Sys2Proof.Machine.execAttemptLost t pos s
  | .attemptAborted t pos => Sys2Proof.Machine.execAttemptAborted t pos s
  | .attemptOutcomeTaken t accept refuse => Sys2Proof.Machine.execAttemptOutcomeTaken t accept refuse s
  | .requestDropped t cause => Sys2Proof.Machine.execRequestDropped t cause s
  | .isolationLimit t refuse => Sys2Proof.Machine.execIsolationLimit t refuse s
  | .fallbackDeadline => Sys2Proof.Machine.execFallbackDeadline s
  | .spentDeadline => Sys2Proof.Machine.execSpentDeadline s
  | .statusFrame t bytes linkFirst => Sys2Proof.Machine.execStatusFrame t bytes linkFirst s
  | .announceFrame t bytes linkFirst => Sys2Proof.Machine.execAnnounceFrame t bytes linkFirst s
  | .leaveFrame t bytes linkFirst => Sys2Proof.Machine.execLeaveFrame t bytes linkFirst s
  | .shedFrame t bytes linkFirst => Sys2Proof.Machine.execShedFrame t bytes linkFirst s
  | .frameCutShort v => Sys2Proof.Machine.execFrameCutShort v s
  | .frameDamaged t bytes => Sys2Proof.Machine.execFrameDamaged t bytes s
  | .cycleTimerExpiry => Sys2Proof.Machine.execCycleTimerExpiry s
  | .entryGoesQuiet n => Sys2Proof.Machine.execEntryGoesQuiet n s
  | .listenTimerExpiry => Sys2Proof.Machine.execListenTimerExpiry s
  | .forgetTimerExpiry n => Sys2Proof.Machine.execForgetTimerExpiry n s
  | .raiseHoldExpiry => Sys2Proof.Machine.execRaiseHoldExpiry s
  | .shedHoldExpiry => Sys2Proof.Machine.execShedHoldExpiry s
  | .statusSpacingTimerExpiry => Sys2Proof.Machine.execStatusSpacingTimerExpiry s
  | .windowClose t ev => Sys2Proof.Machine.execWindowClose t ev s
  | .fastUpdate load feeder => Sys2Proof.Machine.execFastUpdate load feeder s
  | .slowUpdate load feeder => Sys2Proof.Machine.execSlowUpdate load feeder s
  | .channelFaultClears load feeder => Sys2Proof.Machine.execChannelFaultClears load feeder s
  | .overloadBegins load feeder => Sys2Proof.Machine.execOverloadBegins load feeder s
  | .overdrawTimerExpiry => Sys2Proof.Machine.execOverdrawTimerExpiry s
  | .recoveryTimerExpiry => Sys2Proof.Machine.execRecoveryTimerExpiry s
  | .startBit t => Sys2Proof.Machine.execStartBit t s
  | .hostByteReceived t b => Sys2Proof.Machine.execHostByteReceived t b s

end Sys2Proof.Machine
end

