-- ==== Sys2Proof/Safety.lean ====
section
/-! DEFINITION. The laws of the device (00_scope, "Laws of the device"; each in the rule named), as propositions about
one state.  They say what is safe; the statements that every step keeps them are obligations. -/

namespace Sys2Proof.Safety

open Sys2Proof.Machine

/-- The CUT output is asserted exactly when the station state is LOADING or FAULT, or the enforcement state is CUT or
COOLING (R147). -/
def CutLaw (s : State) : Prop := s.cutOutput = s.cutCondition

/-- ATTENTION is asserted while the queue holds a notification and released while it is empty (R178). -/
def AttentionLaw (s : State) : Prop := s.attention = !s.host.queue.isEmpty

/-- At most 8 notifications, at most one of each kind (R176); the lost flag is clear while the queue is empty (R173). -/
def QueueLaw (s : State) : Prop :=
  s.host.queue.length ≤ Config.queueCapacity ∧ (s.host.queue.map Notification.kindCode).Nodup ∧
  (s.host.queue = [] → s.host.lostFlag = false)

/-- Every counter stands at 65535 or below (00_scope, Counters). -/
def CounterLaw (s : State) : Prop :=
  s.bus.framesSent ≤ Config.counterMax ∧ s.bus.lost ≤ Config.counterMax ∧ s.bus.aborted ≤ Config.counterMax ∧
  s.bus.partly ≤ Config.counterMax ∧ s.bus.unheard ≤ Config.counterMax ∧ s.bus.validReceived ≤ Config.counterMax ∧
  s.bus.damagedReceived ≤ Config.counterMax ∧ s.roster.admissionsRefused ≤ Config.counterMax ∧
  s.sched.requestsDropped ≤ Config.counterMax ∧ s.roster.shedIgnored ≤ Config.counterMax ∧
  s.host.framesDiscarded ≤ Config.counterMax ∧ s.host.notesLost ≤ Config.counterMax

/-- The class and the origin of an entry go together as Table 2-2 lists (R24). -/
def EntryLaw (e : Entry) : Prop :=
  match e.cls, e.origin with
  | .live, .heard _ => True
  | .quiet, .heard _ => True
  | .quiet, .hearsay => True
  | .mismatch, .heard _ => True
  | .live, .hearsay => False
  | .mismatch, .hearsay => False

/-- At most 24 entries, in ascending station number with no number twice, none with our own number, each one of the
kinds of Table 2-2 (R23, R24). -/
def RosterLaw (s : State) : Prop :=
  s.roster.entries.length ≤ Config.rosterCapacity ∧ (s.roster.entries.map Entry.station).Pairwise (· < ·) ∧
  (∀ e ∈ s.roster.entries, e.station ≠ s.ownStation ∧ EntryLaw e)

/-- What an entry holds of a peer's claim meets the ranges of R96. -/
def ReportLaw (s : State) : Prop :=
  ∀ e ∈ s.roster.entries, ∀ r, e.origin = .heard r →
    1 ≤ r.max ∧ r.max ≤ 10000 ∧ r.min ≤ r.max ∧
    (r.demand = 0 ∨ (r.min ≤ r.demand ∧ r.demand ≤ r.max)) ∧ r.grant ≤ r.max

/-- The forgotten set holds a number at most once and never our own (R37). -/
def ForgottenLaw (s : State) : Prop := s.roster.forgotten.Nodup ∧ s.ownStation ∉ s.roster.forgotten

/-- The effective demand is 0 in CUT and COOLING, else T while TRIMMED, else the host demand (R2, T 1-2). -/
def DemandLaw (s : State) : Prop := s.planner.claim.effectiveDemand = s.demandFormed

/-- The settled flag is set exactly while the overflow flag is clear and every LIVE entry's confirmed flag is set, in every
state in which the Grant Controller takes events (R47, R50); in FAULT it may still stand as it was held (R168). -/
def SettledLaw (s : State) : Prop :=
  s.life.state ≠ .loading → s.life.state ≠ .fault → s.grantCtl.settled = s.settledCondition

/-- The isolation phase is NONE in every state except ISOLATED (R66), and never NONE there (R74). -/
def PhaseLaw (s : State) : Prop := s.life.phase = .none ↔ s.life.state ≠ .isolated

/-- The station states of R84 in which the grant is 0. -/
def grantIsZeroIn : StationState → Bool
  | .loading => true
  | .fault => true
  | .listening => true
  | .leaving => true
  | .dormant => true
  | .duplicate => true
  | .joining => false
  | .active => false
  | .isolated => false

/-- The grant is 0 in the states of R84 and in the phase SPENT. -/
def ZeroGrantLaw (s : State) : Prop :=
  (grantIsZeroIn s.life.state = true → s.grantCtl.grant = 0) ∧ (s.life.phase = .spent → s.grantCtl.grant = 0)

/-- In ACTIVE and in JOINING the grant never exceeds our share in the current plan (R60). -/
def ShareLaw (s : State) : Prop :=
  s.life.state = .active ∨ s.life.state = .joining → s.grantCtl.grant ≤ s.ownShare

/-- A request stands in a slot only where the station state keeps its kind, with a retry count of at most 3 (R104,
R105, R111, R114). -/
def RequestLaw (s : State) : Prop :=
  (∀ k r, s.sched.slot k = some r → s.life.state.keeps k = true ∧ r.retry ≤ Config.retryLimit) ∧
  (∀ a, s.sched.inFlight = some a → a.request.retry ≤ Config.retryLimit)

/-- An attempt is in flight at the Transmit Scheduler exactly while one is on the line (T 6-1, 05 introduction). -/
def AttemptLaw (s : State) : Prop := s.sched.inFlight.isSome = s.bus.attempt.isSome

/-- The isolation count runs from 0 to 5 (R72). -/
def IsolationLaw (s : State) : Prop := s.sched.isolationCount ≤ Config.isolationLimit

/-- The damaged count never exceeds the window event count (R116). -/
def WindowLaw (s : State) : Prop := s.link.damaged ≤ s.link.events

/-- The shares and the unassigned remainder add up to exactly P, and P is at most H (R13). -/
def PlanSumLaw (p : Plan) : Prop := (p.rows.map Row.share).sum + p.remainder = p.pool ∧ p.pool ≤ p.headroom

/-- Every row's share is 0, or lies between the row's min and its demand (R13). -/
def RowLaw (r : Row) : Prop := r.share = 0 ∨ (r.min ≤ r.share ∧ r.share ≤ r.demand)

/-- The plan table is empty in LOADING and FAULT (R14); the shares of a standing plan add up (R13). -/
def PlanLaw (s : State) : Prop :=
  (∀ p, s.planner.plan = some p → PlanSumLaw p) ∧ (s.life.state.plans = false → s.planner.plan = none)

/-- The Loader runs on a valid image: HELD, with a held copy and a network digest (R157). -/
def RunsOnImage (s : State) : Prop :=
  s.loader.stage = .held ∧ s.loader.heldCopy.isSome = true ∧ s.loader.networkDigest.isSome = true

/-- The loader stage goes with the station state (T 10-3): in LOADING READING or AWAITING HOST with neither held copy nor
network digest, in FAULT FAILED, else HELD with both. -/
def StageLaw (s : State) : Prop :=
  match s.life.state with
  | .loading => (s.loader.stage = .reading ∨ s.loader.stage = .awaitingHost) ∧ s.loader.heldCopy = none ∧
      s.loader.networkDigest = none
  | .fault => s.loader.stage = .failed
  | .listening => RunsOnImage s
  | .joining => RunsOnImage s
  | .active => RunsOnImage s
  | .isolated => RunsOnImage s
  | .leaving => RunsOnImage s
  | .dormant => RunsOnImage s
  | .duplicate => RunsOnImage s

/-- In LOADING every block but the Configuration Loader, the Host Port and the clock stands at its values of a restart: none of
them takes an event there (R22, R47, R66, R87, R116, R124, R140, R151). -/
def LoadingLaw (s : State) : Prop :=
  s.life.state = .loading →
    s.bus = State.reset.bus ∧ s.sched = State.reset.sched ∧ s.roster = State.reset.roster ∧
    s.planner = State.reset.planner ∧ s.grantCtl = State.reset.grantCtl ∧ s.life = State.reset.life ∧
    s.meter = State.reset.meter ∧ s.enf = State.reset.enf ∧ s.link = State.reset.link

/-- The min and max of the own claim record are those of the held configuration, the host demand is 0 or within min..max, and
the trimmed value T lies within min..host demand (R1, R2, T 1-1). -/
def ClaimLaw (s : State) : Prop :=
  s.planner.claim.min = s.params.min ∧ s.planner.claim.max = s.params.max ∧
  (s.planner.claim.hostDemand = 0 ∨
    (s.planner.claim.min ≤ s.planner.claim.hostDemand ∧ s.planner.claim.hostDemand ≤ s.planner.claim.max)) ∧
  (∀ v, s.meter.trim = some v → s.planner.claim.min ≤ v ∧ v ≤ s.planner.claim.hostDemand)

/-- In every plan that stands our own row's share is at most our effective demand (R7, R13). -/
def OwnShareLaw (s : State) : Prop := s.ownShare ≤ s.planner.claim.effectiveDemand

/-- The grant never exceeds our effective demand (R60). -/
def GrantLaw (s : State) : Prop := s.grantCtl.grant ≤ s.planner.claim.effectiveDemand

/-- Where plans are computed, the digest and the plan that stand are those of the elements and inputs as they stand (R14, R15,
R19). -/
def FreshLaw (s : State) : Prop :=
  s.life.state.plans = true → s.planner.digest = s.digestNow ∧ s.planner.plan = some s.planNow

/-- The bus is idle only with a recessive count of 10 or more, outside a frame, with no assembly and no attempt of ours (R88,
R92, R100). -/
def LineLaw (s : State) : Prop :=
  s.bus.idle = true →
    Config.idleCount ≤ s.bus.recessive ∧ s.bus.endLeft = 0 ∧ s.bus.assembly = .empty ∧ s.bus.attempt = none

/-- While the RESTART input is asserted the station is held at the values of a restart, the read not begun (R161). -/
def HeldLaw (s : State) : Prop :=
  s.restartInput = true →
    s = { State.reset with now := s.now, pending := s.pending, restartInput := true,
                           loader := Loader.initial s.loader.cause .idle }

end Sys2Proof.Safety
end

