-- ==== Sys2Proof/WellFormed.lean ====
section
/-! DEFINITION. Which commands are well formed: the operands have the sizes the manual's layouts give.
An ill-formed command cannot arise outside the part; the machine takes it as an event that does not occur (log 3). -/

namespace Sys2Proof

/-- A host command has at most 63 payload bytes, since its length byte is at most 64 (R164, T 11-2). -/
def payloadFits (payload : List Byte) : Bool := decide (payload.length < Config.hostLengthMax)

/-- The codes of T 11-2 are 01h to 0Bh. -/
def codeKnown (code : Byte) : Bool := decide (1 ≤ code.toNat ∧ code.toNat ≤ 11)

/-- A complete bus frame: identifier, length, as many payload bytes as the length gives, two check bytes (R95). -/
def frameComplete (bytes : List Byte) : Bool :=
  match bytes with
  | _ :: len :: rest => decide (rest.length = len.toNat + 2)
  | _ => false

/-- The kind code of a frame, bits 7 and 6 of its identifier (R90). -/
def frameKindCode (bytes : List Byte) : Nat :=
  match bytes with
  | ident :: _ => ident.toNat / 64
  | [] => 4

/-- The bytes of a host frame from its length on that R164 discards: a bad length, or a nonzero sum. -/
def hostFrameBad (bytes : List Byte) : Bool :=
  match bytes with
  | [] => false
  | len :: rest =>
    if len.toNat = 0 ∨ Config.hostLengthMax < len.toNat then rest.isEmpty
    else decide (rest.length = len.toNat + 1 ∧ ((len :: rest).map BitVec.toNat).sum % 256 ≠ 0)

/-- A frame event is well formed when a received frame is complete. -/
def FrameEvent.wellFormed : FrameEvent → Bool
  | .received bytes _ => frameComplete bytes
  | .cutShort _ => true
  | .outcome _ _ => true
  | .aborted _ => true

/-- The sizes of a command's operands. -/
def Instr.wellFormed : Instr → Bool
  | .powerOn _ => true
  | .restartInputAsserted _ => true
  | .restartInputRelease _ => true
  | .headerRead _ _ _ => true
  | .imageRead _ rest => decide (rest.length = 40)
  | .reverifyTimerExpiry _ => true
  | .state _ p => payloadFits p
  | .demand _ p => payloadFits p
  | .peer _ p => payloadFits p
  | .plan _ p => payloadFits p
  | .counts _ p => payloadFits p
  | .note _ p => payloadFits p
  | .clearCut _ p => payloadFits p
  | .leave _ p => payloadFits p
  | .join _ p => payloadFits p
  | .restart _ p => payloadFits p
  | .config _ p => payloadFits p
  | .unknownCommand _ c p => payloadFits p && !codeKnown c
  | .hostFrameDiscarded _ b => hostFrameBad b
  | .gapTimerExpiry => true
  | .byteWithoutStopBit _ => true
  | .replySent _ => true
  | .busIdle _ => true
  | .attemptStart _ => true
  | .attemptLost _ _ => true
  | .attemptAborted _ _ => true
  | .attemptOutcomeTaken _ _ _ => true
  | .requestDropped _ _ => true
  | .isolationLimit _ _ => true
  | .fallbackDeadline => true
  | .spentDeadline => true
  | .statusFrame _ b _ => frameComplete b && frameKindCode b == 3
  | .announceFrame _ b _ => frameComplete b && frameKindCode b == 2
  | .leaveFrame _ b _ => frameComplete b && frameKindCode b == 1
  | .shedFrame _ b _ => frameComplete b && frameKindCode b == 0
  | .frameCutShort _ => true
  | .frameDamaged _ b => frameComplete b
  | .cycleTimerExpiry => true
  | .entryGoesQuiet _ => true
  | .listenTimerExpiry => true
  | .forgetTimerExpiry _ => true
  | .raiseHoldExpiry => true
  | .shedHoldExpiry => true
  | .statusSpacingTimerExpiry => true
  | .windowClose _ ev => ev.wellFormed
  | .fastUpdate _ _ => true
  | .slowUpdate _ _ => true
  | .channelFaultClears _ _ => true
  | .overloadBegins _ _ => true
  | .overdrawTimerExpiry => true
  | .recoveryTimerExpiry => true
  | .startBit _ => true
  | .hostByteReceived _ _ => true

end Sys2Proof
end

