-- ==== Sys2Proof/Certificates/Slice0/Obligations.lean ====
section
/-! DEFINITION. The statements for the provers, over helper definitions in the namespace Sys2Proof.Claims.
A statement about a command has as its conclusion that exec answers a next state, and says of that state what the rules give
and what stays as it was.
Moments are those of the model's clock (log 1), a host command's row is the arrival of its whole frame (log 17), frames are
bytes (log 5), and a row that names a special case of an event is that event (log 4).
Where a frame event takes part, the statement is about an event that does not close the window of the Link Monitor; what a
closing window adds is said by the statements about WINDOW_CLOSE and about one frame event. -/

namespace Sys2Proof.Claims

open Sys2Proof.Machine Sys2Proof.Safety

/-! ### Hypotheses that several statements share -/

/-- No command is in progress, so that a command that arrives is taken at once (R165), and the RESTART input is
released. -/
def PortFree (s : State) : Prop := s.restartInput = false ∧ s.host.inProgress = none

/-- Events are taken, and the next frame event does not close the window of the Link Monitor (R119). -/
def OpenWindow (s : State) : Prop := s.restartInput = false ∧ s.link.events + 1 < s.params.window

/-- The command in front is no fault of the storage (R160): the held copy stays what was judged, or is given up whole. -/
def StorageKept (s : State) : Prop :=
  ∀ t i b rest, s.pending ≠ .reverifyTimerExpiry (.storageFault t i b) :: rest

/-- The states in which the grant is the Lifecycle Controller's, or 0, and T 11-4 takes a DEMAND. -/
def DemandTaken (s : State) : Prop :=
  s.life.state ≠ .loading ∧ s.life.state ≠ .duplicate ∧ s.life.state ≠ .fault

/-! ### Commands named by what they share -/

/-- The row of a known host command. -/
def row (c : Cmd) (t : Time) (p : List Byte) : Instr :=
  match c with
  | .state => .state t p
  | .demand => .demand t p
  | .peer => .peer t p
  | .plan => .plan t p
  | .counts => .counts t p
  | .note => .note t p
  | .clearCut => .clearCut t p
  | .leave => .leave t p
  | .join => .join t p
  | .restart => .restart t p
  | .config => .config t p

/-- The row of a received valid frame. -/
def frameRow (k : Kind) (t : Time) (bytes : List Byte) (linkFirst : Bool) : Instr :=
  match k with
  | .status => .statusFrame t bytes linkFirst
  | .announce => .announceFrame t bytes linkFirst
  | .leave => .leaveFrame t bytes linkFirst
  | .shed => .shedFrame t bytes linkFirst

/-- The row of a frame event, whether or not it closes the window. -/
def eventRow (t : Time) : FrameEvent → Instr
  | .received bytes linkFirst =>
    match judgeFrame bytes with
    | some (.inl f) => frameRow f.kind t bytes linkFirst
    | _ => .frameDamaged t bytes
  | .cutShort recessive => .frameCutShort ⟨t, recessive⟩
  | .outcome accept refuse => .attemptOutcomeTaken t accept refuse
  | .aborted pos => .attemptAborted t pos

/-- The commands that end the LEAVE attempt `a` of the request `f`: an outcome read from the trailer, PARTIAL only at the
last retry; and at the last retry ABORTED, under each row that names it (R80, R110, log 4). -/
def EndsLeave (t : Time) (a : Attempt) (f : InFlight) (c : Instr) : Prop :=
  (∃ accept refuse, c = .attemptOutcomeTaken t accept refuse ∧ a.first ≠ .broken ∧
    (accept = true → refuse = true → f.request.retry = 3)) ∨
  (c = .requestDropped t .partly ∧ a.first ≠ .broken ∧ f.request.retry = 3) ∨
  (∃ pos, (c = .attemptAborted t pos ∨ c = .requestDropped t (.aborted pos)) ∧ abortsAt a.frame pos = true ∧
    a.first ≠ .peer ∧ (a.first = .broken → pos = a.frame.lastBit) ∧ f.request.retry = 3)

/-- Of those commands, the ones that drop the request: all but an outcome ACCEPTED or UNHEARD (T 6-5). -/
def dropsLeave (c : Instr) : Bool :=
  match c with
  | .attemptOutcomeTaken _ accept refuse => accept && refuse
  | _ => true

/-! ### Results that several statements share -/

/-- How many of the last line bits are recessive, without a break (R88). -/
def trailingRecessive (bits : List Bool) : Nat := (bits.reverse.takeWhile (fun b => b)).length

/-- What of an entry counts for our digest: number, class, and while LIVE its serial, priority, min and demand (R19). -/
def countedParts (e : Entry) : Station × EntryClass × Option (Byte × Fin 4 × Current × Current) :=
  (e.station, e.cls, match e.cls, e.origin with
    | .live, .heard r => some (r.serial, r.priority, r.min, r.demand)
    | _, _ => none)

/-- What an event from `s` to `u` that changes the roster does to the confirmations, but for that of the sender `who`, and
to the raise hold.  Where it changes what counts for our digest every confirmed flag is clear afterwards and the hold runs
in full (R19, R49, R52).  Elsewhere the flags stand; the hold runs in full where the new plan has a larger H or P than the
one it replaced (R5, R52), and else stands too. -/
def DigestChangeTaken (who : Option Station) (s u : State) : Prop :=
  let full := HoldTimer.running (u.now + s.params.raiseHold * Config.sec)
  (u.roster.entries.map countedParts ≠ s.roster.entries.map countedParts →
    (∀ m e, some m ≠ who → u.entryOf m = some e → e.confirmed = false) ∧ u.grantCtl.raiseHold = full) ∧
  (u.roster.entries.map countedParts = s.roster.entries.map countedParts →
    (∀ m e x, some m ≠ who → s.entryOf m = some e → u.entryOf m = some x → x.confirmed = e.confirmed) ∧
    (∀ p q, s.planner.plan = some p → u.planner.plan = some q →
      (p.headroom < q.headroom ∨ p.pool < q.pool → u.grantCtl.raiseHold = full) ∧
      (q.headroom ≤ p.headroom → q.pool ≤ p.pool → u.grantCtl.raiseHold = s.grantCtl.raiseHold)))

/-- The state after a whole command frame has come in and its reply has been begun, all else as in `s` (R164 to R166). -/
def answered (cmd : HostCommand) (st : Status) (payload : List Byte) (s : State) : State :=
  { s with host := { s.host with
    rx := .hunting, gap := none, overrun := false
    inProgress := some { command := cmd, reply := replyFrame cmd.code st s.host.overrun payload, restarts := false } } }

/-- The values of T 10-4, block by block as the chapters' own tables give them, with the restart cause (R161, R162); the
trailer slots, the updates counted modulo ten and the rate that waits are the model's own pieces of state (log 19). -/
def AtRestart (cause : RestartCause) (begun : Bool) (u : State) : Prop :=
  u.cutOutput = true ∧ u.attention = false ∧
  (u.bus.recessive = 0 ∧ u.bus.idle = false ∧ u.bus.endLeft = 0 ∧ u.bus.assembly = .empty ∧ u.bus.attempt = none ∧
    u.bus.trailer = .neither ∧ u.bus.framesSent = 0 ∧ u.bus.lost = 0 ∧ u.bus.aborted = 0 ∧ u.bus.partly = 0 ∧
      u.bus.unheard = 0 ∧ u.bus.validReceived = 0 ∧
    u.bus.damagedReceived = 0) ∧
  (u.sched.shed = none ∧ u.sched.leave = none ∧ u.sched.announce = none ∧ u.sched.status = none ∧
    u.sched.inFlight = none ∧ u.sched.spacing = none ∧ u.sched.isolationCount = 0 ∧ u.sched.requestsDropped = 0) ∧
  (u.roster.entries = [] ∧ u.roster.overflow = false ∧ u.roster.forgotten = [] ∧ u.roster.admissionsRefused = 0 ∧
    u.roster.shedIgnored = 0) ∧
  (u.planner.claim.hostDemand = 0 ∧ u.planner.claim.effectiveDemand = 0 ∧ u.planner.claim.serial = 0 ∧
    u.planner.plan = none ∧ u.planner.digest = 0x0000#16) ∧
  (u.grantCtl.grant = 0 ∧ u.grantCtl.settled = false ∧ u.grantCtl.raiseHold = .stopped ∧ u.grantCtl.deficit = 0 ∧
    u.grantCtl.shedHold = none) ∧
  (u.life.state = .loading ∧ u.life.phase = .none ∧ u.life.listen = none ∧ u.life.cycle = none ∧ u.life.tClean = none ∧
    u.life.tAny = none ∧ u.life.fallbackAt = none ∧ u.life.spentAt = none) ∧
  (u.meter.update = none ∧ u.meter.updates = 0 ∧ u.meter.load = Channel.initial ∧
      u.meter.feeder = Channel.initial ∧ u.meter.trim = none ∧
    u.meter.watch = none ∧ u.meter.estimate = none ∧ u.meter.overload = 0) ∧
  (u.enf.state = .clear ∧ u.enf.overdraw = .stopped ∧ u.enf.recovery = .stopped) ∧
  (u.link.events = 0 ∧ u.link.damaged = 0 ∧ u.link.degraded = false) ∧
  (u.loader.stage = .reading ∧ u.loader.readStep = (if begun then .header else .idle) ∧ u.loader.heldCopy = none ∧
    u.loader.networkDigest = none ∧ u.loader.reason = .none ∧ u.loader.cause = cause ∧ u.loader.reverify = none ∧
    u.loader.lineRate = .r19200 ∧ u.loader.rateDue = none) ∧
  (u.host.rx = .hunting ∧ u.host.gap = none ∧ u.host.inProgress = none ∧ u.host.waiting = none ∧ u.host.overrun = false ∧
    u.host.queue = [] ∧ u.host.lostFlag = false ∧ u.host.framesDiscarded = 0 ∧ u.host.notesLost = 0)

/-- FAULT has been entered with a reason, from `s`, which was not in FAULT (R83, R158, R160); notifications in the order
FAULT, STATION STATE, and GRANT when the grant has changed. -/
def FaultEntered (r : FaultReason) (s u : State) : Prop :=
  u.life = { s.life with state := .fault, phase := .none, listen := none, fallbackAt := none, spentAt := none } ∧
  u.grantCtl = { s.grantCtl with grant := 0 } ∧
  u.sched = { s.sched with shed := none, leave := none, announce := none, status := none, inFlight := none,
                           spacing := none } ∧
  u.bus = { s.bus with assembly := .empty, attempt := none, trailer := .neither } ∧
  u.planner = { s.planner with plan := none } ∧
  u.roster = { s.roster with entries := s.roster.entries.map (fun e => { e with forget := none }) } ∧
  u.meter = { s.meter with update := none, watch := none } ∧
  u.enf = { s.enf with overdraw := s.enf.overdraw.hold s.now, recovery := s.enf.recovery.hold s.now } ∧
  u.loader = { s.loader with stage := .failed, readStep := .idle, reason := r, reverify := none } ∧
  u.link = s.link ∧ u.cutOutput = true ∧ u.attention = true ∧ u.now = s.now ∧ u.pending = s.pending ∧
  u.restartInput = s.restartInput ∧
  u.host.queue = (if s.grantCtl.grant = 0 then
      enterNote (.stationState .fault .none .failed) (enterNote (.fault r) s.host.queue)
    else enterNote (.grant 0)
      (enterNote (.stationState .fault .none .failed) (enterNote (.fault r) s.host.queue))) ∧
  u.host.rx = s.host.rx ∧ u.host.gap = s.host.gap ∧ u.host.inProgress = s.host.inProgress ∧
  u.host.waiting = s.host.waiting ∧ u.host.overrun = s.host.overrun ∧
  u.host.framesDiscarded = s.host.framesDiscarded

/-- A valid image has been held in LOADING: the values with which LISTENING is entered for the first time (R1, R20, R47,
R68, R69, R124, R157), where `s` stands at the values of LOADING and `rate` is where the image's line rate went. -/
def ImageHeld (img : List Byte) (lineRate : LineRate) (due : Option LineRate) (s u : State) : Prop :=
  let p := paramsOf img
  u.loader = { s.loader with
    stage := .held, readStep := .idle, heldCopy := some img, networkDigest := some (networkDigestOf img), reason := .none,
    reverify := some (s.now + 4 * Config.sec), lineRate := lineRate, rateDue := due } ∧
  u.life = { s.life with
    state := .listening, phase := .none, listen := some (s.now + 2 * p.cyclePeriod),
    cycle := some (s.now + p.cyclePeriod), tClean := some s.now, tAny := some s.now } ∧
  u.meter = { s.meter with update := some (s.now + 100 * Config.msec) } ∧
  u.planner =
    { claim := { priority := Fin.ofNat 4 p.priority, min := p.min, max := p.max, hostDemand := 0
                 effectiveDemand := 0, serial := 0 }
      digest := crc16 [BitVec.ofNat 8 (Fin.ofNat 64 p.station).val, 1#8, 0#8]
      plan := some
        { rows := [{ station := Fin.ofNat 64 p.station, priority := Fin.ofNat 4 p.priority, min := p.min, demand := 0,
                     share := 0, outcome := .idle }]
          pool := p.feederLimit - p.reserve, remainder := p.feederLimit - p.reserve,
          headroom := p.feederLimit - p.reserve, umax := 0, deficit := 0 } } ∧
  u.grantCtl = { s.grantCtl with settled := true, raiseHold := .running (s.now + p.raiseHold * Config.sec) } ∧
  u.cutOutput = false ∧ u.attention = true ∧
  u.host.queue = enterNote (.stationState .listening .none .held) s.host.queue ∧
  u.bus = s.bus ∧ u.sched = s.sched ∧ u.roster = s.roster ∧ u.enf = s.enf ∧ u.link = s.link ∧
  u.host.inProgress = s.host.inProgress ∧ u.host.waiting = s.host.waiting ∧ u.host.overrun = s.host.overrun ∧
  u.pending = s.pending ∧ u.restartInput = s.restartInput ∧ u.now = s.now

/-- The command in progress, the waiting command and the overrun mark are as they were. -/
def PortKept (s u : State) : Prop :=
  u.host.inProgress = s.host.inProgress ∧ u.host.waiting = s.host.waiting ∧ u.host.overrun = s.host.overrun

/-- What an event of the bus, a timer or the Meter never touches: the queue of commands, the RESTART input, and of the
Host Port all but the notifications. -/
def Apart (s u : State) : Prop :=
  u.pending = s.pending ∧ u.restartInput = s.restartInput ∧ PortKept s u ∧ u.host.rx = s.host.rx ∧
  u.host.gap = s.host.gap ∧ u.host.framesDiscarded = s.host.framesDiscarded

/-- The request list is as it was but for its STATUS slot; the attempt in flight, the spacing timer and the counter
stand. -/
def SlotsKept (s u : State) : Prop :=
  u.sched.shed = s.sched.shed ∧ u.sched.leave = s.sched.leave ∧ u.sched.announce = s.sched.announce ∧
  u.sched.inFlight = s.sched.inFlight ∧ u.sched.spacing = s.sched.spacing ∧
  u.sched.requestsDropped = s.sched.requestsDropped

end Sys2Proof.Claims

section
open Sys2Proof Sys2Proof.Machine Sys2Proof.Safety Sys2Proof.Claims

/-! ### The step and the queue of commands -/

/-- Step on a queue with a command in front is exec of that command on the state with the queue's rest (log 2). On an
empty queue the block idles (the model's choice, log 2). -/
def Obligations.StepTakesTheFrontCommandAndIdlesOnNone : Prop :=
  (∀ (c : Instr) (rest : List Instr) (s : State),
     step { s with pending := c :: rest } = exec c { s with pending := rest }) ∧
  (∀ s : State, s.pending = [] → step s = .next s)

/-! ### Restarts -/

/-- POWER_ON brings every block to its values of a restart, whatever the state; so does a release of the RESTART input
that was asserted, with cause PIN; while it is asserted the read is not begun (R161, R162). The cause kept and the read
not begun while the input is asserted are the model's reading (log 16), and the values of its own pieces of state are its
choice (log 19). -/
def Obligations.RestartsBringEveryBlockToItsInitialValues : Prop :=
  AtRestart .power true State.reset ∧
  (∀ (t : Time) (s : State), ∃ u, exec (.powerOn t) s = .next u ∧ AtRestart .power (!s.restartInput) u ∧
    u.restartInput = s.restartInput ∧ u.now = max s.now t ∧ u.pending = s.pending) ∧
  (∀ (t : Time) (s : State), s.restartInput = false → ∃ u, exec (.restartInputAsserted t) s = .next u ∧
    AtRestart s.loader.cause false u ∧ u.restartInput = true ∧ u.now = max s.now t ∧ u.pending = s.pending) ∧
  (∀ (t : Time) (s : State), s.restartInput = true → ∃ u, exec (.restartInputRelease t) s = .next u ∧
    AtRestart .pin true u ∧ u.restartInput = false ∧ u.now = max s.now t ∧ u.pending = s.pending)

/-- While the RESTART input is asserted every command but a power-on and the release lets only time pass (R161, log 16).
An event that cannot come about lets only time pass: an expiry whose timer does not run, an outcome without an attempt,
a frame where none is taken (the model's choice, log 3), another end than ABORTED at the last bit of an attempt whose
broken frame was taken first (log 42), LOST or ABORTED of one at the end of whose trailer a peer frame was taken first
(log 47). In the states that assemble nothing the line state does not move either (the
model's choice, log 41). -/
def Obligations.TimeAlonePassesWhereNoEventComesAbout : Prop :=
  (∀ (c : Instr) (s : State), s.restartInput = true → (∀ t, c ≠ .powerOn t) → (∀ t, c ≠ .restartInputRelease t) →
     ∃ t, exec c s = .next (s.atTime t)) ∧
  (∀ (t : Time) (s : State), s.restartInput = false →
     (s.life.cycle = none → exec .cycleTimerExpiry s = .next s) ∧
     (s.meter.update = none → ∀ l f, exec (.fastUpdate l f) s = .next s) ∧
     (∀ n, s.entryOf n = none → exec (.forgetTimerExpiry n) s = .next s) ∧
     (s.bus.attempt = none → ∀ a r, exec (.attemptOutcomeTaken t a r) s = .next (s.atTime t)) ∧
     (∀ at', s.bus.attempt = some at' → at'.first = .broken →
       (∀ a r, exec (.attemptOutcomeTaken t a r) s = .next (s.atTime t)) ∧
       (∀ pos, exec (.attemptLost t pos) s = .next (s.atTime t)) ∧
       (∀ pos, pos ≠ at'.frame.lastBit → exec (.attemptAborted t pos) s = .next (s.atTime t))) ∧
     (∀ at', s.bus.attempt = some at' → at'.first = .peer →
       ∀ pos, exec (.attemptLost t pos) s = .next (s.atTime t) ∧ exec (.attemptAborted t pos) s = .next (s.atTime t)) ∧
     (s.life.state.takesFrames = false → (∀ k b f, exec (frameRow k t b f) s = .next (s.atTime t)) ∧
       (∀ bits, exec (.busIdle ⟨t, bits⟩) s = .next (s.atTime t)) ∧ exec (.startBit t) s = .next (s.atTime t)) ∧
     (s.host.inProgress = none → exec (.replySent t) s = .next (s.atTime t)))

/-! ### Loading and re-verification -/

/-- HEADER_READ: FFh twice leads to AWAITING HOST with its notification, 31h and 42 to the read of bytes 2 to 41,
anything else to FAULT with reason FORMAT (R152, R153, R158). -/
def Obligations.HeaderReadLeadsThreeWays : Prop :=
  ∀ (t : Time) (b0 b1 : Byte) (s : State), s.restartInput = false → s.life.state = .loading →
    s.loader.stage = .reading → s.loader.readStep = .header →
    (b0 = 0xFF#8 ∧ b1 = 0xFF#8 → exec (.headerRead t b0 b1) s = .next
      (raiseNote (.stationState .loading .none .awaitingHost)
        { s.atTime t with loader := { s.loader with stage := .awaitingHost, readStep := .idle } })) ∧
    (b0 = 0x31#8 ∧ b1 = 42#8 → exec (.headerRead t b0 b1) s = .next
      { s.atTime t with loader := { s.loader with readStep := .body b0 b1 } }) ∧
    (¬(b0 = 0xFF#8 ∧ b1 = 0xFF#8) → ¬(b0 = 0x31#8 ∧ b1 = 42#8) →
      ∃ u, exec (.headerRead t b0 b1) s = .next u ∧ FaultEntered .format (s.atTime t) u)

/-- A valid image ends the load in LISTENING, from memory and from CONFIG; a reply that is on the line or about to be
holds back the line rate (R153, R157, R175). -/
def Obligations.ValidImageEndsTheLoadInListening : Prop :=
  (∀ (t : Time) (b0 b1 : Byte) (rest : List Byte) (s : State), s.restartInput = false → s.life.state = .loading →
    LoadingLaw s → s.loader.stage = .reading → s.loader.readStep = .body b0 b1 → rest.length = 40 →
    judgeImage (b0 :: b1 :: rest) = .none → s.host.inProgress = none →
      ∃ u, exec (.imageRead t rest) s = .next u ∧
        ImageHeld (b0 :: b1 :: rest) (lineRateOf (paramsOf (b0 :: b1 :: rest)).lineRate) none (s.atTime t) u) ∧
  (∀ (t : Time) (b0 b1 : Byte) (rest : List Byte) (s : State), s.restartInput = false → s.life.state = .loading →
    LoadingLaw s → s.loader.stage = .reading → s.loader.readStep = .body b0 b1 → rest.length = 40 →
    judgeImage (b0 :: b1 :: rest) = .none → s.host.inProgress ≠ none →
      ∃ u, exec (.imageRead t rest) s = .next u ∧
        ImageHeld (b0 :: b1 :: rest) s.loader.lineRate
          (some (lineRateOf (paramsOf (b0 :: b1 :: rest)).lineRate)) (s.atTime t) u) ∧
  (∀ (t : Time) (img : List Byte) (s : State), PortFree s → s.life.state = .loading → LoadingLaw s →
    s.loader.stage = .awaitingHost → img.length = 42 → judgeImage img = .none →
      ∃ u, exec (.config t img) s = .next (answered ⟨0x0B#8, img⟩ .ok [1#8, 0#8] u) ∧
        ImageHeld img s.loader.lineRate (some (lineRateOf (paramsOf img).lineRate))
          { s.atTime t with host := { s.host with rx := .hunting, gap := none } } u)

/-- An invalid image leads to FAULT with the reason of its judgement, from memory and from CONFIG, whose reply is OK and
carries FAULT and the reason (R153, R158). -/
def Obligations.InvalidImageLeadsToFault : Prop :=
  (∀ (t : Time) (b0 b1 : Byte) (rest : List Byte) (s : State), s.restartInput = false → s.life.state = .loading →
    s.loader.stage = .reading → s.loader.readStep = .body b0 b1 → rest.length = 40 →
    judgeImage (b0 :: b1 :: rest) ≠ .none →
      ∃ u, exec (.imageRead t rest) s = .next u ∧ FaultEntered (judgeImage (b0 :: b1 :: rest)) (s.atTime t) u) ∧
  (∀ (t : Time) (img : List Byte) (s : State), PortFree s → s.life.state = .loading →
    s.loader.stage = .awaitingHost → img.length = 42 → judgeImage img ≠ .none →
      ∃ u, exec (.config t img) s =
          .next (answered ⟨0x0B#8, img⟩ .ok [8#8, BitVec.ofNat 8 (judgeImage img).code] u) ∧
        FaultEntered (judgeImage img) { s.atTime t with host := { s.host with rx := .hunting, gap := none } } u)

/-- The judgement of an image in its three steps; the first that fails sets the reason (R155, with the checks of R156
over the parameters in use). Each parameter is its field of T 10-1, or its default of T 10-2 where its mask bit is set,
and the ranges of T 10-2 hold of the fields that are in use (R150, R156). The network digest is taken over the network
values in use: over bytes 27 to 39 as they stand where no bit of their defaults is set, and alike for two images whose
network values in use are alike (R159). -/
def Obligations.ImageIsJudgedAndItsNetworkDigested : Prop :=
  (∀ img : List Byte,
     (judgeImage img = .format ↔ ¬((img.getD 0 0).toNat = 0x31 ∧ (img.getD 1 0).toNat = 42)) ∧
     (judgeImage img = .check ↔ ((img.getD 0 0).toNat = 0x31 ∧ (img.getD 1 0).toNat = 42) ∧
       (crc16 (img.take 40)).toNat ≠ 256 * (img.getD 40 0).toNat + (img.getD 41 0).toNat) ∧
     (judgeImage img = .none ↔ ((img.getD 0 0).toNat = 0x31 ∧ (img.getD 1 0).toNat = 42) ∧
       (crc16 (img.take 40)).toNat = 256 * (img.getD 40 0).toNat + (img.getD 41 0).toNat ∧
       (paramsOf img).inRange = true ∧ (paramsOf img).min ≤ (paramsOf img).max ∧
       (paramsOf img).reserve ≤ (paramsOf img).feederLimit ∧ (paramsOf img).fallback ≤ (paramsOf img).feederLimit ∧
       (paramsOf img).threshold ≤ (paramsOf img).window ∧
       ((paramsOf img).silenceLimit + 3) * (paramsOf img).cyclePeriod ≤ (paramsOf img).forgetPeriod) ∧
     judgeImage img ≠ .heldCopy) ∧
  (∀ img : List Byte,
     let b (i : Nat) : Nat := (img.getD i 0).toNat
     let w (i : Nat) : Nat := 256 * b i + b (i + 1)
     let masked (bit : Nat) : Bool := (w 2).testBit bit
     paramsOf img =
       { station := b 4, priority := if masked 0 then 1 else b 5, min := w 6, max := w 8, options := b 10
         trimMargin := if masked 1 then 20 else w 11, trimTime := if masked 2 then 60 else w 13
         tolerance := if masked 3 then 10 else w 15, overdrawTime := if masked 4 then 10 else b 17
         recoveryHold := if masked 5 then 60 else w 18, loadScale := w 20, feederScale := w 22
         window := if masked 6 then 64 else b 24, threshold := if masked 7 then 8 else b 25
         lineRate := if masked 8 then 1 else b 26, feederLimit := w 27
         reserve := if masked 9 then 0 else w 29, fallback := if masked 10 then 60 else w 31
         cycleUnits := if masked 11 then 10 else b 33, silenceLimit := if masked 12 then 4 else b 34
         forgetTime := if masked 13 then 120 else w 35, raiseHold := if masked 14 then 5 else b 37
         shedHold := if masked 15 then 30 else b 38, bitRate := b 39 } ∧
     ((paramsOf img).inRange = true ↔
       b 4 ≤ 63 ∧ (masked 0 = false → b 5 ≤ 3) ∧ w 6 ≤ w 8 ∧ (1 ≤ w 8 ∧ w 8 ≤ 10000) ∧ b 10 ≤ 3 ∧
       (masked 1 = false → 5 ≤ w 11 ∧ w 11 ≤ 200) ∧ (masked 2 = false → 30 ≤ w 13 ∧ w 13 ≤ 600) ∧
       (masked 3 = false → w 15 ≤ 100) ∧ (masked 4 = false → 1 ≤ b 17 ∧ b 17 ≤ 60) ∧
       (masked 5 = false → 5 ≤ w 18 ∧ w 18 ≤ 300) ∧ 10 ≤ w 20 ∧ ((b 10).testBit 0 = true → 10 ≤ w 22) ∧
       (masked 6 = false → 16 ≤ b 24) ∧ (masked 8 = false → b 26 ≤ 3) ∧ (10 ≤ w 27 ∧ w 27 ≤ 20000) ∧
       (masked 11 = false → 2 ≤ b 33 ∧ b 33 ≤ 50) ∧ (masked 12 = false → 3 ≤ b 34 ∧ b 34 ≤ 15) ∧
       (masked 13 = false → 10 ≤ w 35 ∧ w 35 ≤ 600) ∧ (masked 14 = false → 1 ≤ b 37 ∧ b 37 ≤ 60) ∧
       (masked 15 = false → 1 ≤ b 38 ∧ b 38 ≤ 120) ∧ b 39 ≤ 2)) ∧
  ((∀ img : List Byte, img.length = 42 →
     (∀ i, 9 ≤ i → i ≤ 15 → (256 * (img.getD 2 0).toNat + (img.getD 3 0).toNat).testBit i = false) →
       networkDigestOf img = crc16 ((img.drop 27).take 13)) ∧
   (∀ a b : List Byte,
     (paramsOf a).feederLimit = (paramsOf b).feederLimit → (paramsOf a).reserve = (paramsOf b).reserve →
     (paramsOf a).fallback = (paramsOf b).fallback → (paramsOf a).cycleUnits = (paramsOf b).cycleUnits →
     (paramsOf a).silenceLimit = (paramsOf b).silenceLimit → (paramsOf a).forgetTime = (paramsOf b).forgetTime →
     (paramsOf a).raiseHold = (paramsOf b).raiseHold → (paramsOf a).shedHold = (paramsOf b).shedHold →
     (paramsOf a).bitRate = (paramsOf b).bitRate → networkDigestOf a = networkDigestOf b))

/-- REVERIFY_TIMER_EXPIRY: a copy that agrees with its check word has the timer run 4 s on and changes nothing else; one
that does not leads to FAULT with reason HELD COPY (R160, R83). A fault of the storage changes one byte of the copy and
nothing else; until the next check the parameters and our station number are those of the changed copy, whatever timer
runs on (R160). That this fault is a form of the row is the model's choice (log 14). -/
def Obligations.ReverificationKeepsOrFails : Prop :=
  ∀ (img : List Byte) (s : State), s.restartInput = false → s.loader.heldCopy = some img →
    (∀ d, s.life.state ≠ .fault → s.loader.reverify = some d →
      (checkWordOk img = true → exec (.reverifyTimerExpiry .check) s = .next
        { s.atTime d with loader := { s.loader with reverify := some (d + 4 * Config.sec) } }) ∧
      (checkWordOk img = false → ∃ u, exec (.reverifyTimerExpiry .check) s = .next u ∧
        FaultEntered .heldCopy (s.atTime d) u)) ∧
    (∀ (t : Time) (i : Fin 42) (b : Byte), ∃ u, exec (.reverifyTimerExpiry (.storageFault t i b)) s = .next u ∧
      u = { s.atTime t with loader := { s.loader with heldCopy := some (img.set i.val b) } } ∧
      u.params = paramsOf (img.set i.val b) ∧ u.ownStation = Fin.ofNat 64 (paramsOf (img.set i.val b)).station)

/-! ### The host line -/

/-- HOST_BYTE_RECEIVED: while hunting, C3h begins a frame and any other byte is passed over; a bad length discards; a
further byte is collected and the gap timer runs on from it; a check byte that leaves the sum other than zero discards
(R164). A gap, a byte without a stop bit and a frame with a bad length or sum each discard the frame being received and
count it; while hunting, a byte without a stop bit changes nothing (R164). That a byte past the gap is judged by the
frame still open, since the gap's own expiry is a command that comes before it, is the model's choice (log 29). -/
def Obligations.HostBytesAreAssembledOrDiscarded : Prop :=
  (∀ (t : Time) (b : Byte) (s : State), s.restartInput = false →
     (s.host.rx = .hunting → b ≠ 0xC3#8 → exec (.hostByteReceived t b) s = .next (s.atTime t)) ∧
     (s.host.rx = .hunting → b = 0xC3#8 → exec (.hostByteReceived t b) s = .next
       { s.atTime t with host := { s.host with rx := .collecting [], gap := some (max s.now t + 20 * Config.msec) } }) ∧
     (s.host.rx = .collecting [] → (b.toNat = 0 ∨ 64 < b.toNat) → exec (.hostByteReceived t b) s = .next
       { s.atTime t with host := { s.host with
           rx := .hunting, gap := none, framesDiscarded := bump s.host.framesDiscarded } }) ∧
     (s.host.rx = .collecting [] → 1 ≤ b.toNat → b.toNat ≤ 64 → exec (.hostByteReceived t b) s = .next
       { s.atTime t with host := { s.host with
           rx := .collecting [b], gap := some (max s.now t + 20 * Config.msec) } }) ∧
     (∀ len rest, s.host.rx = .collecting (len :: rest) → rest.length < len.toNat →
       exec (.hostByteReceived t b) s = .next { s.atTime t with host := { s.host with
           rx := .collecting (len :: rest ++ [b]), gap := some (max s.now t + 20 * Config.msec) } }) ∧
     (∀ len rest, s.host.rx = .collecting (len :: rest) → rest.length = len.toNat →
       sumOk (len :: rest ++ [b]) = false → exec (.hostByteReceived t b) s = .next { s.atTime t with host := { s.host with
           rx := .hunting, gap := none, framesDiscarded := bump s.host.framesDiscarded } })) ∧
  ((∀ (t : Time) (bytes : List Byte) (s : State), s.restartInput = false → hostFrameBad bytes = true →
     exec (.hostFrameDiscarded t bytes) s = .next { s.atTime t with host := { s.host with
       rx := .hunting, gap := none, framesDiscarded := bump s.host.framesDiscarded } }) ∧
   (∀ (d : Time) (bytes : List Byte) (s : State), s.restartInput = false → s.host.rx = .collecting bytes →
     s.host.gap = some d → exec .gapTimerExpiry s = .next { s.atTime d with host := { s.host with
       rx := .hunting, gap := none, framesDiscarded := bump s.host.framesDiscarded } }) ∧
   (∀ (t : Time) (bytes : List Byte) (s : State), s.restartInput = false → s.host.rx = .collecting bytes →
     exec (.byteWithoutStopBit t) s = .next { s.atTime t with host := { s.host with
       rx := .hunting, gap := none, framesDiscarded := bump s.host.framesDiscarded } }) ∧
   (∀ (t : Time) (s : State), s.restartInput = false → s.host.rx = .hunting →
     exec (.byteWithoutStopBit t) s = .next (s.atTime t)))

/-- The bytes C3h, length, code, payload, check of any command, taken one after another while hunting, do what the
arrival of the whole command does (R164, R165; a command row of the table stands for its whole frame, log 17). -/
def Obligations.BytesOfAFrameAreTheCommand : Prop :=
  ∀ (c : Cmd) (t : Time) (payload : List Byte) (s : State), s.restartInput = false → s.host.rx = .hunting →
    payload.length < 64 →
    let body := BitVec.ofNat 8 (payload.length + 1) :: c.code :: payload
    exec (row c t payload) s =
      .next ((0xC3#8 :: (body ++ [checkByte body])).foldl (fun u b => takeHostByte b u) (s.atTime t))

/-- With a command in progress a further command waits, and a third is dropped, counted, and sets the overrun mark
(R165). -/
def Obligations.CommandBufferHoldsTwo : Prop :=
  ∀ (c : Cmd) (t : Time) (p : List Byte) (s : State), s.restartInput = false → p.length < 64 →
    s.host.inProgress ≠ none →
    (s.host.waiting = none → exec (row c t p) s = .next { s.atTime t with host := { s.host with
      rx := .hunting, gap := none, waiting := some { code := c.code, payload := p } } }) ∧
    (s.host.waiting ≠ none → exec (row c t p) s = .next { s.atTime t with host := { s.host with
      rx := .hunting, gap := none, overrun := true, framesDiscarded := bump s.host.framesDiscarded } })

/-- REPLY_SENT: a host RESTART is taken, with the command that waited lost; else the rate that waited takes effect (and
discards a frame being received), and the command that waited is taken as if it arrived then, a frame that is being
received going on where no rate changed (R157, R161, R164, R165). That the rate comes before that command is the model's
choice (log 39), and a rate that is the one in use is no change (log 28). RESTART where it is taken is answered OK and
marked to restart after its reply; until then nothing else changes (R175). -/
def Obligations.RestartAndReplySentEndACommand : Prop :=
  (∀ (t : Time) (p : InProgress) (s : State), s.restartInput = false → s.host.inProgress = some p →
     (p.restarts = true → ∃ u, exec (.replySent t) s = .next u ∧ AtRestart .host true u ∧ u.restartInput = false ∧
       u.now = max s.now t ∧ u.pending = s.pending) ∧
     (p.restarts = false → s.loader.rateDue = none → s.host.waiting = none →
       exec (.replySent t) s = .next { s.atTime t with host := { s.host with inProgress := none } }) ∧
     (∀ r bytes, p.restarts = false → s.loader.rateDue = some r → s.host.waiting = none → r ≠ s.loader.lineRate →
       s.host.rx = .collecting bytes → exec (.replySent t) s = .next { s.atTime t with
         loader := { s.loader with lineRate := r, rateDue := none }
         host := { s.host with
           inProgress := none, rx := .hunting, gap := none, framesDiscarded := bump s.host.framesDiscarded } }) ∧
     (∀ r, p.restarts = false → s.loader.rateDue = some r → s.host.waiting = none →
       (r = s.loader.lineRate ∨ s.host.rx = .hunting) → exec (.replySent t) s = .next { s.atTime t with
         loader := { s.loader with lineRate := r, rateDue := none }
         host := { s.host with inProgress := none } }) ∧
     (∀ c w, p.restarts = false → s.loader.rateDue = none → s.host.waiting = some { code := Cmd.code c, payload := w } →
       w.length < 64 → s.host.rx = .hunting → s.host.gap = none → exec (.replySent t) s =
         exec (row c t w) { s with host := { s.host with inProgress := none, waiting := none } }) ∧
     (∀ r c w bytes, p.restarts = false → s.loader.rateDue = some r →
       s.host.waiting = some { code := Cmd.code c, payload := w } → w.length < 64 → r ≠ s.loader.lineRate →
       s.host.rx = .collecting bytes → exec (.replySent t) s = exec (row c t w) { s with
         loader := { s.loader with lineRate := r, rateDue := none }
         host := { s.host with inProgress := none, waiting := none, rx := .hunting, gap := none
                               framesDiscarded := bump s.host.framesDiscarded } }) ∧
     (∀ r c w, p.restarts = false → s.loader.rateDue = some r →
       s.host.waiting = some { code := Cmd.code c, payload := w } → w.length < 64 → s.host.rx = .hunting →
       s.host.gap = none → exec (.replySent t) s = exec (row c t w) { s with
         loader := { s.loader with lineRate := r, rateDue := none }
         host := { s.host with inProgress := none, waiting := none } }) ∧
     (∀ c w bytes, p.restarts = false → s.loader.rateDue = none ∨ s.loader.rateDue = some s.loader.lineRate →
       s.host.waiting = some { code := Cmd.code c, payload := w } → w.length < 64 → s.host.rx = .collecting bytes →
       ∃ u, exec (row c t w) { s with
           loader := { s.loader with rateDue := none }
           host := { s.host with inProgress := none, waiting := none } } = .next u ∧
         exec (.replySent t) s = .next { u with host := { u.host with rx := s.host.rx, gap := s.host.gap } })) ∧
  (∀ (t : Time) (s : State), PortFree s → s.gate .restart = none →
     exec (.restart t []) s = .next { s.atTime t with host := { s.host with
       rx := .hunting, gap := none, overrun := false
       inProgress := some { command := ⟨0x0A#8, []⟩, reply := replyFrame 0x0A#8 .ok s.host.overrun [],
                            restarts := true } } })

/-! ### Host commands -/

/-- T 11-4 with R86: the status with which the station state or the loader stage refuses each command, none where it is
taken. A command that is refused by state, or whose payload has another size than T 11-2 gives, or whose code is
unknown, is answered with the status of that table, FORMAT or UNKNOWN, and changes nothing but the Host Port's reply
(R166). -/
def Obligations.RefusedCommandsChangeOnlyTheReply : Prop :=
  (∀ s : State,
     (s.life.state = .loading → s.loader.stage = .reading →
       ∀ c, s.gate c = if c = .state then none else some .busy) ∧
     (s.life.state = .loading → s.loader.stage = .awaitingHost →
       ∀ c, s.gate c = if c ∈ [Cmd.state, .note, .restart, .config] then none else some .busy) ∧
     (s.life.state = .fault →
       ∀ c, s.gate c = if c ∈ [Cmd.demand, .clearCut, .leave, .join, .config] then some .state else none) ∧
     (s.life.state = .duplicate →
       ∀ c, s.gate c = if c ∈ [Cmd.demand, .leave, .join, .config] then some .state else none) ∧
     (s.life.state = .leaving → ∀ c, s.gate c = if c ∈ [Cmd.leave, .join, .config] then some .state else none) ∧
     (s.life.state = .dormant → ∀ c, s.gate c = if c ∈ [Cmd.leave, .config] then some .state else none) ∧
     (s.life.state ∈ [StationState.listening, .joining, .active, .isolated] →
       ∀ c, s.gate c = if c ∈ [Cmd.join, .config] then some .state else none)) ∧
  ((∀ (c : Cmd) (st : Status) (t : Time) (p : List Byte) (s : State), PortFree s → p.length < 64 → s.gate c = some st →
     exec (row c t p) s = .next (answered ⟨c.code, p⟩ st [] (s.atTime t))) ∧
   (∀ (c : Cmd) (t : Time) (p : List Byte) (s : State), PortFree s → p.length < 64 → s.gate c = none →
     p.length ≠ c.payloadSize → exec (row c t p) s = .next (answered ⟨c.code, p⟩ .format [] (s.atTime t))) ∧
   (∀ (code : Byte) (t : Time) (p : List Byte) (s : State), PortFree s → p.length < 64 →
     code.toNat = 0 ∨ 11 < code.toNat →
     exec (.unknownCommand t code p) s = .next (answered ⟨code, p⟩ .unknown [] (s.atTime t))))

/-- STATE is answered in every state with the 15 bytes of T 11-5, and changes nothing but the reply (R168). COUNTS gives
the twelve counters in the order of T 11-8, and clears none: nothing but the reply changes (R172). -/
def Obligations.StateAndCountsRepliesShowTheBlocks : Prop :=
  (∀ (t : Time) (s : State), PortFree s →
     exec (.state t []) s = .next (answered ⟨0x01#8, []⟩ .ok
       ([BitVec.ofNat 8 s.life.state.code, BitVec.ofNat 8 s.loader.stage.code, BitVec.ofNat 8 s.life.phase.code,
         BitVec.ofNat 8 s.enf.state.code,
         (if s.grantCtl.settled then 1#8 else 0#8) + (if s.link.degraded then 2#8 else 0#8) +
         (if s.roster.overflow then 4#8 else 0#8) + (if s.grantCtl.shedHold.isSome then 8#8 else 0#8) +
         (if s.parked then 16#8 else 0#8) + (if s.meter.trim.isSome then 32#8 else 0#8) +
         (if s.cutOutput then 64#8 else 0#8)] ++
       bytesOf s.grantCtl.grant ++ bytesOf s.ownShare ++ bytesOf s.planner.claim.effectiveDemand ++
       bytesOf s.planner.claim.hostDemand ++
       [BitVec.ofNat 8 s.loader.cause.code, BitVec.ofNat 8 s.loader.reason.code]) (s.atTime t))) ∧
  (∀ (t : Time) (s : State), PortFree s → s.gate .counts = none →
     exec (.counts t []) s = .next (answered ⟨0x05#8, []⟩ .ok
       ([s.bus.framesSent, s.bus.lost, s.bus.aborted, s.bus.partly, s.bus.unheard, s.bus.validReceived,
         s.bus.damagedReceived, s.roster.admissionsRefused, s.sched.requestsDropped, s.roster.shedIgnored,
         s.host.framesDiscarded, s.host.notesLost].flatMap bytesOf) (s.atTime t)))

/-- PEER: RANGE above 63, ABSENT without an entry, else the 23 bytes of T 11-6, the claim fields of a HEARSAY entry
marked absent together and read as 0; nothing but the reply changes (R170). PLAN: RANGE above 24, ABSENT at or above the
number of rows, else the 16 bytes of T 11-7; nothing but the reply changes (R171). -/
def Obligations.PeerAndPlanRepliesReadRosterAndPlan : Prop :=
  (∀ (t : Time) (n : Byte) (s : State), PortFree s → s.gate .peer = none →
     (63 < n.toNat → exec (.peer t [n]) s = .next (answered ⟨0x03#8, [n]⟩ .range [] (s.atTime t))) ∧
     (∀ m : Station, n.toNat = m.val → s.entryOf m = none →
       exec (.peer t [n]) s = .next (answered ⟨0x03#8, [n]⟩ .absent [] (s.atTime t))) ∧
     (∀ (m : Station) (e : Entry) (r : Report), n.toNat = m.val → s.entryOf m = some e → e.origin = .heard r →
       exec (.peer t [n]) s = .next (answered ⟨0x03#8, [n]⟩ .ok
         ([n, (match e.cls with | .live => 1#8 | .quiet => 2#8 | .mismatch => 3#8), 0#8,
           1#8 + (if e.draw.isSome then 2#8 else 0#8) + (if e.estimate.isSome then 4#8 else 0#8) +
             (if e.digest.isSome then 8#8 else 0#8), BitVec.ofNat 8 r.priority.val] ++
         bytesOf r.min ++ bytesOf r.max ++ bytesOf r.demand ++ [r.serial] ++ bytesOf r.grant ++
         [(match r.state with | .joining => 1#8 | .active => 2#8 | .isolated => 3#8),
           (if e.flags.parked then 1#8 else 0#8) + (if e.flags.cut then 2#8 else 0#8) +
             (if e.flags.degraded then 4#8 else 0#8)] ++
         bytesOf (e.draw.getD 0) ++ bytesOf (e.estimate.getD 0) ++ bytes16 (e.digest.getD 0) ++
         [BitVec.ofNat 8 ((if e.confirmed then 1 else 0) + 2 * e.silence)]) (s.atTime t))) ∧
     (∀ (m : Station) (e : Entry), n.toNat = m.val → s.entryOf m = some e → e.origin = .hearsay →
       exec (.peer t [n]) s = .next (answered ⟨0x03#8, [n]⟩ .ok
         ([n, (match e.cls with | .live => 1#8 | .quiet => 2#8 | .mismatch => 3#8), 1#8,
           (if e.draw.isSome then 2#8 else 0#8) + (if e.estimate.isSome then 4#8 else 0#8) +
             (if e.digest.isSome then 8#8 else 0#8)] ++ List.replicate 11 0#8 ++
         [(if e.flags.parked then 1#8 else 0#8) + (if e.flags.cut then 2#8 else 0#8) +
             (if e.flags.degraded then 4#8 else 0#8)] ++
         bytesOf (e.draw.getD 0) ++ bytesOf (e.estimate.getD 0) ++ bytes16 (e.digest.getD 0) ++
         [BitVec.ofNat 8 ((if e.confirmed then 1 else 0) + 2 * e.silence)]) (s.atTime t)))) ∧
  (∀ (t : Time) (k : Byte) (s : State), PortFree s → s.gate .plan = none →
     (24 < k.toNat → exec (.plan t [k]) s = .next (answered ⟨0x04#8, [k]⟩ .range [] (s.atTime t))) ∧
     (k.toNat ≤ 24 → s.planner.plan = none →
       exec (.plan t [k]) s = .next (answered ⟨0x04#8, [k]⟩ .absent [] (s.atTime t))) ∧
     (∀ p, k.toNat ≤ 24 → s.planner.plan = some p → p.rows.length ≤ k.toNat →
       exec (.plan t [k]) s = .next (answered ⟨0x04#8, [k]⟩ .absent [] (s.atTime t))) ∧
     (∀ p r, k.toNat ≤ 24 → s.planner.plan = some p → p.rows[k.toNat]? = some r →
       exec (.plan t [k]) s = .next (answered ⟨0x04#8, [k]⟩ .ok
         ([k, BitVec.ofNat 8 p.rows.length, BitVec.ofNat 8 r.station.val] ++ bytesOf r.share ++
         [(match r.outcome with | .idle => 0#8 | .parked => 1#8 | .partly => 2#8 | .full => 3#8)] ++
         bytesOf p.pool ++ bytesOf p.remainder ++ bytesOf p.headroom ++ bytesOf p.umax ++ bytesOf p.deficit)
         (s.atTime t))))

/-- NOTE takes the oldest notification out of the queue, replies with its kind code, the lost flag and its content by T
11-9, clears the lost flag, and releases ATTENTION when it was the last; a notification of that kind raised later stands
at the tail. On an empty queue NOTE is answered ABSENT, nothing changes, and the lost flag is clear (R173, R178). -/
def Obligations.NoteTakesTheOldestNotification : Prop :=

  ∀ (t : Time) (s : State), PortFree s → s.gate .note = none →
    (s.host.queue = [] → exec (.note t []) s = .next (answered ⟨0x06#8, []⟩ .absent [] (s.atTime t))) ∧
    (QueueLaw s → s.host.queue = [] → s.host.lostFlag = false) ∧
    (∀ n rest, s.host.queue = n :: rest →
      let u : State :=
        { s.atTime t with attention := !rest.isEmpty, host := { s.host with queue := rest, lostFlag := false } }
      let lost : Byte := if s.host.lostFlag then 1#8 else 0#8
      let payload : List Byte := match n with
        | .grant v => [1#8, lost] ++ bytesOf v
        | .stationState st ph stage =>
          [2#8, lost, BitVec.ofNat 8 st.code, BitVec.ofNat 8 ph.code, BitVec.ofNat 8 stage.code]
        | .cut e asserted => [3#8, lost, BitVec.ofNat 8 e.code, if asserted then 1#8 else 0#8]
        | .link degraded => [4#8, lost, if degraded then 1#8 else 0#8]
        | .shed d active => [5#8, lost] ++ bytesOf d ++ [if active then 1#8 else 0#8]
        | .overflow set => [6#8, lost, if set then 1#8 else 0#8]
        | .duplicate => [7#8, lost]
        | .fault reason => [8#8, lost, BitVec.ofNat 8 reason.code]
        | .sense load feeder => [9#8, lost, (if load then 1#8 else 0#8) + (if feeder then 2#8 else 0#8)]
        | .roster entries => [10#8, lost, BitVec.ofNat 8 entries]
      exec (.note t []) s = .next (answered ⟨0x06#8, []⟩ .ok payload u) ∧
      (QueueLaw s → ∀ m, m.kindCode = n.kindCode → (raiseNote m u).host.queue = rest ++ [m]))

/-- DEMAND: RANGE for a value that is neither 0 nor within min..max of the held configuration; the standing host demand
again changes nothing; a new one becomes the host demand, ends any trim, and forms the effective demand (R1, R3, R169).
Where that value changes, the serial moves, the digest and the plan are those of the new inputs, every confirmation is
cleared, the raise hold restarts, a STATUS is requested where the state takes one, and the grant falls to our share in
ACTIVE and JOINING and to the demand in HOLD, and in FALLBACK becomes the smaller of F and the demand (R4, R54, R75,
R77). -/
def Obligations.DemandSetsTheClaim : Prop :=
  ∀ (t : Time) (v1 v0 : Byte) (s : State), PortFree s → DemandTaken s →
    let c := s.planner.claim
    let v := (word16 v1 v0).toNat
    let e := if s.enf.state = .cut ∨ s.enf.state = .cooling then 0 else v
    (v ≠ 0 → (v < s.params.min ∨ s.params.max < v) →
      exec (.demand t [v1, v0]) s = .next (answered ⟨0x02#8, [v1, v0]⟩ .range [] (s.atTime t))) ∧
    ((v = 0 ∨ (s.params.min ≤ v ∧ v ≤ s.params.max)) → v = c.hostDemand →
      exec (.demand t [v1, v0]) s = .next (answered ⟨0x02#8, [v1, v0]⟩ .ok [] (s.atTime t))) ∧
    ((v = 0 ∨ (s.params.min ≤ v ∧ v ≤ s.params.max)) → v ≠ c.hostDemand → e = c.effectiveDemand →
      exec (.demand t [v1, v0]) s = .next (answered ⟨0x02#8, [v1, v0]⟩ .ok []
        { s.atTime t with planner := { s.planner with claim := { c with hostDemand := v } }
                          meter := { s.meter with trim := none, watch := none } })) ∧
    ((v = 0 ∨ (s.params.min ≤ v ∧ v ≤ s.params.max)) → v ≠ c.hostDemand → e ≠ c.effectiveDemand → SettledLaw s →
      ∃ u, exec (.demand t [v1, v0]) s = .next (answered ⟨0x02#8, [v1, v0]⟩ .ok [] u) ∧
        u.planner = { claim := { c with hostDemand := v, effectiveDemand := e, serial := c.serial + 1 },
                      digest := u.digestNow, plan := some u.planNow } ∧
        u.meter = { s.meter with trim := none, watch := none } ∧
        u.roster = { s.roster with entries := s.roster.entries.map (fun x => { x with confirmed := false }) } ∧
        u.grantCtl.raiseHold = .running (max s.now t + s.params.raiseHold * Config.sec) ∧
        u.grantCtl.settled = u.settledCondition ∧ u.grantCtl.deficit = s.grantCtl.deficit ∧
        u.grantCtl.shedHold = s.grantCtl.shedHold ∧
        (s.life.state.participates = true → u.sched.status ≠ none) ∧
        u.grantCtl.grant =
          (if s.life.state = .active ∨ s.life.state = .joining then min s.grantCtl.grant u.ownShare
           else if s.life.state = .isolated ∧ s.life.phase = .hold then min s.grantCtl.grant e
           else if s.life.state = .isolated ∧ s.life.phase = .fallback then min s.params.fallback e
           else s.grantCtl.grant) ∧
        u.life = s.life ∧ u.bus = s.bus ∧ u.link = s.link ∧ u.enf = s.enf ∧ u.loader = s.loader ∧
        u.cutOutput = s.cutOutput ∧ u.pending = s.pending ∧ u.restartInput = s.restartInput ∧ u.now = max s.now t ∧
        PortKept s u ∧ u.host.framesDiscarded = s.host.framesDiscarded ∧
        u.sched.shed = s.sched.shed ∧ u.sched.leave = s.sched.leave ∧ u.sched.announce = s.sched.announce ∧
        u.sched.inFlight = s.sched.inFlight ∧ u.sched.spacing = s.sched.spacing ∧
        u.sched.isolationCount = s.sched.isolationCount)

/-- CLEAR CUT in CUT enters COOLING with the recovery timer in full, the output still asserted, and raises CUT; in the
other enforcement states it is answered STATE and changes nothing but the reply (R145, R148); that the timer runs where
the load figure is absent, until an update hands that over, is the model's choice (log 38). RECOVERY_TIMER_EXPIRY in
COOLING: CLEAR with the timer stopped, the output driven from the station state alone, and the effective demand formed
again: the trimmed value, of which the entry into CUT left none, else the host demand; CUT is raised (R146). -/
def Obligations.ClearCutCoolsAndRecoveryClears : Prop :=
  (∀ (t : Time) (s : State), PortFree s → s.gate .clearCut = none →
     (s.enf.state = .cut → exec (.clearCut t []) s = .next (answered ⟨0x07#8, []⟩ .ok []
       (raiseNote (.cut .cooling true) { s.atTime t with
         cutOutput := true
         enf := { s.enf with
           state := .cooling, recovery := .running (max s.now t + s.params.recoveryHold * Config.sec) } }))) ∧
     (s.enf.state ≠ .cut →
       exec (.clearCut t []) s = .next (answered ⟨0x07#8, []⟩ .state [] (s.atTime t)))) ∧
  (∀ (d : Time) (s : State), s.restartInput = false → s.enf.recovery = .running d → s.enf.state = .cooling →
     s.meter.trim = none → s.life.state.plans = true →
     ∃ u, exec .recoveryTimerExpiry s = .next u ∧
       u.enf = { s.enf with state := .clear, recovery := .stopped } ∧ u.cutOutput = false ∧ u.attention = true ∧
       Notification.cut .clear false ∈ u.host.queue ∧
       u.planner.claim.effectiveDemand = s.planner.claim.hostDemand ∧
       (s.planner.claim.hostDemand ≠ s.planner.claim.effectiveDemand →
         u.planner.claim.serial = s.planner.claim.serial + 1 ∧ u.planner.digest = u.digestNow ∧
         u.planner.plan = some u.planNow ∧
         (s.life.state = .active → u.grantCtl.grant = min s.grantCtl.grant u.ownShare) ∧
         (s.life.state = .isolated → s.life.phase = .fallback →
           u.grantCtl.grant = min s.params.fallback s.planner.claim.hostDemand)) ∧
       (s.planner.claim.hostDemand = s.planner.claim.effectiveDemand → u.planner = s.planner ∧ u.grantCtl = s.grantCtl) ∧
       u.meter = s.meter ∧ u.bus = s.bus ∧ u.link = s.link ∧ u.loader = s.loader ∧ Apart s u ∧ SlotsKept s u ∧
       u.now = max s.now d)

/-- LEAVE in LISTENING, JOINING, ACTIVE and ISOLATED: LEAVING with the phase NONE and no listen or deadline, a grant of
0, unsent ANNOUNCE and STATUS cancelled and the LEAVE requested, SHED and the attempt in flight kept; STATION STATE,
then GRANT where it changed (R79, R114). That an attempt of a SHED is kept is the model's reading (log 11). JOIN in
DORMANT: LISTENING afresh, the listen timer two cycle periods, both marks at the moment of entry, the isolation count 0,
the line not idle, both counts of the Link Monitor 0; everything else as it was (R69, R81, R87, R122; log 9). -/
def Obligations.LeaveEntersLeavingAndJoinListening : Prop :=
  (∀ (t : Time) (s : State), PortFree s →
     s.life.state ∈ [StationState.listening, .joining, .active, .isolated] →
       ∃ u, exec (.leave t []) s = .next (answered ⟨0x08#8, []⟩ .ok [] u) ∧
         u.life = { s.life with state := .leaving, phase := .none, listen := none, fallbackAt := none, spentAt := none } ∧
         u.grantCtl = { s.grantCtl with grant := 0 } ∧
         u.sched = { s.sched with announce := none, status := none, leave := some (s.sched.leave.getD ⟨0, 0⟩) } ∧
         u.cutOutput = s.cutFlag ∧ u.attention = true ∧
         u.host.queue = (if s.grantCtl.grant = 0 then
             enterNote (.stationState .leaving .none s.loader.stage) s.host.queue
           else enterNote (.grant 0) (enterNote (.stationState .leaving .none s.loader.stage) s.host.queue)) ∧
         u.bus = s.bus ∧ u.roster = s.roster ∧ u.planner = s.planner ∧ u.meter = s.meter ∧ u.enf = s.enf ∧
         u.link = s.link ∧ u.loader = s.loader ∧ u.pending = s.pending ∧ u.restartInput = s.restartInput ∧
         PortKept s u ∧ u.host.framesDiscarded = s.host.framesDiscarded ∧
         u.now = max s.now t) ∧
  (∀ (t : Time) (s : State), PortFree s → s.life.state = .dormant → s.grantCtl.grant = 0 →
     exec (.join t []) s = .next (answered ⟨0x09#8, []⟩ .ok []
       (raiseNote (.stationState .listening .none s.loader.stage) { s.atTime t with
         cutOutput := s.cutFlag
         bus := { s.bus with recessive := 0, idle := false, endLeft := 0, assembly := .empty }
         life := { s.life with
           state := .listening, phase := .none, listen := some (max s.now t + 2 * s.params.cyclePeriod)
           tClean := some (max s.now t), tAny := some (max s.now t) }
         sched := { s.sched with isolationCount := 0 }
         link := { s.link with events := 0, damaged := 0 } })))

/-! ### The bus line and own attempts -/

/-- BUS_IDLE: with no assembly in progress and no attempt of ours, the bus becomes idle at the bit at which the count of
recessive bits has reached 10, but within a complete frame not before the last bit of its end field; every dominant bit
restarts the count, in the end field too; where we drive ACCEPT the bus becomes idle one bit after the end field, where we
drive REFUSE two bits after it, the other stations driving nothing. Bits that do not bring it so far are no such event. That
the command brings the bits, up to the one at which the bus becomes idle, is the model's choice (log 5). START_BIT on the
idle bus: the dominant bit that begins an assembly, to which no answer is fixed yet. All else stays (R88, R92, R95, R98,
R100; log 33). -/
def Obligations.LineBecomesIdleAndAssembliesBegin : Prop :=
  ∀ (t : Time) (s : State), s.restartInput = false → s.life.state.takesFrames = true → s.bus.attempt = none →
    (s.bus.assembly.isGood = false → s.bus.idle = false →
      let after (count : Nat) : State := { s.atTime t with
        bus := { s.bus with recessive := count, idle := true, endLeft := 0, assembly := .empty } }
      let least := max (max 1 s.bus.endLeft) (10 - s.bus.recessive)
      (s.bus.trailer = .neither ∨ s.bus.endLeft ≤ 8 →
        exec (.busIdle ⟨t, List.replicate least true⟩) s = .next (after (s.bus.recessive + least)) ∧
        (∀ n, n < least → exec (.busIdle ⟨t, List.replicate n true⟩) s = .next (s.atTime t)) ∧
        (∀ front : List Bool, front.length < s.bus.endLeft →
          let n := max 10 (s.bus.endLeft - (front.length + 1))
          exec (.busIdle ⟨t, front ++ false :: List.replicate n true⟩) s = .next (after n))) ∧
      (∀ k, s.bus.endLeft = 0 → s.bus.recessive + k < 10 →
        exec (.busIdle ⟨t, List.replicate k true ++ false :: List.replicate 10 true⟩) s = .next (after 10)) ∧
      (s.bus.endLeft = 10 → s.bus.trailer = .accept →
        exec (.busIdle ⟨t, List.replicate 11 true⟩) s = .next (after 10) ∧
        (∀ n, n < 11 → exec (.busIdle ⟨t, List.replicate n true⟩) s = .next (s.atTime t))) ∧
      (s.bus.endLeft = 10 → s.bus.trailer = .refuse →
        exec (.busIdle ⟨t, List.replicate 12 true⟩) s = .next (after 10) ∧
        (∀ n, n < 12 → exec (.busIdle ⟨t, List.replicate n true⟩) s = .next (s.atTime t)))) ∧
    (s.bus.idle = true → exec (.startBit t) s = .next
      { s.atTime t with bus := { s.bus with
          recessive := 0, idle := false, endLeft := 0, assembly := .good .peer [] 1, trailer := .neither } })

/-- ATTEMPT_START on the idle bus with no attempt in flight: the first eligible request in the order SHED, LEAVE,
ANNOUNCE, STATUS leaves its slot and becomes the attempt in flight, its content fixed as the blocks stand; nothing else
changes, and the transmitter drives neither slot of its own trailer (R98).  A request is eligible where its slot holds
one that the state keeps, a STATUS only while the spacing timer is stopped (R92, R104, R107, R108, R109).  The moment
kept with the attempt is the model's (log 22).  The content of our frames by T 6-4: in every station state that sends
them, a SHED our number, network digest and excess, a LEAVE our number, network digest and serial (R79, R80); in an
ANNOUNCE and a STATUS our number, network digest, serial, state, flags, min, max and effective demand; in a STATUS also
the digest, the grant, the settled slow figure, and U where the station is feeder-sensing; the state is code 1 in
JOINING, 2 in ACTIVE and 3 in ISOLATED, in the three most significant bits of its byte (T 5-4, R66); the quiet set holds
the numbers of the QUIET entries and no other (R33, R91, R130). -/
def Obligations.AttemptStartsWithItsContentFixed : Prop :=
  (∀ (t : Time) (s : State), s.restartInput = false → s.bus.idle = true → s.bus.attempt = none →
     s.sched.inFlight = none →
     let begun (c : Scheduler) (k : Kind) (r : Request) : State :=
       { s.atTime t with
         bus := { s.bus with recessive := 0, idle := false, endLeft := 0, assembly := .empty, trailer := .neither,
                             attempt := some { frame := s.frameFor k r, startedAt := max s.now t, first := .nothing } }
         sched := { c with inFlight := some { kind := k, request := r } } }
     (∀ r, s.sched.shed = some r → s.life.state ∈ [StationState.joining, .active, .isolated, .leaving] →
       exec (.attemptStart t) s = .next (begun { s.sched with shed := none } .shed r)) ∧
     (∀ r, s.sched.shed = none → s.sched.leave = some r →
       s.life.state ∈ [StationState.joining, .active, .isolated, .leaving] →
       exec (.attemptStart t) s = .next (begun { s.sched with leave := none } .leave r)) ∧
     (∀ r, s.sched.shed = none → s.sched.leave = none → s.sched.announce = some r →
       s.life.state ∈ [StationState.joining, .active, .isolated] →
       exec (.attemptStart t) s = .next (begun { s.sched with announce := none } .announce r)) ∧
     (∀ r, s.sched.shed = none → s.sched.leave = none → s.sched.announce = none → s.sched.status = some r →
       s.sched.spacing = none → s.life.state ∈ [StationState.joining, .active, .isolated] →
       exec (.attemptStart t) s = .next (begun { s.sched with status := none } .status r)) ∧
     (s.sched.shed = none → s.sched.leave = none → s.sched.announce = none → s.sched.spacing ≠ none →
       exec (.attemptStart t) s = .next (s.atTime t))) ∧
  (∀ (s : State) (r : Request) (d : Word16), s.loader.networkDigest = some d →
     s.frameFor .shed r = .shed s.ownStation d (BitVec.ofNat 16 r.excess) ∧
     s.frameFor .leave r = .leave s.ownStation d s.planner.claim.serial) ∧
  (∀ (s : State) (r : Request) (d : Word16) (rep : ReportedState) (code : Nat), s.loader.networkDigest = some d →
     ((s.life.state = .joining ∧ rep = .joining ∧ code = 1) ∨ (s.life.state = .active ∧ rep = .active ∧ code = 2) ∨
       (s.life.state = .isolated ∧ rep = .isolated ∧ code = 3)) →
     let c : ClaimPart :=
       { serial := s.planner.claim.serial
         flags := { state := rep, priority := s.planner.claim.priority, degraded := s.link.degraded,
                    cut := decide (s.enf.state = .cut ∨ s.enf.state = .cooling), parked := s.parked }
         min := BitVec.ofNat 16 s.planner.claim.min, max := BitVec.ofNat 16 s.planner.claim.max
         demand := BitVec.ofNat 16 s.planner.claim.effectiveDemand }
     (stateFlagsByte c.flags).toNat / 32 = code ∧
     s.frameFor .announce r = .announce s.ownStation d c ∧
     ∃ q, s.frameFor .status r = .status s.ownStation d c
         { rosterDigest := s.planner.digest, grant := BitVec.ofNat 16 s.grantCtl.grant, quiet := q
           draw := if s.meter.load.slowCount = 4 then s.meter.load.slow.map (BitVec.ofNat 16) else none
           estimate := if s.params.feederSensing then s.meter.estimate.map (BitVec.ofNat 16) else none } ∧
       ∀ n : Station, q.getMsbD n.val = true ↔ ∃ e ∈ s.roster.entries, e.station = n ∧ e.cls = .quiet)

/-- ATTEMPT_LOST: counted, the request back in its slot with its count unchanged (merged with a fresh one, or discarded
where the state does not keep its kind), no report to the Link Monitor, and the bits taken so far a good assembly;
neither slot is driven yet for the frame that goes on, and nothing else changes (R93, R98, R101, R110, R111, R112).  The
attempt is one with no frame taken at the moment of its outcome (log 42, log 47).  How a bit's place is given and what
the assembly then holds are the model's (log 5, log 21, log 34). -/
def Obligations.LostAttemptReturnsItsRequest : Prop :=
  ∀ (t : Time) (pos : Nat) (a : Attempt) (f : InFlight) (s : State), s.restartInput = false →
    s.bus.attempt = some a → s.sched.inFlight = some f → losesAt a.frame pos = true → a.first = .nothing →
    exec (.attemptLost t pos) s = .next { s.atTime t with
      bus := { s.bus with
        attempt := none, trailer := .neither, lost := bump s.bus.lost, recessive := 0
        assembly := if s.life.state.takesFrames then assemblyAfter .afterLost a.frame pos else .empty }
      sched := { (if s.life.state.keeps f.kind then s.sched.setSlot f.kind (some (match s.sched.slot f.kind with
            | none => f.request
            | some q => { retry := max f.request.retry q.retry, excess := max f.request.excess q.excess }))
          else s.sched) with inFlight := none } }

/-- ATTEMPT_ABORTED below the last retry: counted, one damaged frame event, the request back in its slot with its count
raised by 1, the spacing timer started after a STATUS; the isolation count, the marks and the station state stay (R94,
R101, R109, R110, R112, R113, T 7-2). The assembly left is the model's (log 5, log 21, log 36); where the frame was
finished by another station and taken first, none is left and the answer to it stands (R94, R121, log 42).
REQUEST_DROPPED: ABORTED or PARTIAL with the retry count at 3 drops the request and counts it, besides what the outcome
does, in every state but where the LEAVE's drop ends LEAVING (R80, R110, R115); a fresh request in the slot stays, and
in ISOLATED a drop by PARTIAL ends the isolation as every outcome heard does (R78). The row is the outcome itself (log
4). -/
def Obligations.FailedAttemptsAreRetriedThenDropped : Prop :=
  (∀ (t : Time) (pos : Nat) (a : Attempt) (f : InFlight) (s : State), OpenWindow s →
     s.bus.attempt = some a → s.sched.inFlight = some f → abortsAt a.frame pos = true →
     a.first ≠ .peer → (a.first = .broken → pos = a.frame.lastBit) → f.request.retry < 3 →
     exec (.attemptAborted t pos) s = .next { s.atTime t with
       bus := { s.bus with
         attempt := none, trailer := if a.first = .nothing then .neither else s.bus.trailer
         aborted := bump s.bus.aborted
         recessive := if a.first = .nothing then
             trailingRecessive (a.frame.lineBits.take pos ++ [!(a.frame.lineBits.getD pos true)])
           else s.bus.recessive
         assembly := if s.life.state.takesFrames = true ∧ a.first = .nothing then assemblyAfter .afterAborted a.frame pos
           else .empty }
       link := { s.link with events := s.link.events + 1, damaged := s.link.damaged + 1 }
       sched := { (if s.life.state.keeps f.kind then s.sched.setSlot f.kind (some (match s.sched.slot f.kind with
             | none => { f.request with retry := f.request.retry + 1 }
             | some q => { retry := max (f.request.retry + 1) q.retry, excess := max f.request.excess q.excess }))
           else s.sched) with
         inFlight := none
         spacing := if f.kind = .status then some (max s.now t + s.params.cyclePeriod / 4) else s.sched.spacing } }) ∧
  (∀ (t : Time) (a : Attempt) (f : InFlight) (s : State), OpenWindow s →
     s.bus.attempt = some a → s.sched.inFlight = some f → f.request.retry = 3 →
     let gap := if f.kind = .status then some (max s.now t + s.params.cyclePeriod / 4) else s.sched.spacing
     let dropped : State := { s.atTime t with
       bus := { s.bus with
         attempt := none, trailer := if a.first = .nothing then .neither else s.bus.trailer
         framesSent := bump s.bus.framesSent, partly := bump s.bus.partly, recessive := 0, endLeft := 8 }
       link := { s.link with events := s.link.events + 1, damaged := s.link.damaged + 1 }
       life := { s.life with tAny := some (max s.now t) }
       sched := { s.sched with inFlight := none, spacing := gap, requestsDropped := bump s.sched.requestsDropped } }
     (a.first ≠ .broken → s.life.state = .joining ∨ s.life.state = .active →
       exec (.requestDropped t .partly) s =
         .next { dropped with sched := { dropped.sched with isolationCount := 0 } }) ∧
     (a.first ≠ .broken → s.life.state.participates = false → ¬(s.life.state = .leaving ∧ f.kind = .leave) →
       exec (.requestDropped t .partly) s = .next dropped) ∧
     (a.first ≠ .broken → s.life.state = .isolated →
       ∃ u, exec (.requestDropped t .partly) s = .next u ∧ exec (.attemptOutcomeTaken t true true) s = .next u ∧
         u.sched.requestsDropped = bump s.sched.requestsDropped ∧ u.sched.inFlight = none ∧ u.sched.spacing = gap ∧
         u.sched.shed = s.sched.shed ∧ u.sched.leave = s.sched.leave ∧ u.sched.announce = s.sched.announce) ∧
     (∀ pos, abortsAt a.frame pos = true → a.first ≠ .peer → (a.first = .broken → pos = a.frame.lastBit) →
       ¬(s.life.state = .leaving ∧ f.kind = .leave) →
       exec (.attemptAborted t pos) s = exec (.requestDropped t (.aborted pos)) s ∧
       exec (.requestDropped t (.aborted pos)) s = .next { s.atTime t with
         bus := { s.bus with
           attempt := none, trailer := if a.first = .nothing then .neither else s.bus.trailer
           aborted := bump s.bus.aborted
           recessive := if a.first = .nothing then
               trailingRecessive (a.frame.lineBits.take pos ++ [!(a.frame.lineBits.getD pos true)])
             else s.bus.recessive
           assembly := if s.life.state.takesFrames = true ∧ a.first = .nothing then
             assemblyAfter .afterAborted a.frame pos else .empty }
         link := { s.link with events := s.link.events + 1, damaged := s.link.damaged + 1 }
         sched := { s.sched with inFlight := none, spacing := gap
                                 requestsDropped := bump s.sched.requestsDropped } }))

/-- ATTEMPT_OUTCOME_TAKEN in JOINING and ACTIVE by T 5-5: ACCEPT alone is ACCEPTED (removed, both marks, count 0), both
slots PARTIAL (retried below the last retry, t_any, count 0, a damaged event), no ACCEPT UNHEARD (removed, the isolation
count up by 1, here below the limit); nothing else changes (R72, R73, R99, R101, R109, R110, R112, R113). In ISOLATED an
outcome UNHEARD changes no station state and counts up to the limit; outside JOINING, ACTIVE and ISOLATED an outcome,
but for one that ends LEAVING, sets the marks and changes neither the isolation count nor the station state (R72, R73,
R79); that this is so of every outcome in LEAVING, and of one in DUPLICATE, is the model's reading (log 31). The
transmitter drives neither slot (R98), but where a peer frame was taken at the same moment first, the answer to it stands
(the model's choice, log 47). An attempt whose broken frame was taken first draws none of these (log 42). -/
def Obligations.OutcomesAreTakenByTable5_5 : Prop :=
  (∀ (t : Time) (a : Attempt) (f : InFlight) (s : State), OpenWindow s →
     s.bus.attempt = some a → a.first ≠ .broken → s.sched.inFlight = some f →
     s.life.state = .joining ∨ s.life.state = .active →
     let gap := if f.kind = .status then some (max s.now t + s.params.cyclePeriod / 4) else s.sched.spacing
     exec (.attemptOutcomeTaken t true false) s = .next { s.atTime t with
       bus := { s.bus with
         attempt := none, trailer := if a.first = .nothing then .neither else s.bus.trailer
         framesSent := bump s.bus.framesSent, recessive := 1, endLeft := 8 }
       link := { s.link with events := s.link.events + 1 }
       life := { s.life with tClean := some (max s.now t), tAny := some (max s.now t) }
       sched := { s.sched with inFlight := none, isolationCount := 0, spacing := gap } } ∧
     (f.request.retry < 3 → exec (.attemptOutcomeTaken t true true) s = .next { s.atTime t with
       bus := { s.bus with
         attempt := none, trailer := if a.first = .nothing then .neither else s.bus.trailer
         framesSent := bump s.bus.framesSent, partly := bump s.bus.partly, recessive := 0, endLeft := 8 }
       link := { s.link with events := s.link.events + 1, damaged := s.link.damaged + 1 }
       life := { s.life with tAny := some (max s.now t) }
       sched := { s.sched.setSlot f.kind (some (match s.sched.slot f.kind with
             | none => { f.request with retry := f.request.retry + 1 }
             | some q => { retry := max (f.request.retry + 1) q.retry, excess := max f.request.excess q.excess })) with
         inFlight := none, isolationCount := 0, spacing := gap } }) ∧
     (∀ refuse, s.sched.isolationCount < 4 → exec (.attemptOutcomeTaken t false refuse) s = .next { s.atTime t with
       bus := { s.bus with
         attempt := none, trailer := if a.first = .nothing then .neither else s.bus.trailer
         framesSent := bump s.bus.framesSent, unheard := bump s.bus.unheard, endLeft := 8
         recessive := if refuse then 0 else trailingRecessive a.frame.lineBits + 2 }
       link := { s.link with events := s.link.events + 1 }
       sched := { s.sched with inFlight := none, isolationCount := s.sched.isolationCount + 1, spacing := gap } })) ∧
(
   ∀ (t : Time) (a : Attempt) (f : InFlight) (s : State), OpenWindow s →
     s.bus.attempt = some a → a.first ≠ .broken → s.sched.inFlight = some f →
     (∀ refuse, s.life.state = .isolated → exec (.attemptOutcomeTaken t false refuse) s = .next { s.atTime t with
       bus := { s.bus with
         attempt := none, trailer := if a.first = .nothing then .neither else s.bus.trailer
         framesSent := bump s.bus.framesSent, unheard := bump s.bus.unheard, endLeft := 8
         recessive := if refuse then 0 else trailingRecessive a.frame.lineBits + 2 }
       link := { s.link with events := s.link.events + 1 }
       sched := { s.sched with
         inFlight := none, isolationCount := min 5 (s.sched.isolationCount + 1)
         spacing := if f.kind = .status then some (max s.now t + s.params.cyclePeriod / 4) else s.sched.spacing } }) ∧
     (∀ accept refuse, s.life.state.participates = false →
       (s.life.state = .leaving → f.kind = .leave → accept = true ∧ refuse = true ∧ f.request.retry < 3) →
       ∃ u, exec (.attemptOutcomeTaken t accept refuse) s = .next u ∧
         u.life = { s.life with
           tClean := if accept = true ∧ refuse = false then some (max s.now t) else s.life.tClean
           tAny := if accept = true then some (max s.now t) else s.life.tAny } ∧
         u.sched.isolationCount = s.sched.isolationCount ∧ u.sched.inFlight = none ∧ u.bus.attempt = none ∧
         u.bus.trailer = (if a.first = .nothing then .neither else s.bus.trailer) ∧
         u.bus.framesSent = bump s.bus.framesSent ∧ u.bus.endLeft = 8 ∧
         u.bus.recessive = (if refuse then 0 else if accept then 1 else trailingRecessive a.frame.lineBits + 2) ∧
         u.grantCtl = s.grantCtl ∧ u.roster = s.roster ∧
         u.planner = s.planner ∧ u.meter = s.meter ∧ u.enf = s.enf ∧ u.loader = s.loader ∧ Apart s u ∧
         u.now = max s.now t))

/-- ISOLATION_LIMIT: the fifth UNHEARD outcome in JOINING or ACTIVE enters ISOLATED with the two deadlines of R74 fixed
from the marks, in the phase that stands after those already reached, with the grant of that phase. The row is the
outcome itself (log 4). An own outcome ACCEPTED or PARTIAL in ISOLATED enters JOINING, and ACTIVE at once where the
station is settled: the deadlines cancelled, the count 0, t_any set and with ACCEPTED t_clean, the grant lowered to our
share or, with raise permission in ACTIVE, raised to it (R56, R57, R71, R78). A valid peer frame in ISOLATED, of any
kind, does to the roster, the plan, the bus, D and settling what it does in ACTIVE, and then ends the isolation:
JOINING, or ACTIVE where the station is settled, with the phase NONE, the deadlines cancelled and the count 0 (R71, R78;
log 7). A valid peer frame that falls at the moment of an UNHEARD outcome and is taken first does what it does elsewhere;
the outcome that follows brings the count from 0 to 1, and the station is in JOINING or ACTIVE (R113). How that frame is
told from one that an assembly takes, and that the answer to it stands in the trailer, are the model's choice (log 47). -/
def Obligations.IsolationIsEnteredAndEnded : Prop :=
  (∀ (t : Time) (refuse : Bool) (a : Attempt) (f : InFlight) (clean any : Time) (s : State), OpenWindow s →
     s.bus.attempt = some a → a.first ≠ .broken → s.sched.inFlight = some f →
     s.life.state = .joining ∨ s.life.state = .active →
     s.sched.isolationCount = 4 → s.life.tClean = some clean → s.life.tAny = some any →
     let now := max s.now t
     let fallbackAt := any + (s.params.silenceLimit + 1) * s.params.cyclePeriod
     let spentAt := clean + s.params.forgetPeriod - s.params.cyclePeriod
     let cap := min s.params.fallback s.planner.claim.effectiveDemand
     ∃ u, exec (.isolationLimit t refuse) s = .next u ∧
       u.life = { s.life with
         state := .isolated, fallbackAt := some fallbackAt, spentAt := some spentAt
         phase := if spentAt ≤ now then .spent else if fallbackAt ≤ now then .fallback else .hold } ∧
       u.grantCtl = { s.grantCtl with grant :=
         (if spentAt ≤ now then 0 else if fallbackAt ≤ now then cap else min s.grantCtl.grant cap) } ∧
       u.sched.isolationCount = 5 ∧ u.sched.inFlight = none ∧
       u.bus = { s.bus with
         attempt := none, trailer := if a.first = .nothing then .neither else s.bus.trailer
         framesSent := bump s.bus.framesSent, unheard := bump s.bus.unheard, endLeft := 8
         recessive := if refuse then 0 else trailingRecessive a.frame.lineBits + 2 } ∧
       u.link = { s.link with events := s.link.events + 1 } ∧ u.cutOutput = s.cutFlag ∧
       u.roster = s.roster ∧ u.planner = s.planner ∧ u.meter = s.meter ∧ u.enf = s.enf ∧ u.loader = s.loader ∧
       Apart s u ∧ u.now = now) ∧
  (∀ (t : Time) (refuse : Bool) (a : Attempt) (f : InFlight) (s : State), OpenWindow s →
     s.bus.attempt = some a → a.first ≠ .broken → s.sched.inFlight = some f →
     s.life.state = .isolated →
     ∃ u, exec (.attemptOutcomeTaken t true refuse) s = .next u ∧
       u.life = { s.life with
         state := (if s.grantCtl.settled then .active else .joining), phase := .none, fallbackAt := none
         spentAt := none
         tClean := if refuse then s.life.tClean else some (max s.now t), tAny := some (max s.now t) } ∧
       u.grantCtl = { s.grantCtl with grant :=
         (if s.grantCtl.settled = true ∧ s.grantCtl.raiseHold = .expired ∧ s.link.degraded = false then s.ownShare
         else min s.grantCtl.grant s.ownShare) } ∧
       u.bus = { s.bus with
         attempt := none, trailer := if a.first = .nothing then .neither else s.bus.trailer
         framesSent := bump s.bus.framesSent
         partly := if refuse then bump s.bus.partly else s.bus.partly
         recessive := if refuse then 0 else 1, endLeft := 8 } ∧
       u.link = { s.link with
         events := s.link.events + 1, damaged := s.link.damaged + (if refuse then 1 else 0) } ∧
       u.sched.inFlight = none ∧ u.sched.isolationCount = 0 ∧ u.cutOutput = s.cutFlag ∧
       u.roster = s.roster ∧ u.planner = s.planner ∧ u.meter = s.meter ∧ u.enf = s.enf ∧ u.loader = s.loader ∧
       Apart s u ∧ u.now = max s.now t) ∧
(
   ∀ (t : Time) (bytes : List Byte) (first : Bool) (f : Frame) (s : State), OpenWindow s → s.canTake bytes = true →
     judgeFrame bytes = some (.inl f) → f.station ≠ s.ownStation → s.life.state = .isolated →
     ∃ u v, exec (frameRow f.kind t bytes first) s = .next u ∧
       exec (frameRow f.kind t bytes first) { s with life := { s.life with state := .active, phase := .none } } = .next v ∧
       u.roster = v.roster ∧ u.planner = v.planner ∧ u.bus = v.bus ∧ u.link = v.link ∧
       u.grantCtl.settled = v.grantCtl.settled ∧ u.grantCtl.deficit = v.grantCtl.deficit ∧
       u.grantCtl.shedHold = v.grantCtl.shedHold ∧
       u.life = { s.life with
         state := if u.grantCtl.settled then .active else .joining, phase := .none, fallbackAt := none, spentAt := none } ∧
       u.sched.isolationCount = 0 ∧ SlotsKept s u ∧ u.meter = s.meter ∧ u.enf = s.enf ∧ u.loader = s.loader ∧
       Apart s u ∧ u.now = max s.now t) ∧
  (∀ (t : Time) (bytes : List Byte) (first refuse : Bool) (f : Frame) (a : Attempt) (q : InFlight) (s : State),
     s.restartInput = false → s.bus.assembly = .empty → s.bus.attempt = some a → a.first = .nothing →
     s.sched.inFlight = some q → s.life.state.participates = true → judgeFrame bytes = some (.inl f) →
     f.station ≠ s.ownStation → a.frame.lastBit + 3 ≤ (max s.now t - a.startedAt) / bitTime s.params →
     let met : State := { s with bus := { s.bus with
       attempt := some { a with first := .peer }, assembly := .good .peer [] 1 } }
     ∃ u v, exec (frameRow f.kind t bytes first) s = .next u ∧ exec (frameRow f.kind t bytes first) met = .next u ∧
       u.bus.attempt = some { a with first := .peer } ∧ u.sched.inFlight = some q ∧ u.sched.isolationCount = 0 ∧
       u.bus.validReceived = bump s.bus.validReceived ∧ (u.life.state = .joining ∨ u.life.state = .active) ∧
       exec (.attemptOutcomeTaken t false refuse) u = .next v ∧ v.sched.isolationCount = 1 ∧ v.life = u.life ∧
       v.roster = u.roster ∧ v.planner = u.planner ∧ v.bus.attempt = none ∧ v.sched.inFlight = none ∧
       v.bus.unheard = bump s.bus.unheard ∧ v.bus.trailer = u.bus.trailer)

/-- In LEAVING an outcome ACCEPTED or UNHEARD of the LEAVE, or one PARTIAL or ABORTED at its last retry, which drops and
counts it, enters DORMANT: roster, overflow flag, forgotten set and request list emptied, the isolation count 0, a plan
of our own row alone, the digest over our own element alone, whatever the roster held, settled (R20, R80, R81, R110,
R115). -/
def Obligations.LeaveOutcomeEntersDormant : Prop :=
  ∀ (t : Time) (a : Attempt) (f : InFlight) (c : Instr) (s : State), OpenWindow s →
    s.bus.attempt = some a → s.sched.inFlight = some f → s.life.state = .leaving → f.kind = .leave →
    s.grantCtl.grant = 0 → EndsLeave t a f c →
    ∃ u, exec c s = .next u ∧
      u.sched.requestsDropped =
        (if dropsLeave c then bump s.sched.requestsDropped else s.sched.requestsDropped) ∧
      u.life.state = .dormant ∧ u.life.phase = .none ∧ u.life.cycle = s.life.cycle ∧
      u.roster = { s.roster with entries := [], overflow := false, forgotten := [] } ∧
      u.sched.shed = none ∧ u.sched.leave = none ∧ u.sched.announce = none ∧ u.sched.status = none ∧
      u.sched.spacing = none ∧ u.sched.inFlight = none ∧ u.sched.isolationCount = 0 ∧
      u.planner.claim = s.planner.claim ∧ u.planner.plan = some u.planNow ∧
      (∀ p, u.planner.plan = some p → p.rows.map Row.station = [s.ownStation]) ∧
      u.planner.digest = crc16 [BitVec.ofNat 8 s.ownStation.val, 1#8, s.planner.claim.serial] ∧
      u.grantCtl.grant = 0 ∧ u.grantCtl.settled = true ∧ u.grantCtl.deficit = s.grantCtl.deficit ∧
      u.grantCtl.shedHold = s.grantCtl.shedHold ∧ u.bus.trailer = .neither ∧ u.bus.assembly = .empty ∧
      u.bus.attempt = none ∧ u.enf = s.enf ∧ u.meter = s.meter ∧ u.loader = s.loader ∧ Apart s u

/-! ### Received frames -/

/-- FRAME_CUT_SHORT: abandoned until the bus is idle, with neither slot driven, the recessive count 6 or 0 by the level
of the six identical bits (R88; that the command brings it is log 5), counted and one damaged frame event; the broken
remainder of our own ABORTED attempt is neither counted nor reported (R89, R94, R98, R101, T 7-2).  FRAME_DAMAGED: a
complete frame whose check field fails, or passes but whose length or values fail, is answered REFUSE, counted, and one
damaged frame event; it reaches no other block (R96, R97, R98, R101).  The remainder of our own attempt, ABORTED in the
last five check bits, that is received complete is taken so too (the model's choice, log 35).  The frame that another
station finishes at the very bit at which our attempt breaks off, the last of the check field read inverted, is one
event and the outcome ABORTED another; either may be first, and in a window that stays open both orders lead to one
state (R94, T 7-2, R121, log 42). -/
def Obligations.CutShortAndDamagedFramesGoNoFurther : Prop :=
  (∀ (t : Time) (o : AssemblyOrigin) (bits : List Bool) (run : Nat) (level : Bool) (s : State), OpenWindow s →
     s.life.state.takesFrames = true → s.bus.assembly = .good o bits run →
     let count := if (if run = 6 then bits.getLastD level else level) then 6 else 0
     (o ≠ .afterAborted → exec (.frameCutShort ⟨t, level⟩) s = .next { s.atTime t with
       bus := { s.bus with
         assembly := .abandoned, trailer := .neither, recessive := count
         damagedReceived := bump s.bus.damagedReceived }
       link := { s.link with events := s.link.events + 1, damaged := s.link.damaged + 1 } }) ∧
     (o = .afterAborted → exec (.frameCutShort ⟨t, level⟩) s = .next { s.atTime t with
       bus := { s.bus with assembly := .abandoned, trailer := .neither, recessive := count } })) ∧
  (∀ (t : Time) (bytes : List Byte) (why : Damage) (s : State), OpenWindow s → s.canTake bytes = true →
     judgeFrame bytes = some (.inr why) → exec (.frameDamaged t bytes) s = .next { s.atTime t with
       bus := { s.bus with
         assembly := .empty, trailer := .refuse, damagedReceived := bump s.bus.damagedReceived
         recessive := trailingRecessive (lineBitsOf bytes), endLeft := 10 }
       link := { s.link with events := s.link.events + 1, damaged := s.link.damaged + 1 } }) ∧
  (∀ (t : Time) (pos : Nat) (why : Damage) (a : Attempt) (f : InFlight) (s : State), s.restartInput = false →
     s.link.events + 2 < s.params.window → s.life.state.takesFrames = true → s.bus.assembly = .empty →
     s.bus.attempt = some a → a.first = .nothing → s.sched.inFlight = some f → f.request.retry < 3 →
     pos = a.frame.lastBit → abortsAt a.frame pos = true → judgeFrame a.frame.brokenBytes = some (.inr why) →
     exec (.frameDamaged t a.frame.brokenBytes) s = .next { s.atTime t with
       bus := { s.bus with
         attempt := some { a with first := .broken }, trailer := .refuse
         damagedReceived := bump s.bus.damagedReceived
         recessive := trailingRecessive (lineBitsOf a.frame.brokenBytes), endLeft := 10 }
       link := { s.link with events := s.link.events + 1, damaged := s.link.damaged + 1 } } ∧
     ((assemblyAfter .afterAborted a.frame pos).goesOnTo a.frame.brokenBytes = true →
       ∃ v w u, exec (.frameDamaged t a.frame.brokenBytes) s = .next v ∧ exec (.attemptAborted t pos) v = .next u ∧
         exec (.attemptAborted t pos) s = .next w ∧ exec (.frameDamaged t a.frame.brokenBytes) w = .next u ∧
         u.link = { s.link with events := s.link.events + 2, damaged := s.link.damaged + 2 } ∧
         u.bus.trailer = .refuse))

/-- STATUS_FRAME of a peer that has an entry or finds room: the entry holds the frame's values, LIVE or MISMATCH by the
network digest, confirmed exactly when it is LIVE and carries our digest as it then stands; ACCEPT; counted; the
isolation count 0; other entries keep all but their confirmed flags; settling follows (R25 to R30, R43, R48, R50, R51,
R72, R101, R117).  With a sender that is LIVE after the update the other entries and the overflow flag are those that
the quiet set, taken after it, leaves; with a MISMATCH sender no number is taken and the flag stays (R34).  Where the
event changes what counts for our digest, every confirmed flag but the sender's is clear afterwards and the raise hold
runs in full; elsewhere both stand, but for a larger headroom or pool, which restarts the hold (R5, R19, R49, R52).  The
order of the report to the Link Monitor is an operand (log 7). -/
def Obligations.StatusFrameUpdatesItsSender : Prop :=
  ∀ (t : Time) (bytes : List Byte) (first : Bool) (n : Station) (net : Word16) (c : ClaimPart) (st : StatusPart)
    (s : State), OpenWindow s → s.canTake bytes = true → judgeFrame bytes = some (.inl (.status n net c st)) →
    n ≠ s.ownStation → s.life.state ≠ .isolated → (s.entryOf n ≠ none ∨ s.roster.entries.length < 24) →
    let updated : Entry :=
        { station := n
          cls := if s.loader.networkDigest = some net then .live else .mismatch
          origin := .heard
            { priority := c.flags.priority, min := c.min.toNat, max := c.max.toNat, demand := c.demand.toNat,
              serial := c.serial, grant := st.grant.toNat, state := c.flags.state, lastHeard := max s.now t }
          flags := { degraded := c.flags.degraded, cut := c.flags.cut, parked := c.flags.parked }
          draw := st.draw.map BitVec.toNat, estimate := st.estimate.map BitVec.toNat, digest := some st.rosterDigest
          confirmed := false, silence := 0
          forget := if s.loader.networkDigest = some net then none
            else some (max s.now t + s.params.forgetPeriod) }
    let heard := takeQuietSet st.quiet { s.atTime t with roster := { s.roster with
      entries := upsertEntry updated s.roster.entries, forgotten := s.roster.forgotten.erase n } }
    ∃ u, exec (.statusFrame t bytes first) s = .next u ∧
      u.entryOf n = some { updated with
        confirmed := decide (s.loader.networkDigest = some net ∧ st.rosterDigest = u.planner.digest) } ∧
      (s.loader.networkDigest = some net →
        (∀ m, m ≠ n → (u.entryOf m).map (fun e => { e with confirmed := false }) =
          (heard.entryOf m).map (fun e => { e with confirmed := false })) ∧
        u.roster.overflow = heard.roster.overflow) ∧
      (s.loader.networkDigest ≠ some net →
        (∀ m, m ≠ n → s.entryOf m = none → u.entryOf m = none) ∧ u.roster.overflow = s.roster.overflow) ∧
      (∀ m e, m ≠ n → s.entryOf m = some e →
        ∃ b, u.entryOf m = some { e with confirmed := b } ∧ (b = true → e.confirmed = true)) ∧
      u.roster.forgotten = s.roster.forgotten.erase n ∧ (s.roster.forgotten.Nodup → n ∉ u.roster.forgotten) ∧
      u.grantCtl.settled = u.settledCondition ∧
      u.life = { s.life with
        state := if s.life.state = .joining ∧ s.grantCtl.settled = false ∧ u.grantCtl.settled = true then .active
          else s.life.state
        phase := if s.life.state = .joining ∧ s.grantCtl.settled = false ∧ u.grantCtl.settled = true then .none
          else s.life.phase } ∧
      DigestChangeTaken (some n) s u ∧
      u.sched.isolationCount = 0 ∧ u.sched.inFlight = s.sched.inFlight ∧ u.sched.spacing = s.sched.spacing ∧
      u.bus = { s.bus with
        assembly := .empty, trailer := .accept, validReceived := bump s.bus.validReceived
        recessive := trailingRecessive (lineBitsOf bytes), endLeft := 10 } ∧
      u.link = { s.link with events := s.link.events + 1 } ∧ u.planner.claim = s.planner.claim ∧
      u.grantCtl.deficit = s.grantCtl.deficit ∧ u.grantCtl.shedHold = s.grantCtl.shedHold ∧
      u.roster.admissionsRefused = s.roster.admissionsRefused ∧ u.roster.shedIgnored = s.roster.shedIgnored ∧
      u.meter = s.meter ∧ u.enf = s.enf ∧ u.loader = s.loader ∧ Apart s u ∧ SlotsKept s u ∧ u.now = max s.now t

/-- ANNOUNCE_FRAME of a peer that has an entry or finds room: as a STATUS, but the reported grant is 0, no draw,
estimate or digest is present, the confirmed flag is clear, no number is taken by hearsay, and a STATUS is requested
where the state takes one (R26, R29, R30, R43, T 6-3).  Where the event changes what counts for our digest, every
confirmed flag but the sender's is clear afterwards and the raise hold runs in full; elsewhere both stand, but for a
larger headroom or pool, which restarts the hold (R5, R19, R49, R52).  The order of the report to the Link Monitor is an
operand (log 7). -/
def Obligations.AnnounceFrameUpdatesItsSender : Prop :=
  ∀ (t : Time) (bytes : List Byte) (first : Bool) (n : Station) (net : Word16) (c : ClaimPart)
    (s : State), OpenWindow s → s.canTake bytes = true → judgeFrame bytes = some (.inl (.announce n net c)) →
    n ≠ s.ownStation → s.life.state ≠ .isolated → (s.entryOf n ≠ none ∨ s.roster.entries.length < 24) →
    ∃ u, exec (.announceFrame t bytes first) s = .next u ∧
      u.entryOf n = some
        { station := n
          cls := if s.loader.networkDigest = some net then .live else .mismatch
          origin := .heard
            { priority := c.flags.priority, min := c.min.toNat, max := c.max.toNat, demand := c.demand.toNat,
              serial := c.serial, grant := 0, state := c.flags.state, lastHeard := max s.now t }
          flags := { degraded := c.flags.degraded, cut := c.flags.cut, parked := c.flags.parked }
          draw := none, estimate := none, digest := none, confirmed := false, silence := 0
          forget := if s.loader.networkDigest = some net then none
            else some (max s.now t + s.params.forgetPeriod) } ∧
      (∀ m e, m ≠ n → s.entryOf m = some e →
        ∃ b, u.entryOf m = some { e with confirmed := b } ∧ (b = true → e.confirmed = true)) ∧
      (∀ m, m ≠ n → s.entryOf m = none → u.entryOf m = none) ∧
      u.roster.forgotten = s.roster.forgotten.erase n ∧ u.roster.overflow = s.roster.overflow ∧
      DigestChangeTaken (some n) s u ∧ (s.life.state.participates = true → u.sched.status ≠ none) ∧
      u.grantCtl.settled = u.settledCondition ∧ u.sched.isolationCount = 0 ∧
      u.bus = { s.bus with
        assembly := .empty, trailer := .accept, validReceived := bump s.bus.validReceived
        recessive := trailingRecessive (lineBitsOf bytes), endLeft := 10 } ∧
      u.link = { s.link with events := s.link.events + 1 } ∧ u.planner.claim = s.planner.claim ∧
      u.grantCtl.deficit = s.grantCtl.deficit ∧ u.grantCtl.shedHold = s.grantCtl.shedHold ∧
      u.roster.admissionsRefused = s.roster.admissionsRefused ∧ u.roster.shedIgnored = s.roster.shedIgnored ∧
      u.meter = s.meter ∧ u.enf = s.enf ∧ u.loader = s.loader ∧ Apart s u ∧ SlotsKept s u ∧ u.now = max s.now t

/-- An ANNOUNCE or a STATUS of a station without an entry is refused by a full roster: REFUSE, counted, the overflow
flag set (with OVERFLOW where it was clear), no entry made and no hearsay taken, and our station is not settled (R25,
R28, R44). (log 7) -/
def Obligations.FullRosterRefusesAdmission : Prop :=
  ∀ (t : Time) (bytes : List Byte) (first : Bool) (f : Frame) (s : State), OpenWindow s → s.canTake bytes = true →
    judgeFrame bytes = some (.inl f) → (f.kind = .status ∨ f.kind = .announce) → f.station ≠ s.ownStation →
    s.life.state ≠ .isolated → s.entryOf f.station = none → 24 ≤ s.roster.entries.length →
    ∃ u, exec (frameRow f.kind t bytes first) s = .next u ∧
      u.roster = { s.roster with overflow := true, admissionsRefused := bump s.roster.admissionsRefused } ∧
      u.bus = { s.bus with
        assembly := .empty, trailer := .refuse, validReceived := bump s.bus.validReceived
        recessive := trailingRecessive (lineBitsOf bytes), endLeft := 10 } ∧
      u.host.queue =
        (if s.roster.overflow then s.host.queue else enterNote (.overflow true) s.host.queue) ∧
      u.grantCtl = { s.grantCtl with settled := false } ∧
      u.link = { s.link with events := s.link.events + 1 } ∧ u.sched.isolationCount = 0 ∧
      u.planner = s.planner ∧ u.life = s.life ∧ u.meter = s.meter ∧ u.enf = s.enf ∧ u.loader = s.loader ∧
      Apart s u ∧ SlotsKept s u ∧ u.now = max s.now t

/-- The quiet set of a STATUS: an entry that stands is left as it is; every entry that comes is one of hearsay, QUIET
and with nothing else present, for a number of the set that is not ours and not forgotten; a number of that kind that is
not admitted leaves the overflow flag set and the roster full, and where every one has an entry the flag stays as it
was; a flag that was set stays set. Numbers are admitted in ascending order: one that comes in has every lower such
number in the roster (R34, R35, R36, R37, R44). -/
def Obligations.QuietSetIsTakenByHearsay : Prop :=
  ∀ (q : BitVec 64) (s : State), s.roster.entries.length ≤ 24 →
    let u := takeQuietSet q s
    (∀ m e, s.entryOf m = some e → u.entryOf m = some e) ∧
    (∀ m e, s.entryOf m = none → u.entryOf m = some e →
      q.getMsbD m.val = true ∧ m ≠ s.ownStation ∧ m ∉ s.roster.forgotten ∧
      e = { station := m, cls := .quiet, origin := .hearsay, flags := ⟨false, false, false⟩, draw := none,
            estimate := none, digest := none, confirmed := false, silence := 0,
            forget := some (s.now + s.params.forgetPeriod) }) ∧
    (∀ m, q.getMsbD m.val = true → m ≠ s.ownStation → m ∉ s.roster.forgotten → u.entryOf m = none →
      u.roster.overflow = true ∧ u.roster.entries.length = 24) ∧
    ((∀ m, q.getMsbD m.val = true → m ≠ s.ownStation → m ∉ s.roster.forgotten → u.entryOf m ≠ none) →
      u.roster.overflow = s.roster.overflow) ∧
    (s.roster.overflow = true → u.roster.overflow = true) ∧
    (∀ m k : Station, m < k → q.getMsbD m.val = true → m ≠ s.ownStation → m ∉ s.roster.forgotten →
      s.entryOf k = none → u.entryOf k ≠ none → u.entryOf m ≠ none) ∧
    u.roster.entries.length ≤ 24 ∧ u.roster.forgotten = s.roster.forgotten ∧
    u.roster.admissionsRefused = s.roster.admissionsRefused

/-- LEAVE_FRAME: the sender's entry is removed at once, whatever its class and origin and whatever the frame carries,
the overflow flag cleared and the forgotten set left as it is; without an entry the roster, the digest and the plan
stay; ACCEPT in both cases (R25, R31, R40, R50). Where the event changes what counts for our digest, every confirmed flag is
clear afterwards and the raise hold runs in full; elsewhere both stand, but for a larger headroom or pool, which restarts
the hold (R5, R19, R49, R52). (log 7) -/
def Obligations.LeaveFrameRemovesItsSender : Prop :=
  ∀ (t : Time) (bytes : List Byte) (first : Bool) (n : Station) (net : Word16) (serial : Byte)
    (s : State), OpenWindow s → s.canTake bytes = true → judgeFrame bytes = some (.inl (.leave n net serial)) →
    n ≠ s.ownStation → s.life.state ≠ .isolated →
    ∃ u, exec (.leaveFrame t bytes first) s = .next u ∧
      u.entryOf n = none ∧
      (s.entryOf n ≠ none → u.roster.overflow = false ∧ u.grantCtl.settled = u.settledCondition) ∧
      (s.entryOf n = none →
        u.roster = s.roster ∧ u.planner = s.planner ∧ u.grantCtl = s.grantCtl ∧ u.life = s.life ∧ u.host = s.host) ∧
      (∀ m e, m ≠ n → s.entryOf m = some e →
        ∃ b, u.entryOf m = some { e with confirmed := b } ∧ (b = true → e.confirmed = true)) ∧
      (∀ m, s.entryOf m = none → u.entryOf m = none) ∧ DigestChangeTaken none s u ∧
      u.roster.forgotten = s.roster.forgotten ∧ u.sched.isolationCount = 0 ∧
      u.bus = { s.bus with
        assembly := .empty, trailer := .accept, validReceived := bump s.bus.validReceived
        recessive := trailingRecessive (lineBitsOf bytes), endLeft := 10 } ∧
      u.link = { s.link with events := s.link.events + 1 } ∧ u.planner.claim = s.planner.claim ∧
      u.roster.admissionsRefused = s.roster.admissionsRefused ∧ u.roster.shedIgnored = s.roster.shedIgnored ∧
      u.meter = s.meter ∧ u.enf = s.enf ∧ u.loader = s.loader ∧ Apart s u ∧ SlotsKept s u ∧ u.now = max s.now t

/-- SHED_FRAME: of our network, D becomes the larger of D and the excess and the shed hold restarts in full; of another,
it is ignored and counted. In both cases the sender counts as heard, and no class, claim, confirmation, digest or
settled flag changes (R25, R32, R61, R64). (log 7) -/
def Obligations.ShedFrameRaisesTheDeficit : Prop :=
  ∀ (t : Time) (bytes : List Byte) (first : Bool) (n : Station) (net excess : Word16)
    (s : State), OpenWindow s → s.canTake bytes = true → judgeFrame bytes = some (.inl (.shed n net excess)) →
    n ≠ s.ownStation → s.life.state ≠ .isolated →
    ∃ u, exec (.shedFrame t bytes first) s = .next u ∧
      (s.loader.networkDigest = some net →
        u.grantCtl.deficit = max s.grantCtl.deficit excess.toNat ∧
        u.grantCtl.shedHold = some (max s.now t + s.params.shedHold * Config.sec) ∧
        u.roster.shedIgnored = s.roster.shedIgnored) ∧
      (s.loader.networkDigest ≠ some net →
        u.grantCtl = s.grantCtl ∧ u.roster.shedIgnored = bump s.roster.shedIgnored ∧ u.planner = s.planner ∧
        u.host = s.host) ∧
      (∀ m, m ≠ n → u.entryOf m = s.entryOf m) ∧ (s.entryOf n = none → u.entryOf n = none) ∧
      (∀ e r, s.entryOf n = some e → e.origin = .heard r → u.entryOf n = some
        { e with
          origin := .heard { r with lastHeard := max s.now t }
          silence := if e.cls = .live then 0 else e.silence
          forget := if e.cls = .live then e.forget else some (max s.now t + s.params.forgetPeriod) }) ∧
      (∀ e, s.entryOf n = some e → e.cls = .quiet → e.origin = .hearsay → u.entryOf n = some e) ∧
      u.grantCtl.settled = s.grantCtl.settled ∧ u.planner.digest = s.planner.digest ∧
      u.planner.claim = s.planner.claim ∧ u.roster.overflow = s.roster.overflow ∧
      u.roster.forgotten = s.roster.forgotten ∧ u.sched.isolationCount = 0 ∧ u.life = s.life ∧
      u.bus = { s.bus with
        assembly := .empty, trailer := .accept, validReceived := bump s.bus.validReceived
        recessive := trailingRecessive (lineBitsOf bytes), endLeft := 10 } ∧
      u.link = { s.link with events := s.link.events + 1 } ∧
      u.meter = s.meter ∧ u.enf = s.enf ∧ u.loader = s.loader ∧ Apart s u ∧ SlotsKept s u ∧ u.now = max s.now t

/-- A valid frame of any kind that bears our own number enters DUPLICATE: neither slot driven, nothing taken from it,
phase NONE, no listen or deadline, a grant of 0, the list emptied, the roster held with its forget timers stopped;
DUPLICATE, STATION STATE, and GRANT where it changed; counted and a frame event (R22, R41, R82, R98). (log 7) -/
def Obligations.OwnNumberEntersDuplicate : Prop :=
  ∀ (t : Time) (bytes : List Byte) (first : Bool) (f : Frame) (s : State), OpenWindow s → s.canTake bytes = true →
    judgeFrame bytes = some (.inl f) → f.station = s.ownStation →
    ∃ u, exec (frameRow f.kind t bytes first) s = .next u ∧
      u.life = { s.life with state := .duplicate, phase := .none, listen := none, fallbackAt := none, spentAt := none } ∧
      u.grantCtl = { s.grantCtl with grant := 0 } ∧
      u.sched = { s.sched with shed := none, leave := none, announce := none, status := none, spacing := none } ∧
      u.roster = { s.roster with entries := s.roster.entries.map (fun e => { e with forget := none }) } ∧
      u.bus = { s.bus with
        assembly := .empty, trailer := .neither, validReceived := bump s.bus.validReceived
        recessive := trailingRecessive (lineBitsOf bytes), endLeft := 10 } ∧
      u.host.queue = (if s.grantCtl.grant = 0 then
          enterNote (.stationState .duplicate .none s.loader.stage) (enterNote .duplicate s.host.queue)
        else enterNote (.grant 0)
          (enterNote (.stationState .duplicate .none s.loader.stage) (enterNote .duplicate s.host.queue))) ∧
      u.link = { s.link with events := s.link.events + 1 } ∧ u.cutOutput = s.cutFlag ∧ u.planner = s.planner ∧
      u.meter = s.meter ∧ u.enf = s.enf ∧ u.loader = s.loader ∧ Apart s u ∧ u.now = max s.now t

/-! ### The Link Monitor -/

/-- One frame event: counted, with the damaged count; the one that brings the window event count to W first counts
itself, then sets DEGRADED where the damaged count is greater than the link threshold and clears it elsewhere, and both
counts become 0. -/
def Obligations.WindowClosesAtW : Prop :=
  ∀ (damaged : Bool) (s : State),
    let d := s.link.damaged + (if damaged then 1 else 0)
    (s.link.events + 1 < s.params.window →
      frameEvent damaged s = { s with link := { s.link with events := s.link.events + 1, damaged := d } }) ∧
    (s.link.events + 1 = s.params.window →
      ((frameEvent damaged s).link.degraded = true ↔ s.params.threshold < d) ∧
      (frameEvent damaged s).link.events = 0 ∧ (frameEvent damaged s).link.damaged = 0 ∧
      (s.link.degraded = decide (s.params.threshold < d) →
        frameEvent damaged s = { s with link := { s.link with events := 0, damaged := 0 } }))

/-- WINDOW_CLOSE: the frame event that brings the count to W is counted with its own damage by T 7-2 and closes the
window, whatever the event is: DEGRADED is set above the threshold and cleared elsewhere, both counts become 0. The row
is that event itself (log 4), and the event does to the roster, the plan, the station state, the bus and the slots what
it does where the window stays open (R117, R118, R119, R120). A changed DEGRADED raises LINK with its new value, once
and before or after what else the event raises; an unchanged one raises none; and where DEGRADED clears, no raise that
permission allows is left unmade (R55, R65, R120). That a count above W closes the window too is the model's choice (log
20), and so is the order of the report within a received frame (log 7, log 37). -/
def Obligations.WindowCloseJudgesTheLink : Prop :=
  ∀ (t : Time) (ev : FrameEvent) (s : State), s.restartInput = false → s.params.window ≤ s.link.events + 1 →
    s.frameEventOccurs ev = true →
    let damage := match ev with
      | .received bytes _ => (match judgeFrame bytes with | some (.inr _) => 1 | _ => 0)
      | .cutShort _ => 1
      | .outcome accept refuse => if accept = true ∧ refuse = true then 1 else 0
      | .aborted _ => 1
    ∃ u, exec (.windowClose t ev) s = .next u ∧ exec (eventRow t ev) s = .next u ∧
      u.link.events = 0 ∧ u.link.damaged = 0 ∧
      u.link.degraded = decide (s.params.threshold < s.link.damaged + damage) ∧
      (∀ d, s.link.degraded = false → u.link.degraded = true → ev = .received d true →
        judgeFrame d = some (.inr .checkFailure) → u.host.queue = enterNote (.link true) s.host.queue) ∧
      (∃ before after : List Notification, (∀ n ∈ before ++ after, ∀ d, n ≠ .link d) ∧
        u.host.queue = (before ++ (if u.link.degraded = s.link.degraded then []
             else [Notification.link u.link.degraded]) ++ after).foldl
          (fun q n => enterNote n q) s.host.queue) ∧
      (s.link.degraded = true → u.link.degraded = false → u.permission = true → u.ownShare ≤ u.grantCtl.grant) ∧
      (1 < s.params.window → ∃ v, exec (eventRow t ev) { s with link := { s.link with events := 0 } } = .next v ∧
        u.roster = v.roster ∧ u.planner = v.planner ∧ u.life = v.life ∧ u.bus = v.bus ∧ SlotsKept v u ∧
        u.sched.isolationCount = v.sched.isolationCount) ∧
      Apart s u ∧ u.meter = s.meter ∧ u.enf = s.enf ∧ u.loader = s.loader ∧
      u.planner.claim = s.planner.claim ∧ u.now = max s.now t

/-! ### Timers -/

/-- CYCLE_TIMER_EXPIRY and ENTRY_GOES_QUIET where frames are taken: the next expiry one cycle period on; every LIVE
entry counts, and at the silence limit falls QUIET with its draw, estimate, digest and confirmation gone and a forget
timer from its last heard time; other classes stay; a STATUS is requested where the state takes one (R38, R39, R68, T
6-3). Where the event changes what counts for our digest, every confirmed flag is clear afterwards and the raise hold
runs in full; elsewhere both stand, but for a larger headroom or pool, which restarts the hold (R5, R19, R49, R52).
ENTRY_GOES_QUIET is that expiry itself (log 4). That a count which stands at or above a limit that a fault of the
storage has lowered meets it at this expiry is the model's choice (log 20). -/
def Obligations.CycleExpiryCountsSilence : Prop :=
  ∀ (d : Time) (s : State), s.restartInput = false → s.life.cycle = some d →
    (s.life.state.takesFrames = true →
      ∃ u, exec .cycleTimerExpiry s = .next u ∧
        (∀ n, s.fallsQuiet n = true → exec (.entryGoesQuiet n) s = .next u) ∧
        u.life.cycle = some (d + s.params.cyclePeriod) ∧
        (∀ m e r, s.entryOf m = some e → e.cls = .live → e.origin = .heard r → s.params.silenceLimit ≤ e.silence + 1 →
          u.entryOf m = some { e with
            cls := .quiet, draw := none, estimate := none, digest := none, confirmed := false
            silence := s.params.silenceLimit, forget := some (r.lastHeard + s.params.forgetPeriod) }) ∧
        (∀ m e, s.entryOf m = some e → e.cls = .live → e.silence + 1 < s.params.silenceLimit →
          ∃ b, u.entryOf m = some { e with silence := e.silence + 1, confirmed := b } ∧
            (b = true → e.confirmed = true)) ∧
        (∀ m e, s.entryOf m = some e → e.cls ≠ .live → ∃ b, u.entryOf m = some { e with confirmed := b }) ∧
        (∀ m, s.entryOf m = none → u.entryOf m = none) ∧ DigestChangeTaken none s u ∧
        (s.life.state.participates = true → u.sched.status ≠ none) ∧
        u.grantCtl.settled = u.settledCondition ∧
        u.roster.overflow = s.roster.overflow ∧ u.roster.forgotten = s.roster.forgotten ∧
        u.planner.claim = s.planner.claim ∧ u.bus = s.bus ∧ u.meter = s.meter ∧ u.enf = s.enf ∧ u.link = s.link ∧
        u.loader = s.loader ∧ Apart s u ∧ SlotsKept s u ∧ u.now = max s.now d) ∧
    (s.life.state.takesFrames = false → exec .cycleTimerExpiry s = .next
      { s.atTime d with life := { s.life with cycle := some (d + s.params.cyclePeriod) } })

/-- LISTEN_TIMER_EXPIRY in LISTENING: JOINING, or ACTIVE at once where the station is settled, with an ANNOUNCE
requested; the grant stays 0, or with the raise hold expired and the link good is raised to our share in ACTIVE (R56,
R57, R70, R71). The grant is weighed at the end of the event (log 18). -/
def Obligations.ListenExpiryEntersJoining : Prop :=
  ∀ (d : Time) (s : State), s.restartInput = false → s.life.listen = some d → s.life.state = .listening →
    s.grantCtl.grant = 0 →
    ∃ u, exec .listenTimerExpiry s = .next u ∧
      u.life = { s.life with
        state := (if s.grantCtl.settled then .active else .joining), phase := .none, listen := none
        fallbackAt := none, spentAt := none } ∧
      u.grantCtl = { s.grantCtl with grant :=
        (if s.grantCtl.settled = true ∧ s.grantCtl.raiseHold = .expired ∧ s.link.degraded = false then s.ownShare
        else 0) } ∧
      u.sched.announce = some { retry := (s.sched.announce.getD ⟨0, 0⟩).retry,
                                excess := (s.sched.announce.getD ⟨0, 0⟩).excess } ∧
      u.sched.shed = s.sched.shed ∧ u.sched.leave = s.sched.leave ∧ u.sched.inFlight = s.sched.inFlight ∧
      u.cutOutput = s.cutFlag ∧ u.bus = s.bus ∧ u.roster = s.roster ∧ u.planner = s.planner ∧ u.meter = s.meter ∧
      u.enf = s.enf ∧ u.link = s.link ∧ u.loader = s.loader ∧ Apart s u ∧ u.now = max s.now d

/-- FORGET_TIMER_EXPIRY of an entry: the entry is removed, its number joins the forgotten set once, the overflow flag is
cleared, the others stay but for their confirmed flags, and settling is judged (R37, R40, R50).  Where the event changes
what counts for our digest, every confirmed flag is clear afterwards and the raise hold runs in full; elsewhere both
stand, but for a larger headroom or pool, which restarts the hold (R5, R19, R49, R52).  It speaks of every number, ours
among them.  Only a fault of the storage can give an entry our number; that such a number joins the set too, which R37
says never holds our own, is the model's choice and no rule of the spec (log 43). -/
def Obligations.ForgetExpiryRemovesTheEntry : Prop :=
  ∀ (n : Station) (e : Entry) (d : Time) (s : State), s.restartInput = false → s.life.state.takesFrames = true →
    s.entryOf n = some e → e.forget = some d →
    ∃ u, exec (.forgetTimerExpiry n) s = .next u ∧
      u.entryOf n = none ∧ u.roster.overflow = false ∧ n ∈ u.roster.forgotten ∧
      (∀ m, m ≠ n → (m ∈ u.roster.forgotten ↔ m ∈ s.roster.forgotten)) ∧
      (s.roster.forgotten.Nodup → u.roster.forgotten.Nodup) ∧
      (∀ m x, m ≠ n → s.entryOf m = some x →
        ∃ b, u.entryOf m = some { x with confirmed := b } ∧ (b = true → x.confirmed = true)) ∧
      (∀ m, s.entryOf m = none → u.entryOf m = none) ∧ DigestChangeTaken none s u ∧
      u.grantCtl.settled = u.settledCondition ∧ u.planner.claim = s.planner.claim ∧ u.bus = s.bus ∧
      u.roster.admissionsRefused = s.roster.admissionsRefused ∧ u.roster.shedIgnored = s.roster.shedIgnored ∧
      u.meter = s.meter ∧ u.enf = s.enf ∧ u.link = s.link ∧ u.loader = s.loader ∧ Apart s u ∧ SlotsKept s u ∧
      u.now = max s.now d

/-- RAISE_HOLD_EXPIRY: the timer is expired, and in ACTIVE, settled and with the link good, a grant below our share
becomes the share in one step, with GRANT and a STATUS request; else nothing more changes (R52, R53, R55, R59).
STATUS_SPACING_TIMER_EXPIRY stops the timer, and nothing else changes (R109). -/
def Obligations.RaiseHoldAndSpacingExpiry : Prop :=
  (∀ (d : Time) (s : State), s.restartInput = false → s.grantCtl.raiseHold = .running d →
     let raises := s.life.state = .active ∧ s.grantCtl.settled = true ∧ s.link.degraded = false ∧
       s.grantCtl.grant < s.ownShare
     (¬raises → exec .raiseHoldExpiry s = .next
       { s.atTime d with grantCtl := { s.grantCtl with raiseHold := .expired } }) ∧
     (raises → exec .raiseHoldExpiry s = .next (raiseNote (.grant s.ownShare) { s.atTime d with
         grantCtl := { s.grantCtl with raiseHold := .expired, grant := s.ownShare }
         sched := { s.sched with status := some (s.sched.status.getD ⟨0, 0⟩) } }))) ∧
  (∀ (d : Time) (s : State), s.restartInput = false → s.sched.spacing = some d →
     exec .statusSpacingTimerExpiry s = .next { s.atTime d with sched := { s.sched with spacing := none } })

/-- SHED_HOLD_EXPIRY: D becomes 0, the timer stops, SHED is raised; where D was above 0 a new plan is computed (not in
LOADING or FAULT) and a larger headroom or pool restarts the raise hold; no confirmation is cleared (R63, R64, R176).
That SHED comes before the GRANT of the plan that follows is the model's reading (log 27). -/
def Obligations.ShedHoldExpiryReturnsTheHeadroom : Prop :=
  ∀ (d : Time) (s : State), s.restartInput = false → s.grantCtl.shedHold = some d →
    (s.grantCtl.deficit = 0 → exec .shedHoldExpiry s = .next (raiseNote (.shed 0 false)
      { s.atTime d with grantCtl := { s.grantCtl with shedHold := none } })) ∧
    (s.grantCtl.deficit ≠ 0 → ∃ u, exec .shedHoldExpiry s = .next u ∧
      u.grantCtl.deficit = 0 ∧ u.grantCtl.shedHold = none ∧ u.attention = true ∧
      u.host.queue = (if u.grantCtl.grant = s.grantCtl.grant then enterNote (.shed 0 false) s.host.queue
        else enterNote (.grant u.grantCtl.grant) (enterNote (.shed 0 false) s.host.queue)) ∧
      (s.life.state.plans = true → u.planner = { s.planner with plan := some u.planNow }) ∧
      (s.life.state.plans = false → u.planner = s.planner) ∧
      (∀ p, s.life.state.plans = true → s.planner.plan = some p → p.headroom < u.headroom ∨ p.pool < u.pool →
        u.grantCtl.raiseHold = .running (max s.now d + s.params.raiseHold * Config.sec)) ∧
      u.grantCtl.settled = s.grantCtl.settled ∧ u.roster = s.roster ∧ u.life = s.life ∧ u.bus = s.bus ∧
      u.meter = s.meter ∧ u.enf = s.enf ∧ u.link = s.link ∧ u.loader = s.loader ∧ Apart s u ∧ SlotsKept s u ∧
      u.now = max s.now d)

/-- FALLBACK_DEADLINE in HOLD: FALLBACK with the smaller of F and our effective demand, or SPENT with 0 where that
deadline is reached too; SPENT_DEADLINE in HOLD and FALLBACK: SPENT with 0. In SPENT the FALLBACK deadline has no effect
(R75, R76). -/
def Obligations.IsolationDeadlinesSetThePhase : Prop :=
  (∀ (d e : Time) (s : State), s.restartInput = false → s.life.state = .isolated → s.life.phase = .hold →
    s.life.fallbackAt = some d → s.life.spentAt = some e →
    ∃ u, exec .fallbackDeadline s = .next u ∧
      u.life = { s.life with phase := (if e ≤ max s.now d then .spent else .fallback) } ∧
      u.grantCtl = { s.grantCtl with grant :=
        (if e ≤ max s.now d then 0 else min s.params.fallback s.planner.claim.effectiveDemand) } ∧
      u.bus = s.bus ∧ u.roster = s.roster ∧ u.planner = s.planner ∧ u.meter = s.meter ∧ u.enf = s.enf ∧
      u.link = s.link ∧ u.loader = s.loader ∧ Apart s u ∧ SlotsKept s u ∧ u.now = max s.now d) ∧
  (∀ (e : Time) (s : State), s.restartInput = false → s.life.state = .isolated →
    s.life.phase = .hold ∨ s.life.phase = .fallback → s.life.spentAt = some e →
    ∃ u, exec .spentDeadline s = .next u ∧
      u.life = { s.life with phase := .spent } ∧ u.grantCtl = { s.grantCtl with grant := 0 } ∧
      u.bus = s.bus ∧ u.roster = s.roster ∧ u.planner = s.planner ∧ u.meter = s.meter ∧ u.enf = s.enf ∧
      u.link = s.link ∧ u.loader = s.loader ∧ Apart s u ∧ SlotsKept s u ∧ u.now = max s.now e) ∧
  (∀ (d : Time) (s : State), s.restartInput = false → s.life.phase = .spent → s.life.fallbackAt = some d →
    exec .fallbackDeadline s = .next (s.atTime d))

/-! ### The Meter and the Enforcement Unit -/

/-- FAST_UPDATE that is not also slow: each measured channel changes by T 8-2 (a good value bounded by the sense scale,
log 13), the feeder's only where the station senses it; a faulted load channel ends the trim and makes the watch idle, a
faulted feeder channel makes U absent, and else these stay (R131, R133, R135); the next update is 100 ms on; the slow
figures but for a fault, the station state's own timers and the bus stay (R124, R125, R126). At every update a faulty
reading does so, and a change of either faulted flag enters SENSE, with both flags as they then stand, before whatever
else the update raises; no other update raises it (R127; that it comes first is the model's reading, log 27).
CHANNEL_FAULT_CLEARS: the fourth consecutive good reading of a faulted channel, of the load or of the measured feeder,
clears its fault, with the figure present and settled at once (R127, T 8-2). The row is the update itself (log 4). That
feeder figures and a flag which stand where a fault of the storage has cleared the feeder-sensing bit stay so is the model's
choice (log 45). -/
def Obligations.FastUpdateChangesTheChannels : Prop :=
  (∀ (load feeder : Reading) (d : Time) (s : State), s.restartInput = false → s.meter.update = some d →
     s.meter.updates ≠ 9 →
     let after (scale : Current) (r : Reading) (c : Channel) : Channel :=
       match r with
       | .good v =>
         let h := c.history ++ [min v.toNat scale]
         let h := h.drop (h.length - 10)
         if c.faulted = true ∧ c.goodRun < 3 then { c with goodRun := c.goodRun + 1, history := h }
         else { c with
           faulted := false, goodRun := min 4 (c.goodRun + 1), fast := some (min v.toNat scale)
           fastSettled := c.fastSettled || decide (3 ≤ c.goodRun), history := h }
       | _ => { c with
           faulted := true, goodRun := 0, fast := none, fastSettled := false, history := [], slow := none, slowCount := 0 }
     ∃ u, exec (.fastUpdate load feeder) s = .next u ∧
       u.meter.load = after s.params.loadScale load s.meter.load ∧
       u.meter.feeder =
         (if s.params.feederSensing then after s.params.feederScale feeder s.meter.feeder else s.meter.feeder) ∧
       u.meter.trim = (if u.meter.load.faulted then none else s.meter.trim) ∧
       u.meter.watch = (if u.meter.load.faulted then none else s.meter.watch) ∧
       u.meter.estimate = (if u.meter.feeder.faulted then none else s.meter.estimate) ∧
       u.meter.update = some (d + 100 * Config.msec) ∧ u.meter.updates = s.meter.updates + 1 ∧
       u.roster.overflow = s.roster.overflow ∧ u.roster.forgotten = s.roster.forgotten ∧ u.bus = s.bus ∧
       u.link = s.link ∧ u.loader = s.loader ∧ u.life.listen = s.life.listen ∧ u.life.cycle = s.life.cycle ∧
       u.life.tClean = s.life.tClean ∧ u.life.tAny = s.life.tAny ∧ u.sched.leave = s.sched.leave ∧
       u.sched.announce = s.sched.announce ∧ u.sched.inFlight = s.sched.inFlight ∧
       u.planner.claim.hostDemand = s.planner.claim.hostDemand ∧ Apart s u ∧ u.now = max s.now d) ∧
  (∀ (load feeder : Reading) (d : Time) (s : State), s.restartInput = false → s.meter.update = some d →
     ∃ u, exec (.fastUpdate load feeder) s = .next u ∧
       ((∀ v, load ≠ .good v) → u.meter.load.faulted = true ∧ u.meter.trim = none ∧ u.meter.watch = none) ∧
       (s.params.feederSensing = true → (∀ v, feeder ≠ .good v) →
         u.meter.feeder.faulted = true ∧ u.meter.estimate = none) ∧
       (∃ after : List Notification, (∀ n ∈ after, ∀ l f, n ≠ .sense l f) ∧
         u.host.queue = ((if u.meter.load.faulted = s.meter.load.faulted ∧ u.meter.feeder.faulted = s.meter.feeder.faulted
           then [] else [Notification.sense u.meter.load.faulted u.meter.feeder.faulted]) ++ after).foldl
             (fun q n => enterNote n q) s.host.queue)) ∧
  (∀ (load : Reading) (v : Word16) (d : Time) (s : State), s.restartInput = false → s.meter.update = some d →
     s.params.feederSensing = true → s.meter.feeder.faulted = true → s.meter.feeder.goodRun = 3 →
     ∃ u, exec (.channelFaultClears load (.good v)) s = .next u ∧
       exec (.fastUpdate load (.good v)) s = .next u ∧
       u.meter.feeder.faulted = false ∧ u.meter.feeder.goodRun = 4 ∧
       u.meter.feeder.fast = some (min v.toNat s.params.feederScale) ∧ u.meter.feeder.fastSettled = true ∧
       u.attention = true ∧ u.bus = s.bus ∧ u.link = s.link ∧ u.loader = s.loader ∧ Apart s u ∧
       u.now = max s.now d) ∧
  (∀ (v : Word16) (feeder : Reading) (d : Time) (s : State), s.restartInput = false → s.meter.update = some d →
     s.meter.load.faulted = true → s.meter.load.goodRun = 3 →
     ∃ u, exec (.channelFaultClears (.good v) feeder) s = .next u ∧
       u.meter.load.faulted = false ∧ u.meter.load.goodRun = 4 ∧
       u.meter.load.fast = some (min v.toNat s.params.loadScale) ∧ u.meter.load.fastSettled = true ∧
       u.attention = true ∧ u.bus = s.bus ∧ u.link = s.link ∧ u.loader = s.loader ∧ Apart s u ∧
       u.now = max s.now d)

/-- The overload count at one update of a feeder-sensing station: the feeder figure is the value of a good reading, the
sense scale where it saturated, none where the input was open; above L the count rises by 1, up to 2; else it becomes 0.
On another station it is 0. (What a good reading gives while the channel is faulted, log 12, and that the sense scale
bounds its value, log 13, are the model's readings.) OVERLOAD_BEGINS: the update that brings the count to 2, and every
update that finds it there and leaves it there, applies an excess above D, restarts the shed hold in full and requests a
SHED with the excess where the state takes one; an excess that is not above D applies nothing (R62, R136, R137). The row
is the update itself (log 4). -/
def Obligations.OverloadIsCountedAndItsExcessApplied : Prop :=
  (∀ (load feeder : Reading) (d : Time) (s : State), s.restartInput = false → s.meter.update = some d →
     ∃ u, exec (.fastUpdate load feeder) s = .next u ∧
       (s.params.feederSensing = false → u.meter.overload = 0) ∧
       (s.params.feederSensing = true →
         (∀ v, feeder = .good v → u.meter.overload =
           if s.params.feederLimit < min v.toNat s.params.feederScale then min 2 (s.meter.overload + 1) else 0) ∧
         (feeder = .saturated → u.meter.overload =
           if s.params.feederLimit < s.params.feederScale then min 2 (s.meter.overload + 1) else 0) ∧
         (feeder = .openInput → u.meter.overload = 0))) ∧
  (∀ (load feeder : Reading) (d v : Nat) (s : State), s.restartInput = false → s.meter.update = some d →
     s.overloadFigure feeder = some v → s.params.feederLimit < v → 1 ≤ s.meter.overload →
     ∃ u, exec (.fastUpdate load feeder) s = .next u ∧
       (s.meter.overload = 1 → exec (.overloadBegins load feeder) s = .next u) ∧ u.meter.overload = 2 ∧
       (s.grantCtl.deficit < v - s.params.feederLimit →
         u.grantCtl.deficit = v - s.params.feederLimit ∧
         u.grantCtl.shedHold = some (max s.now d + s.params.shedHold * Config.sec) ∧
         (s.life.state.participates = true → ∃ r, u.sched.shed = some r ∧ v - s.params.feederLimit ≤ r.excess)) ∧
       (v - s.params.feederLimit ≤ s.grantCtl.deficit →
         u.grantCtl.deficit = s.grantCtl.deficit ∧ u.grantCtl.shedHold = s.grantCtl.shedHold ∧
         u.sched.shed = s.sched.shed) ∧
       u.bus = s.bus ∧ u.link = s.link ∧ u.loader = s.loader ∧ u.sched.inFlight = s.sched.inFlight ∧
       Apart s u ∧ u.now = max s.now d)

/-- SLOW_UPDATE: the tenth update of its ten forms the slow figure of each measured channel, of the load and, where the
station senses it, of the feeder: the mean rounded down where ten values stand, with the settled count up by 1, at most 4,
else absent with the count 0 (R128). U is the settled feeder slow figure less our own settled slow figure and the draws
of LIVE entries, never below 0, and absent elsewhere (R134). The row is the update itself (log 4). That feeder figures
which stand where a fault of the storage has cleared the feeder-sensing bit stay so is the model's choice (log 45). -/
def Obligations.SlowUpdateFormsTheFigures : Prop :=
  ∀ (load feeder : Reading) (d : Time) (s : State), s.restartInput = false → s.meter.update = some d →
    s.meter.updates = 9 →
    ∃ u, exec (.slowUpdate load feeder) s = .next u ∧ exec (.fastUpdate load feeder) s = .next u ∧
      u.meter.updates = 0 ∧ u.meter.update = some (d + 100 * Config.msec) ∧
      (u.meter.load.history.length = 10 → u.meter.load.slow = some (u.meter.load.history.sum / 10) ∧
        u.meter.load.slowCount = min 4 (s.meter.load.slowCount + 1)) ∧
      (u.meter.load.history.length ≠ 10 → u.meter.load.slow = none ∧ u.meter.load.slowCount = 0) ∧
      (s.params.feederSensing = true → u.meter.feeder.history.length = 10 →
        u.meter.feeder.slow = some (u.meter.feeder.history.sum / 10) ∧
        u.meter.feeder.slowCount = min 4 (s.meter.feeder.slowCount + 1)) ∧
      (s.params.feederSensing = true → u.meter.feeder.history.length ≠ 10 →
        u.meter.feeder.slow = none ∧ u.meter.feeder.slowCount = 0) ∧
      (s.params.feederSensing = false → u.meter.feeder = s.meter.feeder ∧ u.meter.estimate = none) ∧
      (∀ f, s.params.feederSensing = true → u.meter.feeder.slowCount = 4 → u.meter.feeder.slow = some f →
        u.meter.estimate = some (f - ((if u.meter.load.slowCount = 4 then u.meter.load.slow.getD 0 else 0) +
          ((s.roster.entries.filter (fun e => decide (e.cls = .live))).map (fun e => e.draw.getD 0)).sum))) ∧
      (u.meter.feeder.slowCount ≠ 4 → u.meter.estimate = none) ∧
      u.bus = s.bus ∧ u.link = s.link ∧ u.loader = s.loader ∧ Apart s u ∧ u.now = max s.now d

/-- The trim at a slow update, with the slow figure settled at `v` after it.  On every station a trim ends where v is at
or above T less half the margin, and below that it stands (R133).  On a trimming station that is untrimmed, after that
end too, the watch begins while v plus the margin is below the host demand in CLEAR or OVER, becomes idle where it is
not, and one trim time after it began the trim is made at the larger of min and v plus the margin (R131, R132; the
moments are the nominal times of the updates, log 26).  With no settled figure a trim stands unless the channel faulted,
and the watch becomes idle.  On a station that does not trim no watch begins and no trim is made.  Three clauses go
beyond what the rules say, after a fault of the storage, and are the model's choice: a watch that has run longer than a
trim time since shortened makes its trim at the next slow update (log 49); where the trim enable was cleared a watch that
runs stays as it stands, and where it was set one that stood is judged from the time it recorded (log 44). -/
def Obligations.TrimFollowsTheSlowFigure : Prop :=
  (∀ (v0 : Word16) (feeder : Reading) (d v : Nat) (s : State), s.restartInput = false → s.meter.update = some d →
    s.meter.updates = 9 → s.meter.load.faulted = false →
    ∃ u, exec (.slowUpdate (.good v0) feeder) s = .next u ∧
      (u.meter.load.slowCount = 4 → u.meter.load.slow = some v →
        (∀ x, s.meter.trim = some x → 2 * v + s.params.trimMargin < 2 * x →
          u.meter.trim = some x ∧ u.meter.watch = s.meter.watch) ∧
        (s.params.trimEnable = true →
          let holds := (s.enf.state = .clear ∨ s.enf.state = .over) ∧
            v + s.params.trimMargin < s.planner.claim.hostDemand
          (s.meter.trim = none → ¬holds → u.meter.trim = none ∧ u.meter.watch = none) ∧
          (s.meter.trim = none → holds → s.meter.watch = none → u.meter.trim = none ∧ u.meter.watch = some d) ∧
          (∀ b, s.meter.trim = none → holds → s.meter.watch = some b → d < b + s.params.trimTime * Config.sec →
            u.meter.trim = none ∧ u.meter.watch = some b) ∧
          (∀ b, s.meter.trim = none → holds → s.meter.watch = some b → b + s.params.trimTime * Config.sec ≤ d →
            u.meter.trim = some (max s.planner.claim.min (v + s.params.trimMargin)) ∧ u.meter.watch = none) ∧
          (∀ x, s.meter.trim = some x → 2 * x ≤ 2 * v + s.params.trimMargin → ¬holds →
            u.meter.trim = none ∧ u.meter.watch = none) ∧
          (∀ x, s.meter.trim = some x → 2 * x ≤ 2 * v + s.params.trimMargin → holds → s.meter.watch = none →
            u.meter.trim = none ∧ u.meter.watch = some d)) ∧
        (s.params.trimEnable = false →
          (s.meter.trim = none → u.meter.trim = none ∧ u.meter.watch = s.meter.watch) ∧
          (∀ x, s.meter.trim = some x → 2 * x ≤ 2 * v + s.params.trimMargin →
            u.meter.trim = none ∧ u.meter.watch = s.meter.watch))) ∧
      (u.meter.load.slowCount ≠ 4 →
        u.meter.trim = s.meter.trim ∧
        (s.params.trimEnable = true → s.meter.trim = none → u.meter.watch = none) ∧
        (s.params.trimEnable = false → u.meter.watch = s.meter.watch))) ∧
  (∀ (load feeder : Reading) (d : Time) (s : State), s.restartInput = false → s.meter.update = some d →
    s.params.trimEnable = false → s.meter.trim = none → s.meter.watch = none →
    ∃ u, exec (.fastUpdate load feeder) s = .next u ∧ u.meter.trim = none ∧ u.meter.watch = none)

/-- The load is judged at every update against the grant that stands at its end (T of R141, R129, R143): a present,
settled figure above the grant plus the tolerance enters OVER from CLEAR with the overdraw time in full and keeps OVER,
one at or below ends OVER with the timer stopped; CUT and COOLING stay; an absent figure changes no state and holds the
timers. -/
def Obligations.LoadIsJudgedAgainstTheStandingGrant : Prop :=
  ∀ (load feeder : Reading) (d : Time) (s : State), s.restartInput = false → s.meter.update = some d →
    ∃ u, exec (.fastUpdate load feeder) s = .next u ∧
      (∀ v, u.meter.load.fast = some v → u.meter.load.fastSettled = true →
        (s.enf.state = .clear → u.grantCtl.grant + s.params.tolerance < v →
          u.enf.state = .over ∧ u.enf.overdraw = .running (max s.now d + s.params.overdrawTime * Config.sec) ∧
          u.enf.recovery = s.enf.recovery) ∧
        (s.enf.state = .clear → v ≤ u.grantCtl.grant + s.params.tolerance → u.enf = s.enf) ∧
        (s.enf.state = .over → u.grantCtl.grant + s.params.tolerance < v →
          u.enf = { s.enf with overdraw := s.enf.overdraw.resume (max s.now d)
                               recovery := s.enf.recovery.resume (max s.now d) }) ∧
        (s.enf.state = .over → v ≤ u.grantCtl.grant + s.params.tolerance →
          u.enf = { s.enf with state := .clear, overdraw := .stopped }) ∧
        (s.enf.state = .cut → u.enf = s.enf) ∧
        (s.enf.state = .cooling →
          u.enf = { s.enf with overdraw := s.enf.overdraw.resume (max s.now d)
                               recovery := s.enf.recovery.resume (max s.now d) })) ∧
      ((u.meter.load.fast = none ∨ u.meter.load.fastSettled = false) →
        u.enf = { s.enf with overdraw := s.enf.overdraw.hold (max s.now d)
                             recovery := s.enf.recovery.hold (max s.now d) })

/-- OVERDRAW_TIMER_EXPIRY in OVER: CUT with the output asserted, the timer stopped, the trim and its watch ended, the
effective demand 0; where it was above 0 the serial moves, digest and plan are new, and the grant falls to 0 in ACTIVE
and JOINING; CUT is raised (R142, R144). -/
def Obligations.OverdrawExpiryCuts : Prop :=
  ∀ (d : Time) (s : State), s.restartInput = false → s.enf.overdraw = .running d → s.enf.state = .over →
    ∃ u, exec .overdrawTimerExpiry s = .next u ∧
      u.enf = { s.enf with state := .cut, overdraw := .stopped } ∧ u.cutOutput = true ∧ u.attention = true ∧
      Notification.cut .cut true ∈ u.host.queue ∧
      u.meter = { s.meter with trim := none, watch := none } ∧ u.planner.claim.effectiveDemand = 0 ∧
      u.planner.claim.hostDemand = s.planner.claim.hostDemand ∧
      (s.planner.claim.effectiveDemand = 0 →
        u.planner = s.planner ∧ u.grantCtl = s.grantCtl ∧ u.roster = s.roster ∧ u.sched = s.sched ∧ u.life = s.life) ∧
      (s.planner.claim.effectiveDemand ≠ 0 → s.life.state.plans = true →
        u.planner.claim.serial = s.planner.claim.serial + 1 ∧ u.planner.digest = u.digestNow ∧
        u.planner.plan = some u.planNow ∧
        (s.life.state.participates = true → u.sched.status ≠ none)) ∧
      (s.planner.claim.effectiveDemand ≠ 0 → s.life.state = .active ∨ s.life.state = .joining → RosterLaw s →
        u.grantCtl.grant = 0) ∧
      (s.life.state = .isolated → s.life.phase = .hold ∨ s.life.phase = .fallback →
        s.planner.claim.effectiveDemand ≠ 0 → u.grantCtl.grant = 0) ∧
      u.bus = s.bus ∧ u.link = s.link ∧ u.loader = s.loader ∧ Apart s u ∧ SlotsKept s u ∧ u.now = max s.now d

/-! ### The planner, the digest and the notification queue -/

/-- The division keeps its laws on every pool and every list of claims whose demands are 0 or at least their mins, and
so in every plan: the shares are at most P, which is at most H; every share is 0 or lies between min and demand; the
shares and the remainder add up to exactly P (R13). H is what the standing reserve, Umax and D leave of the feeder limit,
and Umax the largest of our own estimate, on a feeder-sensing station that holds one, and the estimates of LIVE entries,
0 where there is none; on a station that is not feeder-sensing an estimate that the Meter still holds does not count. P is
what the fallback current of each QUIET entry, of either origin, and the reported max of each MISMATCH entry leave of H,
never below 0. -/
def Obligations.DivisionKeepsItsLaws : Prop :=
  (∀ (pool : Current) (claims : List (Station × Fin 4 × Current × Current)),
    let rows := claims.map (fun c => claimRow c.1 c.2.1 c.2.2.1 c.2.2.2)
    ((divide pool rows).1.map Row.share).sum + (divide pool rows).2 = pool ∧
    ((∀ c ∈ claims, c.2.2.2 = 0 ∨ c.2.2.1 ≤ c.2.2.2) → ∀ r ∈ (divide pool rows).1, RowLaw r) ∧
    (divide pool rows).1.map Row.station = claims.map (fun c => c.1)) ∧
  (∀ s : State, ReportLaw s →
    (s.planner.claim.effectiveDemand = 0 ∨ s.planner.claim.min ≤ s.planner.claim.effectiveDemand) →
    (s.planNow.rows.map Row.share).sum ≤ s.planNow.pool ∧ s.planNow.pool ≤ s.planNow.headroom ∧
    (s.planNow.rows.map Row.share).sum + s.planNow.remainder = s.planNow.pool ∧ ∀ r ∈ s.planNow.rows, RowLaw r) ∧
  (∀ s : State,
    s.planNow.headroom = s.params.feederLimit - s.params.reserve - s.planNow.umax - s.grantCtl.deficit ∧
    s.planNow.pool = s.planNow.headroom -
      ((s.roster.entries.filter (fun e => decide (e.cls = .quiet))).length * s.params.fallback +
        (s.roster.entries.filterMap (fun e => match e.cls, e.origin with
          | .mismatch, .heard r => some r.max
          | _, _ => none)).sum) ∧
    (s.params.feederSensing = true → ∀ v, s.meter.estimate = some v → v ≤ s.planNow.umax) ∧
    (∀ e ∈ s.roster.entries, e.cls = .live → ∀ v, e.estimate = some v → v ≤ s.planNow.umax) ∧
    (s.planNow.umax = 0 ∨ (s.params.feederSensing = true ∧ s.meter.estimate = some s.planNow.umax) ∨
      ∃ e ∈ s.roster.entries, e.cls = .live ∧ e.estimate = some s.planNow.umax))

/-- The rows of a plan are our own and one for each LIVE entry, in claimant order: priority 3 first, within one priority
in ascending station number (R7, R8). The outcomes of a division: IDLE exactly where the demand is 0, FULL only with the
share at the demand, PARTIAL only below it, PARKED only with share 0; and a remainder is left only when every claimant
that was not parked is FULL (R12). The floor walk: a claimant is PARKED exactly when its min exceeds what the mins of the
claimants before it that were not parked have left of P (R9). The fill is even: of two claimants that were not parked, in
claimant order, a first one that is not filled has gained at least as much beyond its min as the second, and a second one
that is not filled has gained at most one unit less than the first (R10, R11). -/
def Obligations.PlanRowsStandInOrderWithTheirOutcomes : Prop :=
  (∀ s : State, RosterLaw s →
     s.planNow.rows.Pairwise (fun a b => b.priority < a.priority ∨ (a.priority = b.priority ∧ a.station < b.station)) ∧
     (∀ n, n ∈ s.planNow.rows.map Row.station ↔
       n = s.ownStation ∨ ∃ e ∈ s.roster.entries, e.station = n ∧ e.cls = .live) ∧
     s.planNow.rows.length ≤ 25) ∧
  (∀ (pool : Current) (claims : List (Station × Fin 4 × Current × Current)),
     (∀ c ∈ claims, c.2.2.2 = 0 ∨ c.2.2.1 ≤ c.2.2.2) →
     let rows := claims.map (fun c => claimRow c.1 c.2.1 c.2.2.1 c.2.2.2)
     (∀ r ∈ (divide pool rows).1, (r.outcome = .idle ↔ r.demand = 0) ∧ (r.outcome = .full → r.share = r.demand) ∧
       (r.outcome = .partly → r.share < r.demand) ∧ (r.outcome = .parked → r.share = 0)) ∧
     (0 < (divide pool rows).2 → ∀ r ∈ (divide pool rows).1, r.outcome ≠ .partly) ∧
     (∀ front r back, (divide pool rows).1 = front ++ r :: back → r.demand ≠ 0 →
       (r.outcome = .parked ↔
         pool < ((front.filter (fun x => decide (x.demand ≠ 0 ∧ x.outcome ≠ .parked))).map Row.min).sum + r.min)) ∧
     (∀ front a mid b back, (divide pool rows).1 = front ++ a :: (mid ++ b :: back) →
       a.demand ≠ 0 → b.demand ≠ 0 → a.outcome ≠ .parked → b.outcome ≠ .parked →
       (a.outcome = .partly → b.share - b.min ≤ a.share - a.min) ∧
       (b.outcome = .partly → a.share - a.min ≤ (b.share - b.min) + 1)))

/-- A notification enters the queue by its kind: in place, at the tail, or at the tail with the oldest gone, counted and
the lost flag set; the queue keeps at most 8, at most one of each kind; ATTENTION is asserted (R176, R178). -/
def Obligations.NotificationsEnterByTheirKind : Prop :=
  ∀ (n : Notification) (s : State), QueueLaw s →
    let u := raiseNote n s
    (∀ front m rest, s.host.queue = front ++ m :: rest → m.kindCode = n.kindCode →
      u.host = { s.host with queue := front ++ n :: rest }) ∧
    ((∀ m ∈ s.host.queue, m.kindCode ≠ n.kindCode) → s.host.queue.length < 8 →
      u.host = { s.host with queue := s.host.queue ++ [n] }) ∧
    (∀ m rest, (∀ x ∈ s.host.queue, x.kindCode ≠ n.kindCode) → s.host.queue.length = 8 → s.host.queue = m :: rest →
      u.host = { s.host with queue := rest ++ [n], lostFlag := true, notesLost := bump s.host.notesLost }) ∧
    QueueLaw u ∧ u.attention = true

/-! ### Frames and their bytes -/

/-- Judging the bytes of a frame whose values are in range gives back that frame, every field at every value that the
layout admits (R90, R91, R96). -/
def Obligations.FramesAreReadBackFromTheirBytes : Prop :=
  ∀ f : Frame, f.inRange = true → judgeFrame f.bytes = some (.inl f)

/-! ### What every step keeps -/

/-- The laws of the device hold in the state right after reset. The claim fields at reset are the model's (log 19). -/
def Obligations.LawsHoldAtReset : Prop :=
  let s := State.reset
  CutLaw s ∧ AttentionLaw s ∧ QueueLaw s ∧ CounterLaw s ∧ RosterLaw s ∧ ReportLaw s ∧
  ForgottenLaw s ∧ DemandLaw s ∧ SettledLaw s ∧
  PhaseLaw s ∧ ZeroGrantLaw s ∧ ShareLaw s ∧ RequestLaw s ∧ AttemptLaw s ∧ IsolationLaw s ∧ WindowLaw s ∧ PlanLaw s ∧
  StageLaw s ∧ LoadingLaw s ∧ ClaimLaw s ∧ OwnShareLaw s ∧ GrantLaw s ∧ FreshLaw s ∧ HeldLaw s ∧ LineLaw s

/-- Every step keeps: the CUT output is asserted exactly in LOADING and FAULT, CUT and COOLING; ATTENTION exactly while
the queue holds a notification; the queue at most 8, one of each kind (R147, R176, R178). Every step keeps the values of
LOADING and of an asserted RESTART input (R151, R161). -/
def Obligations.StepKeepsOutputsQueueAndLoading : Prop :=
  (∀ s u : State, CutLaw s → AttentionLaw s → QueueLaw s → step s = .next u → CutLaw u ∧ AttentionLaw u ∧ QueueLaw u) ∧
  (∀ s u : State, LoadingLaw s → HeldLaw s → step s = .next u → LoadingLaw u ∧ HeldLaw u)

/-- Every step keeps the roster: at most 24 entries, in ascending number, none our own, each of a kind of T 2-2; every
claim it holds in the ranges that a frame must meet; the forgotten set without a number twice and without ours (R23,
R24, R37, R96). A fault of the storage, which may change our number under the roster, is left out of what speaks of that
number (R160, log 14). -/
def Obligations.StepKeepsTheRoster : Prop :=
  ∀ s u : State, LoadingLaw s → RosterLaw s → ReportLaw s → ForgottenLaw s → step s = .next u →
    ReportLaw u ∧ (StorageKept s → RosterLaw u ∧ ForgottenLaw u)

/-- Every step keeps the laws of the grant by station state: the phase is NONE exactly outside ISOLATED, the grant 0 in
the states of R84, and in ACTIVE and JOINING never above our share in the current plan (R60, R66, R84). A fault of the
storage, which may change the number under which our row is read, is left out of the last (R160, log 14). A step after which
the grant is larger, from any state, ends in ACTIVE with the raise hold expired, with the settled flag set and DEGRADED
clear before or after the event (log 18); or it clears DEGRADED, with the other parts of the permission standing before it,
and what follows the raise in the same event may restart the hold or leave ACTIVE (log 7); or it ends in the phase FALLBACK
with a grant of at most F (R53, R55, R60, R75). -/
def Obligations.StepKeepsTheGrantWithinItsState : Prop :=
  (∀ s u : State, PhaseLaw s → ZeroGrantLaw s → ShareLaw s → step s = .next u →
     PhaseLaw u ∧ ZeroGrantLaw u ∧ (StorageKept s → ShareLaw u)) ∧
  (∀ s u : State, step s = .next u → s.grantCtl.grant < u.grantCtl.grant →
     (u.life.state = .active ∧ u.grantCtl.raiseHold = .expired ∧
       (s.grantCtl.settled = true ∨ u.grantCtl.settled = true) ∧ (s.link.degraded = false ∨ u.link.degraded = false)) ∨
     (s.life.state = .active ∧ s.grantCtl.raiseHold = .expired ∧ s.grantCtl.settled = true ∧
       s.link.degraded = true ∧ u.link.degraded = false) ∨
     (u.life.state = .isolated ∧ u.life.phase = .fallback ∧ u.grantCtl.grant ≤ s.params.fallback))

/-- Every step keeps the grant at or below our effective demand, with the invariants it rests on (R2, R13, R60). A fault
of the storage, which may change our min and max and our number, is left out of the laws of the claim and of our share
(R160, log 14). -/
def Obligations.StepKeepsTheGrantWithinTheDemand : Prop :=
  ∀ s u : State, LoadingLaw s → RosterLaw s → PhaseLaw s → ZeroGrantLaw s → ShareLaw s → PlanLaw s → DemandLaw s →
    ClaimLaw s → OwnShareLaw s → GrantLaw s → step s = .next u →
    DemandLaw u ∧ GrantLaw u ∧ (StorageKept s → ClaimLaw u ∧ OwnShareLaw u)

/-- Every step but a fault of the storage keeps the digest and the plan those of the elements and inputs as they stand,
wherever plans are computed (R14, R15, R16, R19). That fault changes inputs without any event to mark it, so that the plan
that stands is not computed again (R160); it is an operand of the model (log 14). The digest of the elements as they stand is
the CRC-16 over one element for our own station and one for each entry, in ascending station number: the number, the code of
the class, and the claim serial of a LIVE entry and of our own claim, 0 for QUIET and MISMATCH (R18, T 1-5). -/
def Obligations.StepKeepsDigestAndPlanFresh : Prop :=
  (∀ s u : State, LoadingLaw s → RosterLaw s → FreshLaw s → StorageKept s → step s = .next u → FreshLaw u) ∧
  (∀ s : State, RosterLaw s →
     ∃ elements : List (Station × List Byte), elements.Pairwise (fun a b => a.1 < b.1) ∧
       (∀ x, x ∈ elements ↔
         x = (s.ownStation, [BitVec.ofNat 8 s.ownStation.val, 1#8, s.planner.claim.serial]) ∨
         ∃ e ∈ s.roster.entries, x = (e.station, BitVec.ofNat 8 e.station.val :: (match e.cls, e.origin with
           | .live, .heard r => [1#8, r.serial]
           | .live, .hearsay => [1#8, 0#8]
           | .quiet, _ => [2#8, 0#8]
           | .mismatch, _ => [3#8, 0#8]))) ∧
       s.digestNow = crc16 (elements.map (fun x => x.2)).flatten)

/-- Every step keeps the settled flag equal to its condition in every state but LOADING and FAULT (R50). Every step
keeps the request list: a request only where the state keeps its kind, with at most 3 retries; an attempt in flight
exactly while one is on the line; the isolation count at most 5 (R72, R104, R105, R111, R114). -/
def Obligations.StepKeepsSettledFlagAndRequestList : Prop :=
  (∀ s u : State, SettledLaw s → step s = .next u → SettledLaw u) ∧
  (∀ s u : State, RequestLaw s → AttemptLaw s → IsolationLaw s → step s = .next u →
     RequestLaw u ∧ AttemptLaw u ∧ IsolationLaw u)

/-- Every step keeps the counters at 65535 or below, the damaged count within the window's events, the sums of a
standing plan, the empty table in LOADING and FAULT, and the loader stage with the station state: HELD with a held copy
and a network digest in every state but LOADING, where there is neither, and FAULT (00_scope, R13, R14, R116, T 10-3). Every
step keeps the line: idle only with a recessive count of 10 or more, outside a frame, with no assembly and no attempt of
ours (R88, R92, R100). -/
def Obligations.StepKeepsCountersWindowPlanAndStage : Prop :=
  (∀ s u : State, CounterLaw s → WindowLaw s → PlanLaw s → StageLaw s → step s = .next u →
     CounterLaw u ∧ WindowLaw u ∧ PlanLaw u ∧ StageLaw u) ∧
  (∀ s u : State, LineLaw s → step s = .next u → LineLaw u)

end
end

