-- ==== Sys2Proof/Laws/State.lean ====
section
/-! SUPPORT. What each plain update of the state leaves as it was, and what it writes: true by rfl. -/

namespace Sys2Proof.Machine

/-- Time passing moves the clock alone. -/
@[simp] theorem State.atTime_frame (s : State) (t : Time) :
    (s.atTime t).pending = s.pending ∧ (s.atTime t).restartInput = s.restartInput ∧
    (s.atTime t).cutOutput = s.cutOutput ∧ (s.atTime t).attention = s.attention ∧ (s.atTime t).bus = s.bus ∧
    (s.atTime t).sched = s.sched ∧ (s.atTime t).roster = s.roster ∧ (s.atTime t).planner = s.planner ∧
    (s.atTime t).grantCtl = s.grantCtl ∧ (s.atTime t).life = s.life ∧ (s.atTime t).meter = s.meter ∧
    (s.atTime t).enf = s.enf ∧ (s.atTime t).link = s.link ∧ (s.atTime t).loader = s.loader ∧
    (s.atTime t).host = s.host := by
  repeat (first | exact rfl | refine ⟨rfl, ?_⟩)

/-- A notification touches ATTENTION and the queue alone. -/
@[simp] theorem raiseNote_frame (n : Notification) (s : State) :
    (raiseNote n s).now = s.now ∧ (raiseNote n s).pending = s.pending ∧
    (raiseNote n s).restartInput = s.restartInput ∧ (raiseNote n s).cutOutput = s.cutOutput ∧
    (raiseNote n s).bus = s.bus ∧ (raiseNote n s).sched = s.sched ∧ (raiseNote n s).roster = s.roster ∧
    (raiseNote n s).planner = s.planner ∧ (raiseNote n s).grantCtl = s.grantCtl ∧ (raiseNote n s).life = s.life ∧
    (raiseNote n s).meter = s.meter ∧ (raiseNote n s).enf = s.enf ∧ (raiseNote n s).link = s.link ∧
    (raiseNote n s).loader = s.loader ∧ (raiseNote n s).host.rx = s.host.rx ∧
    (raiseNote n s).host.gap = s.host.gap ∧ (raiseNote n s).host.inProgress = s.host.inProgress ∧
    (raiseNote n s).host.waiting = s.host.waiting ∧ (raiseNote n s).host.overrun = s.host.overrun ∧
    (raiseNote n s).host.framesDiscarded = s.host.framesDiscarded := by
  repeat (first | exact rfl | refine ⟨rfl, ?_⟩)

/-- Driving the CUT output touches it alone. -/
@[simp] theorem driveCut_frame (s : State) :
    (driveCut s).now = s.now ∧ (driveCut s).pending = s.pending ∧ (driveCut s).restartInput = s.restartInput ∧
    (driveCut s).attention = s.attention ∧ (driveCut s).bus = s.bus ∧ (driveCut s).sched = s.sched ∧
    (driveCut s).roster = s.roster ∧ (driveCut s).planner = s.planner ∧ (driveCut s).grantCtl = s.grantCtl ∧
    (driveCut s).life = s.life ∧ (driveCut s).meter = s.meter ∧ (driveCut s).enf = s.enf ∧
    (driveCut s).link = s.link ∧ (driveCut s).loader = s.loader ∧ (driveCut s).host = s.host := by
  repeat (first | exact rfl | refine ⟨rfl, ?_⟩)

/-- The enforcement state and the CUT output move together, and alone. -/
@[simp] theorem setEnf_frame (e : EnfState) (s : State) :
    (setEnf e s).now = s.now ∧ (setEnf e s).pending = s.pending ∧ (setEnf e s).restartInput = s.restartInput ∧
    (setEnf e s).attention = s.attention ∧ (setEnf e s).bus = s.bus ∧ (setEnf e s).sched = s.sched ∧
    (setEnf e s).roster = s.roster ∧ (setEnf e s).planner = s.planner ∧ (setEnf e s).grantCtl = s.grantCtl ∧
    (setEnf e s).life = s.life ∧ (setEnf e s).meter = s.meter ∧ (setEnf e s).enf.overdraw = s.enf.overdraw ∧
    (setEnf e s).enf.recovery = s.enf.recovery ∧ (setEnf e s).link = s.link ∧ (setEnf e s).loader = s.loader ∧
    (setEnf e s).host = s.host := by
  repeat (first | exact rfl | refine ⟨rfl, ?_⟩)

/-- The CUT notification touches ATTENTION and the queue alone. -/
@[simp] theorem noteCut_frame (s : State) :
    (noteCut s).now = s.now ∧ (noteCut s).pending = s.pending ∧ (noteCut s).restartInput = s.restartInput ∧
    (noteCut s).cutOutput = s.cutOutput ∧ (noteCut s).bus = s.bus ∧ (noteCut s).sched = s.sched ∧
    (noteCut s).roster = s.roster ∧ (noteCut s).planner = s.planner ∧ (noteCut s).grantCtl = s.grantCtl ∧
    (noteCut s).life = s.life ∧ (noteCut s).meter = s.meter ∧ (noteCut s).enf = s.enf ∧ (noteCut s).link = s.link ∧
    (noteCut s).loader = s.loader ∧ (noteCut s).host.rx = s.host.rx ∧ (noteCut s).host.gap = s.host.gap ∧
    (noteCut s).host.inProgress = s.host.inProgress ∧ (noteCut s).host.waiting = s.host.waiting ∧
    (noteCut s).host.overrun = s.host.overrun ∧ (noteCut s).host.framesDiscarded = s.host.framesDiscarded := by
  repeat (first | exact rfl | refine ⟨rfl, ?_⟩)

/-- Emptying the list touches the slots and the spacing timer alone. -/
@[simp] theorem emptyRequests_frame (s : State) :
    (emptyRequests s).now = s.now ∧ (emptyRequests s).pending = s.pending ∧
    (emptyRequests s).restartInput = s.restartInput ∧ (emptyRequests s).cutOutput = s.cutOutput ∧
    (emptyRequests s).attention = s.attention ∧ (emptyRequests s).bus = s.bus ∧
    (emptyRequests s).sched.inFlight = s.sched.inFlight ∧
    (emptyRequests s).sched.isolationCount = s.sched.isolationCount ∧
    (emptyRequests s).sched.requestsDropped = s.sched.requestsDropped ∧ (emptyRequests s).roster = s.roster ∧
    (emptyRequests s).planner = s.planner ∧ (emptyRequests s).grantCtl = s.grantCtl ∧
    (emptyRequests s).life = s.life ∧ (emptyRequests s).meter = s.meter ∧ (emptyRequests s).enf = s.enf ∧
    (emptyRequests s).link = s.link ∧ (emptyRequests s).loader = s.loader ∧ (emptyRequests s).host = s.host := by
  repeat (first | exact rfl | refine ⟨rfl, ?_⟩)

/-- The two claims alone are cancelled. -/
@[simp] theorem cancelClaims_frame (s : State) :
    (cancelClaims s).now = s.now ∧ (cancelClaims s).pending = s.pending ∧
    (cancelClaims s).restartInput = s.restartInput ∧ (cancelClaims s).cutOutput = s.cutOutput ∧
    (cancelClaims s).attention = s.attention ∧ (cancelClaims s).bus = s.bus ∧
    (cancelClaims s).sched.shed = s.sched.shed ∧ (cancelClaims s).sched.leave = s.sched.leave ∧
    (cancelClaims s).sched.inFlight = s.sched.inFlight ∧ (cancelClaims s).sched.spacing = s.sched.spacing ∧
    (cancelClaims s).sched.isolationCount = s.sched.isolationCount ∧
    (cancelClaims s).sched.requestsDropped = s.sched.requestsDropped ∧ (cancelClaims s).roster = s.roster ∧
    (cancelClaims s).planner = s.planner ∧ (cancelClaims s).grantCtl = s.grantCtl ∧ (cancelClaims s).life = s.life ∧
    (cancelClaims s).meter = s.meter ∧ (cancelClaims s).enf = s.enf ∧ (cancelClaims s).link = s.link ∧
    (cancelClaims s).loader = s.loader ∧ (cancelClaims s).host = s.host := by
  repeat (first | exact rfl | refine ⟨rfl, ?_⟩)

/-- The receive side alone falls silent. -/
@[simp] theorem silenceBus_frame (s : State) :
    (silenceBus s).now = s.now ∧ (silenceBus s).pending = s.pending ∧ (silenceBus s).restartInput = s.restartInput ∧
    (silenceBus s).cutOutput = s.cutOutput ∧ (silenceBus s).attention = s.attention ∧
    (silenceBus s).bus.recessive = s.bus.recessive ∧ (silenceBus s).bus.endLeft = s.bus.endLeft ∧
    (silenceBus s).bus.idle = s.bus.idle ∧
    (silenceBus s).bus.attempt = s.bus.attempt ∧ (silenceBus s).bus.framesSent = s.bus.framesSent ∧
    (silenceBus s).bus.lost = s.bus.lost ∧ (silenceBus s).bus.aborted = s.bus.aborted ∧
    (silenceBus s).bus.partly = s.bus.partly ∧ (silenceBus s).bus.unheard = s.bus.unheard ∧
    (silenceBus s).bus.validReceived = s.bus.validReceived ∧
    (silenceBus s).bus.damagedReceived = s.bus.damagedReceived ∧ (silenceBus s).sched = s.sched ∧
    (silenceBus s).roster = s.roster ∧ (silenceBus s).planner = s.planner ∧ (silenceBus s).grantCtl = s.grantCtl ∧
    (silenceBus s).life = s.life ∧ (silenceBus s).meter = s.meter ∧ (silenceBus s).enf = s.enf ∧
    (silenceBus s).link = s.link ∧ (silenceBus s).loader = s.loader ∧ (silenceBus s).host = s.host := by
  repeat (first | exact rfl | refine ⟨rfl, ?_⟩)

/-- Line state and assembly alone are begun afresh. -/
@[simp] theorem resetLine_frame (s : State) :
    (resetLine s).now = s.now ∧ (resetLine s).pending = s.pending ∧ (resetLine s).restartInput = s.restartInput ∧
    (resetLine s).cutOutput = s.cutOutput ∧ (resetLine s).attention = s.attention ∧
    (resetLine s).bus.attempt = s.bus.attempt ∧ (resetLine s).bus.trailer = s.bus.trailer ∧
    (resetLine s).bus.framesSent = s.bus.framesSent ∧ (resetLine s).bus.lost = s.bus.lost ∧
    (resetLine s).bus.aborted = s.bus.aborted ∧ (resetLine s).bus.partly = s.bus.partly ∧
    (resetLine s).bus.unheard = s.bus.unheard ∧ (resetLine s).bus.validReceived = s.bus.validReceived ∧
    (resetLine s).bus.damagedReceived = s.bus.damagedReceived ∧ (resetLine s).sched = s.sched ∧
    (resetLine s).roster = s.roster ∧ (resetLine s).planner = s.planner ∧ (resetLine s).grantCtl = s.grantCtl ∧
    (resetLine s).life = s.life ∧ (resetLine s).meter = s.meter ∧ (resetLine s).enf = s.enf ∧
    (resetLine s).link = s.link ∧ (resetLine s).loader = s.loader ∧ (resetLine s).host = s.host := by
  repeat (first | exact rfl | refine ⟨rfl, ?_⟩)

/-- The digest alone is recomputed. -/
@[simp] theorem recomputeDigest_frame (s : State) :
    (recomputeDigest s).now = s.now ∧ (recomputeDigest s).pending = s.pending ∧
    (recomputeDigest s).restartInput = s.restartInput ∧ (recomputeDigest s).cutOutput = s.cutOutput ∧
    (recomputeDigest s).attention = s.attention ∧ (recomputeDigest s).bus = s.bus ∧
    (recomputeDigest s).sched = s.sched ∧ (recomputeDigest s).roster = s.roster ∧
    (recomputeDigest s).planner.claim = s.planner.claim ∧ (recomputeDigest s).planner.plan = s.planner.plan ∧
    (recomputeDigest s).grantCtl = s.grantCtl ∧ (recomputeDigest s).life = s.life ∧
    (recomputeDigest s).meter = s.meter ∧ (recomputeDigest s).enf = s.enf ∧ (recomputeDigest s).link = s.link ∧
    (recomputeDigest s).loader = s.loader ∧ (recomputeDigest s).host = s.host := by
  repeat (first | exact rfl | refine ⟨rfl, ?_⟩)

/-- The plan table alone is replaced. -/
@[simp] theorem replacePlan_frame (s : State) :
    (replacePlan s).now = s.now ∧ (replacePlan s).pending = s.pending ∧
    (replacePlan s).restartInput = s.restartInput ∧ (replacePlan s).cutOutput = s.cutOutput ∧
    (replacePlan s).attention = s.attention ∧ (replacePlan s).bus = s.bus ∧ (replacePlan s).sched = s.sched ∧
    (replacePlan s).roster = s.roster ∧ (replacePlan s).planner.claim = s.planner.claim ∧
    (replacePlan s).planner.digest = s.planner.digest ∧ (replacePlan s).grantCtl = s.grantCtl ∧
    (replacePlan s).life = s.life ∧ (replacePlan s).meter = s.meter ∧ (replacePlan s).enf = s.enf ∧
    (replacePlan s).link = s.link ∧ (replacePlan s).loader = s.loader ∧ (replacePlan s).host = s.host := by
  repeat (first | exact rfl | refine ⟨rfl, ?_⟩)

/-- The raise hold alone is restarted. -/
@[simp] theorem restartRaiseHold_frame (s : State) :
    (restartRaiseHold s).now = s.now ∧ (restartRaiseHold s).pending = s.pending ∧
    (restartRaiseHold s).restartInput = s.restartInput ∧ (restartRaiseHold s).cutOutput = s.cutOutput ∧
    (restartRaiseHold s).attention = s.attention ∧ (restartRaiseHold s).bus = s.bus ∧
    (restartRaiseHold s).sched = s.sched ∧ (restartRaiseHold s).roster = s.roster ∧
    (restartRaiseHold s).planner = s.planner ∧ (restartRaiseHold s).grantCtl.grant = s.grantCtl.grant ∧
    (restartRaiseHold s).grantCtl.settled = s.grantCtl.settled ∧
    (restartRaiseHold s).grantCtl.deficit = s.grantCtl.deficit ∧
    (restartRaiseHold s).grantCtl.shedHold = s.grantCtl.shedHold ∧ (restartRaiseHold s).life = s.life ∧
    (restartRaiseHold s).meter = s.meter ∧ (restartRaiseHold s).enf = s.enf ∧ (restartRaiseHold s).link = s.link ∧
    (restartRaiseHold s).loader = s.loader ∧ (restartRaiseHold s).host = s.host := by
  repeat (first | exact rfl | refine ⟨rfl, ?_⟩)

/-- The entries alone are touched. -/
@[simp] theorem clearConfirmations_frame (s : State) :
    (clearConfirmations s).now = s.now ∧ (clearConfirmations s).pending = s.pending ∧
    (clearConfirmations s).restartInput = s.restartInput ∧ (clearConfirmations s).cutOutput = s.cutOutput ∧
    (clearConfirmations s).attention = s.attention ∧ (clearConfirmations s).bus = s.bus ∧
    (clearConfirmations s).sched = s.sched ∧ (clearConfirmations s).roster.overflow = s.roster.overflow ∧
    (clearConfirmations s).roster.forgotten = s.roster.forgotten ∧
    (clearConfirmations s).roster.admissionsRefused = s.roster.admissionsRefused ∧
    (clearConfirmations s).roster.shedIgnored = s.roster.shedIgnored ∧ (clearConfirmations s).planner = s.planner ∧
    (clearConfirmations s).grantCtl = s.grantCtl ∧ (clearConfirmations s).life = s.life ∧
    (clearConfirmations s).meter = s.meter ∧ (clearConfirmations s).enf = s.enf ∧
    (clearConfirmations s).link = s.link ∧ (clearConfirmations s).loader = s.loader ∧
    (clearConfirmations s).host = s.host := by
  repeat (first | exact rfl | refine ⟨rfl, ?_⟩)

/-- The entries alone are touched. -/
@[simp] theorem holdRoster_frame (s : State) :
    (holdRoster s).now = s.now ∧ (holdRoster s).pending = s.pending ∧ (holdRoster s).restartInput = s.restartInput ∧
    (holdRoster s).cutOutput = s.cutOutput ∧ (holdRoster s).attention = s.attention ∧ (holdRoster s).bus = s.bus ∧
    (holdRoster s).sched = s.sched ∧ (holdRoster s).roster.overflow = s.roster.overflow ∧
    (holdRoster s).roster.forgotten = s.roster.forgotten ∧
    (holdRoster s).roster.admissionsRefused = s.roster.admissionsRefused ∧
    (holdRoster s).roster.shedIgnored = s.roster.shedIgnored ∧ (holdRoster s).planner = s.planner ∧
    (holdRoster s).grantCtl = s.grantCtl ∧ (holdRoster s).life = s.life ∧ (holdRoster s).meter = s.meter ∧
    (holdRoster s).enf = s.enf ∧ (holdRoster s).link = s.link ∧ (holdRoster s).loader = s.loader ∧
    (holdRoster s).host = s.host := by
  repeat (first | exact rfl | refine ⟨rfl, ?_⟩)

/-- The two timers alone are held. -/
@[simp] theorem holdEnforcement_frame (s : State) :
    (holdEnforcement s).now = s.now ∧ (holdEnforcement s).pending = s.pending ∧
    (holdEnforcement s).restartInput = s.restartInput ∧ (holdEnforcement s).cutOutput = s.cutOutput ∧
    (holdEnforcement s).attention = s.attention ∧ (holdEnforcement s).bus = s.bus ∧
    (holdEnforcement s).sched = s.sched ∧ (holdEnforcement s).roster = s.roster ∧
    (holdEnforcement s).planner = s.planner ∧ (holdEnforcement s).grantCtl = s.grantCtl ∧
    (holdEnforcement s).life = s.life ∧ (holdEnforcement s).meter = s.meter ∧
    (holdEnforcement s).enf.state = s.enf.state ∧ (holdEnforcement s).link = s.link ∧
    (holdEnforcement s).loader = s.loader ∧ (holdEnforcement s).host = s.host := by
  repeat (first | exact rfl | refine ⟨rfl, ?_⟩)

/-! ### What the updates write -/

@[simp] theorem State.atTime_now (s : State) (t : Time) : (s.atTime t).now = max s.now t := rfl

@[simp] theorem raiseNote_attention (n : Notification) (s : State) : (raiseNote n s).attention = true := rfl

@[simp] theorem raiseNote_queue (n : Notification) (s : State) :
    (raiseNote n s).host.queue = enterNote n s.host.queue := rfl

@[simp] theorem driveCut_cutOutput (s : State) : (driveCut s).cutOutput = s.cutCondition := rfl

@[simp] theorem setEnf_state (e : EnfState) (s : State) : (setEnf e s).enf.state = e := rfl

@[simp] theorem noteCut_attention (s : State) : (noteCut s).attention = true := rfl

@[simp] theorem noteCut_queue (s : State) :
    (noteCut s).host.queue = enterNote (.cut s.enf.state s.cutOutput) s.host.queue := rfl

@[simp] theorem emptyRequests_slots (s : State) :
    (emptyRequests s).sched.shed = none ∧ (emptyRequests s).sched.leave = none ∧
    (emptyRequests s).sched.announce = none ∧ (emptyRequests s).sched.status = none ∧
    (emptyRequests s).sched.spacing = none := ⟨rfl, rfl, rfl, rfl, rfl⟩

@[simp] theorem cancelClaims_slots (s : State) :
    (cancelClaims s).sched.announce = none ∧ (cancelClaims s).sched.status = none := ⟨rfl, rfl⟩

@[simp] theorem silenceBus_bus (s : State) :
    (silenceBus s).bus.assembly = .empty ∧ (silenceBus s).bus.trailer = .neither := ⟨rfl, rfl⟩

@[simp] theorem resetLine_bus (s : State) :
    (resetLine s).bus.recessive = 0 ∧ (resetLine s).bus.idle = false ∧ (resetLine s).bus.endLeft = 0 ∧
    (resetLine s).bus.assembly = .empty := ⟨rfl, rfl, rfl, rfl⟩

@[simp] theorem recomputeDigest_digest (s : State) : (recomputeDigest s).planner.digest = s.digestNow := rfl

@[simp] theorem replacePlan_plan (s : State) : (replacePlan s).planner.plan = some s.planNow := rfl

@[simp] theorem restartRaiseHold_raiseHold (s : State) :
    (restartRaiseHold s).grantCtl.raiseHold = .running (s.now + s.params.raiseHold * Config.sec) := rfl

@[simp] theorem clearConfirmations_entries (s : State) :
    (clearConfirmations s).roster.entries = s.roster.entries.map (fun e => { e with confirmed := false }) := rfl

@[simp] theorem holdRoster_entries (s : State) :
    (holdRoster s).roster.entries = s.roster.entries.map (fun e => { e with forget := none }) := rfl

@[simp] theorem holdEnforcement_timers (s : State) :
    (holdEnforcement s).enf.overdraw = s.enf.overdraw.hold s.now ∧
    (holdEnforcement s).enf.recovery = s.enf.recovery.hold s.now := ⟨rfl, rfl⟩

end Sys2Proof.Machine
end

