-- ==== Sys2Proof/Laws/Frames.lean ====
section
/-! SUPPORT. What each shared operation of the Grant and Lifecycle Controllers leaves as it was. -/

namespace Sys2Proof.Machine

/-- The station state, the phase, the CUT output and the queue alone change. -/
@[simp] theorem setStation_frame (st : StationState) (ph : Phase) (s : State) :
    (setStation st ph s).now = s.now ∧ (setStation st ph s).pending = s.pending ∧
    (setStation st ph s).restartInput = s.restartInput ∧ (setStation st ph s).bus = s.bus ∧
    (setStation st ph s).sched = s.sched ∧ (setStation st ph s).roster = s.roster ∧
    (setStation st ph s).planner = s.planner ∧ (setStation st ph s).grantCtl = s.grantCtl ∧
    (setStation st ph s).life.listen = s.life.listen ∧ (setStation st ph s).life.cycle = s.life.cycle ∧
    (setStation st ph s).life.tClean = s.life.tClean ∧ (setStation st ph s).life.tAny = s.life.tAny ∧
    (setStation st ph s).life.fallbackAt = s.life.fallbackAt ∧ (setStation st ph s).life.spentAt = s.life.spentAt ∧
    (setStation st ph s).meter = s.meter ∧ (setStation st ph s).enf = s.enf ∧ (setStation st ph s).link = s.link ∧
    (setStation st ph s).loader = s.loader ∧ (setStation st ph s).host.rx = s.host.rx ∧
    (setStation st ph s).host.gap = s.host.gap ∧ (setStation st ph s).host.inProgress = s.host.inProgress ∧
    (setStation st ph s).host.waiting = s.host.waiting ∧ (setStation st ph s).host.overrun = s.host.overrun ∧
    (setStation st ph s).host.framesDiscarded = s.host.framesDiscarded := by
  unfold setStation
  (repeat' split) <;> simp

/-- A request touches the slots alone. -/
@[simp] theorem raiseRequest_frame (k : Kind) (excess : Current) (s : State) :
    (raiseRequest k excess s).now = s.now ∧ (raiseRequest k excess s).pending = s.pending ∧
    (raiseRequest k excess s).restartInput = s.restartInput ∧ (raiseRequest k excess s).cutOutput = s.cutOutput ∧
    (raiseRequest k excess s).attention = s.attention ∧ (raiseRequest k excess s).bus = s.bus ∧
    (raiseRequest k excess s).sched.inFlight = s.sched.inFlight ∧
    (raiseRequest k excess s).sched.spacing = s.sched.spacing ∧
    (raiseRequest k excess s).sched.isolationCount = s.sched.isolationCount ∧
    (raiseRequest k excess s).sched.requestsDropped = s.sched.requestsDropped ∧
    (raiseRequest k excess s).roster = s.roster ∧ (raiseRequest k excess s).planner = s.planner ∧
    (raiseRequest k excess s).grantCtl = s.grantCtl ∧ (raiseRequest k excess s).life = s.life ∧
    (raiseRequest k excess s).meter = s.meter ∧ (raiseRequest k excess s).enf = s.enf ∧
    (raiseRequest k excess s).link = s.link ∧ (raiseRequest k excess s).loader = s.loader ∧
    (raiseRequest k excess s).host = s.host := by
  cases k <;> unfold raiseRequest <;> split <;> simp [Scheduler.setSlot]

/-- A returned request touches the slots alone. -/
@[simp] theorem returnRequest_frame (k : Kind) (r : Request) (s : State) :
    (returnRequest k r s).now = s.now ∧ (returnRequest k r s).pending = s.pending ∧
    (returnRequest k r s).restartInput = s.restartInput ∧ (returnRequest k r s).cutOutput = s.cutOutput ∧
    (returnRequest k r s).attention = s.attention ∧ (returnRequest k r s).bus = s.bus ∧
    (returnRequest k r s).sched.inFlight = s.sched.inFlight ∧
    (returnRequest k r s).sched.spacing = s.sched.spacing ∧
    (returnRequest k r s).sched.isolationCount = s.sched.isolationCount ∧
    (returnRequest k r s).sched.requestsDropped = s.sched.requestsDropped ∧
    (returnRequest k r s).roster = s.roster ∧ (returnRequest k r s).planner = s.planner ∧
    (returnRequest k r s).grantCtl = s.grantCtl ∧ (returnRequest k r s).life = s.life ∧
    (returnRequest k r s).meter = s.meter ∧ (returnRequest k r s).enf = s.enf ∧
    (returnRequest k r s).link = s.link ∧ (returnRequest k r s).loader = s.loader ∧
    (returnRequest k r s).host = s.host := by
  cases k <;> unfold returnRequest <;> split <;> simp [Scheduler.setSlot]

/-- The effective demand and the serial alone change. -/
@[simp] theorem formDemand_frame (s : State) :
    (formDemand s).now = s.now ∧ (formDemand s).pending = s.pending ∧ (formDemand s).restartInput = s.restartInput ∧
    (formDemand s).cutOutput = s.cutOutput ∧ (formDemand s).attention = s.attention ∧ (formDemand s).bus = s.bus ∧
    (formDemand s).sched = s.sched ∧ (formDemand s).roster = s.roster ∧
    (formDemand s).planner.claim.priority = s.planner.claim.priority ∧
    (formDemand s).planner.claim.min = s.planner.claim.min ∧
    (formDemand s).planner.claim.max = s.planner.claim.max ∧
    (formDemand s).planner.claim.hostDemand = s.planner.claim.hostDemand ∧
    (formDemand s).planner.plan = s.planner.plan ∧ (formDemand s).planner.digest = s.planner.digest ∧
    (formDemand s).grantCtl = s.grantCtl ∧ (formDemand s).life = s.life ∧ (formDemand s).meter = s.meter ∧
    (formDemand s).enf = s.enf ∧ (formDemand s).link = s.link ∧ (formDemand s).loader = s.loader ∧
    (formDemand s).host = s.host := by
  unfold formDemand
  (repeat' split) <;> simp

/-- The grant, the queue and the slots alone change. -/
@[simp] theorem setGrant_frame (g : Current) (s : State) :
    (setGrant g s).now = s.now ∧ (setGrant g s).pending = s.pending ∧ (setGrant g s).restartInput = s.restartInput ∧
    (setGrant g s).cutOutput = s.cutOutput ∧ (setGrant g s).bus = s.bus ∧
    (setGrant g s).sched.inFlight = s.sched.inFlight ∧ (setGrant g s).sched.spacing = s.sched.spacing ∧
    (setGrant g s).sched.isolationCount = s.sched.isolationCount ∧
    (setGrant g s).sched.requestsDropped = s.sched.requestsDropped ∧ (setGrant g s).roster = s.roster ∧
    (setGrant g s).planner = s.planner ∧ (setGrant g s).grantCtl.settled = s.grantCtl.settled ∧
    (setGrant g s).grantCtl.raiseHold = s.grantCtl.raiseHold ∧
    (setGrant g s).grantCtl.deficit = s.grantCtl.deficit ∧ (setGrant g s).grantCtl.shedHold = s.grantCtl.shedHold ∧
    (setGrant g s).life = s.life ∧ (setGrant g s).meter = s.meter ∧ (setGrant g s).enf = s.enf ∧
    (setGrant g s).link = s.link ∧ (setGrant g s).loader = s.loader ∧ (setGrant g s).host.rx = s.host.rx ∧
    (setGrant g s).host.gap = s.host.gap ∧ (setGrant g s).host.inProgress = s.host.inProgress ∧
    (setGrant g s).host.waiting = s.host.waiting ∧ (setGrant g s).host.overrun = s.host.overrun ∧
    (setGrant g s).host.framesDiscarded = s.host.framesDiscarded := by
  unfold setGrant
  (repeat' split) <;> simp

/-- The grant, the queue and the slots alone change. -/
@[simp] theorem weighRaise_frame (s : State) :
    (weighRaise s).now = s.now ∧ (weighRaise s).pending = s.pending ∧ (weighRaise s).restartInput = s.restartInput ∧
    (weighRaise s).cutOutput = s.cutOutput ∧ (weighRaise s).bus = s.bus ∧
    (weighRaise s).sched.inFlight = s.sched.inFlight ∧ (weighRaise s).sched.spacing = s.sched.spacing ∧
    (weighRaise s).sched.isolationCount = s.sched.isolationCount ∧
    (weighRaise s).sched.requestsDropped = s.sched.requestsDropped ∧ (weighRaise s).roster = s.roster ∧
    (weighRaise s).planner = s.planner ∧ (weighRaise s).grantCtl.settled = s.grantCtl.settled ∧
    (weighRaise s).grantCtl.raiseHold = s.grantCtl.raiseHold ∧
    (weighRaise s).grantCtl.deficit = s.grantCtl.deficit ∧ (weighRaise s).grantCtl.shedHold = s.grantCtl.shedHold ∧
    (weighRaise s).life = s.life ∧ (weighRaise s).meter = s.meter ∧ (weighRaise s).enf = s.enf ∧
    (weighRaise s).link = s.link ∧ (weighRaise s).loader = s.loader ∧ (weighRaise s).host.rx = s.host.rx ∧
    (weighRaise s).host.gap = s.host.gap ∧ (weighRaise s).host.inProgress = s.host.inProgress ∧
    (weighRaise s).host.waiting = s.host.waiting ∧ (weighRaise s).host.overrun = s.host.overrun ∧
    (weighRaise s).host.framesDiscarded = s.host.framesDiscarded := by
  unfold weighRaise
  (repeat' split) <;> simp

/-- The grant, the queue and the slots alone change. -/
@[simp] theorem takeShare_frame (s : State) :
    (takeShare s).now = s.now ∧ (takeShare s).pending = s.pending ∧ (takeShare s).restartInput = s.restartInput ∧
    (takeShare s).cutOutput = s.cutOutput ∧ (takeShare s).bus = s.bus ∧
    (takeShare s).sched.inFlight = s.sched.inFlight ∧ (takeShare s).sched.spacing = s.sched.spacing ∧
    (takeShare s).sched.isolationCount = s.sched.isolationCount ∧
    (takeShare s).sched.requestsDropped = s.sched.requestsDropped ∧ (takeShare s).roster = s.roster ∧
    (takeShare s).planner = s.planner ∧ (takeShare s).grantCtl.settled = s.grantCtl.settled ∧
    (takeShare s).grantCtl.raiseHold = s.grantCtl.raiseHold ∧ (takeShare s).grantCtl.deficit = s.grantCtl.deficit ∧
    (takeShare s).grantCtl.shedHold = s.grantCtl.shedHold ∧ (takeShare s).life = s.life ∧
    (takeShare s).meter = s.meter ∧ (takeShare s).enf = s.enf ∧ (takeShare s).link = s.link ∧
    (takeShare s).loader = s.loader ∧ (takeShare s).host.rx = s.host.rx ∧ (takeShare s).host.gap = s.host.gap ∧
    (takeShare s).host.inProgress = s.host.inProgress ∧ (takeShare s).host.waiting = s.host.waiting ∧
    (takeShare s).host.overrun = s.host.overrun ∧ (takeShare s).host.framesDiscarded = s.host.framesDiscarded := by
  unfold takeShare
  (repeat' split) <;> simp

/-- The confirmations, the raise hold and the slots alone change. -/
@[simp] theorem takeDigestChange_frame (s : State) :
    (takeDigestChange s).now = s.now ∧ (takeDigestChange s).pending = s.pending ∧
    (takeDigestChange s).restartInput = s.restartInput ∧ (takeDigestChange s).cutOutput = s.cutOutput ∧
    (takeDigestChange s).attention = s.attention ∧ (takeDigestChange s).bus = s.bus ∧
    (takeDigestChange s).sched.inFlight = s.sched.inFlight ∧ (takeDigestChange s).sched.spacing = s.sched.spacing ∧
    (takeDigestChange s).sched.isolationCount = s.sched.isolationCount ∧
    (takeDigestChange s).sched.requestsDropped = s.sched.requestsDropped ∧
    (takeDigestChange s).roster.overflow = s.roster.overflow ∧
    (takeDigestChange s).roster.forgotten = s.roster.forgotten ∧
    (takeDigestChange s).roster.admissionsRefused = s.roster.admissionsRefused ∧
    (takeDigestChange s).roster.shedIgnored = s.roster.shedIgnored ∧ (takeDigestChange s).planner = s.planner ∧
    (takeDigestChange s).grantCtl.grant = s.grantCtl.grant ∧
    (takeDigestChange s).grantCtl.settled = s.grantCtl.settled ∧
    (takeDigestChange s).grantCtl.deficit = s.grantCtl.deficit ∧
    (takeDigestChange s).grantCtl.shedHold = s.grantCtl.shedHold ∧ (takeDigestChange s).life = s.life ∧
    (takeDigestChange s).meter = s.meter ∧ (takeDigestChange s).enf = s.enf ∧ (takeDigestChange s).link = s.link ∧
    (takeDigestChange s).loader = s.loader ∧ (takeDigestChange s).host = s.host := by
  unfold takeDigestChange
  simp

/-- ACTIVE touches the station state, the grant, the CUT output, the queue and the slots alone. -/
@[simp] theorem enterActive_frame (s : State) :
    (enterActive s).now = s.now ∧ (enterActive s).pending = s.pending ∧
    (enterActive s).restartInput = s.restartInput ∧ (enterActive s).bus = s.bus ∧
    (enterActive s).sched.inFlight = s.sched.inFlight ∧ (enterActive s).sched.spacing = s.sched.spacing ∧
    (enterActive s).sched.isolationCount = s.sched.isolationCount ∧
    (enterActive s).sched.requestsDropped = s.sched.requestsDropped ∧ (enterActive s).roster = s.roster ∧
    (enterActive s).planner = s.planner ∧ (enterActive s).grantCtl.settled = s.grantCtl.settled ∧
    (enterActive s).grantCtl.raiseHold = s.grantCtl.raiseHold ∧
    (enterActive s).grantCtl.deficit = s.grantCtl.deficit ∧
    (enterActive s).grantCtl.shedHold = s.grantCtl.shedHold ∧ (enterActive s).life.listen = s.life.listen ∧
    (enterActive s).life.cycle = s.life.cycle ∧ (enterActive s).life.tClean = s.life.tClean ∧
    (enterActive s).life.tAny = s.life.tAny ∧ (enterActive s).life.fallbackAt = s.life.fallbackAt ∧
    (enterActive s).life.spentAt = s.life.spentAt ∧ (enterActive s).meter = s.meter ∧ (enterActive s).enf = s.enf ∧
    (enterActive s).link = s.link ∧ (enterActive s).loader = s.loader ∧ (enterActive s).host.rx = s.host.rx ∧
    (enterActive s).host.gap = s.host.gap ∧ (enterActive s).host.inProgress = s.host.inProgress ∧
    (enterActive s).host.waiting = s.host.waiting ∧ (enterActive s).host.overrun = s.host.overrun ∧
    (enterActive s).host.framesDiscarded = s.host.framesDiscarded := by
  unfold enterActive
  simp

/-- JOINING touches what ACTIVE does, and the deadlines. -/
@[simp] theorem enterJoining_frame (s : State) :
    (enterJoining s).now = s.now ∧ (enterJoining s).pending = s.pending ∧
    (enterJoining s).restartInput = s.restartInput ∧ (enterJoining s).bus = s.bus ∧
    (enterJoining s).sched.inFlight = s.sched.inFlight ∧ (enterJoining s).sched.spacing = s.sched.spacing ∧
    (enterJoining s).sched.isolationCount = s.sched.isolationCount ∧
    (enterJoining s).sched.requestsDropped = s.sched.requestsDropped ∧ (enterJoining s).roster = s.roster ∧
    (enterJoining s).planner = s.planner ∧ (enterJoining s).grantCtl.settled = s.grantCtl.settled ∧
    (enterJoining s).grantCtl.raiseHold = s.grantCtl.raiseHold ∧
    (enterJoining s).grantCtl.deficit = s.grantCtl.deficit ∧
    (enterJoining s).grantCtl.shedHold = s.grantCtl.shedHold ∧ (enterJoining s).life.listen = s.life.listen ∧
    (enterJoining s).life.cycle = s.life.cycle ∧ (enterJoining s).life.tClean = s.life.tClean ∧
    (enterJoining s).life.tAny = s.life.tAny ∧ (enterJoining s).meter = s.meter ∧ (enterJoining s).enf = s.enf ∧
    (enterJoining s).link = s.link ∧ (enterJoining s).loader = s.loader ∧ (enterJoining s).host.rx = s.host.rx ∧
    (enterJoining s).host.gap = s.host.gap ∧ (enterJoining s).host.inProgress = s.host.inProgress ∧
    (enterJoining s).host.waiting = s.host.waiting ∧ (enterJoining s).host.overrun = s.host.overrun ∧
    (enterJoining s).host.framesDiscarded = s.host.framesDiscarded := by
  unfold enterJoining
  dsimp only
  split_ifs <;> simp

/-- The settled flag and what entering ACTIVE touches alone change. -/
@[simp] theorem evalSettled_frame (s : State) :
    (evalSettled s).now = s.now ∧ (evalSettled s).pending = s.pending ∧
    (evalSettled s).restartInput = s.restartInput ∧ (evalSettled s).bus = s.bus ∧
    (evalSettled s).sched.inFlight = s.sched.inFlight ∧ (evalSettled s).sched.spacing = s.sched.spacing ∧
    (evalSettled s).sched.isolationCount = s.sched.isolationCount ∧
    (evalSettled s).sched.requestsDropped = s.sched.requestsDropped ∧ (evalSettled s).roster = s.roster ∧
    (evalSettled s).planner = s.planner ∧ (evalSettled s).grantCtl.raiseHold = s.grantCtl.raiseHold ∧
    (evalSettled s).grantCtl.deficit = s.grantCtl.deficit ∧
    (evalSettled s).grantCtl.shedHold = s.grantCtl.shedHold ∧ (evalSettled s).life.listen = s.life.listen ∧
    (evalSettled s).life.cycle = s.life.cycle ∧ (evalSettled s).life.tClean = s.life.tClean ∧
    (evalSettled s).life.tAny = s.life.tAny ∧ (evalSettled s).life.fallbackAt = s.life.fallbackAt ∧
    (evalSettled s).life.spentAt = s.life.spentAt ∧ (evalSettled s).meter = s.meter ∧ (evalSettled s).enf = s.enf ∧
    (evalSettled s).link = s.link ∧ (evalSettled s).loader = s.loader ∧ (evalSettled s).host.rx = s.host.rx ∧
    (evalSettled s).host.gap = s.host.gap ∧ (evalSettled s).host.inProgress = s.host.inProgress ∧
    (evalSettled s).host.waiting = s.host.waiting ∧ (evalSettled s).host.overrun = s.host.overrun ∧
    (evalSettled s).host.framesDiscarded = s.host.framesDiscarded := by
  unfold evalSettled
  (repeat' split) <;> simp

/-- The hand-off touches digest, plan, confirmations, raise hold, grant, queue and slots alone. -/
@[simp] theorem handOn_frame (dig pln : Bool) (s : State) :
    (handOn dig pln s).now = s.now ∧ (handOn dig pln s).pending = s.pending ∧
    (handOn dig pln s).restartInput = s.restartInput ∧ (handOn dig pln s).cutOutput = s.cutOutput ∧
    (handOn dig pln s).bus = s.bus ∧ (handOn dig pln s).sched.inFlight = s.sched.inFlight ∧
    (handOn dig pln s).sched.spacing = s.sched.spacing ∧
    (handOn dig pln s).sched.isolationCount = s.sched.isolationCount ∧
    (handOn dig pln s).sched.requestsDropped = s.sched.requestsDropped ∧
    (handOn dig pln s).roster.overflow = s.roster.overflow ∧
    (handOn dig pln s).roster.forgotten = s.roster.forgotten ∧
    (handOn dig pln s).roster.admissionsRefused = s.roster.admissionsRefused ∧
    (handOn dig pln s).roster.shedIgnored = s.roster.shedIgnored ∧
    (handOn dig pln s).planner.claim = s.planner.claim ∧ (handOn dig pln s).grantCtl.settled = s.grantCtl.settled ∧
    (handOn dig pln s).grantCtl.deficit = s.grantCtl.deficit ∧
    (handOn dig pln s).grantCtl.shedHold = s.grantCtl.shedHold ∧ (handOn dig pln s).life = s.life ∧
    (handOn dig pln s).meter = s.meter ∧ (handOn dig pln s).enf = s.enf ∧ (handOn dig pln s).link = s.link ∧
    (handOn dig pln s).loader = s.loader ∧ (handOn dig pln s).host.rx = s.host.rx ∧
    (handOn dig pln s).host.gap = s.host.gap ∧ (handOn dig pln s).host.inProgress = s.host.inProgress ∧
    (handOn dig pln s).host.waiting = s.host.waiting ∧ (handOn dig pln s).host.overrun = s.host.overrun ∧
    (handOn dig pln s).host.framesDiscarded = s.host.framesDiscarded := by
  unfold handOn
  dsimp only
  split_ifs <;> simp

/-- The hand-off touches digest, plan, confirmations, raise hold, grant, queue and slots alone. -/
@[simp] theorem commit_frame (before s : State) :
    (commit before s).now = s.now ∧ (commit before s).pending = s.pending ∧
    (commit before s).restartInput = s.restartInput ∧ (commit before s).cutOutput = s.cutOutput ∧
    (commit before s).bus = s.bus ∧ (commit before s).sched.inFlight = s.sched.inFlight ∧
    (commit before s).sched.spacing = s.sched.spacing ∧
    (commit before s).sched.isolationCount = s.sched.isolationCount ∧
    (commit before s).sched.requestsDropped = s.sched.requestsDropped ∧
    (commit before s).roster.overflow = s.roster.overflow ∧
    (commit before s).roster.forgotten = s.roster.forgotten ∧
    (commit before s).roster.admissionsRefused = s.roster.admissionsRefused ∧
    (commit before s).roster.shedIgnored = s.roster.shedIgnored ∧
    (commit before s).planner.claim = s.planner.claim ∧ (commit before s).grantCtl.settled = s.grantCtl.settled ∧
    (commit before s).grantCtl.deficit = s.grantCtl.deficit ∧
    (commit before s).grantCtl.shedHold = s.grantCtl.shedHold ∧ (commit before s).life = s.life ∧
    (commit before s).meter = s.meter ∧ (commit before s).enf = s.enf ∧ (commit before s).link = s.link ∧
    (commit before s).loader = s.loader ∧ (commit before s).host.rx = s.host.rx ∧
    (commit before s).host.gap = s.host.gap ∧ (commit before s).host.inProgress = s.host.inProgress ∧
    (commit before s).host.waiting = s.host.waiting ∧ (commit before s).host.overrun = s.host.overrun ∧
    (commit before s).host.framesDiscarded = s.host.framesDiscarded := by
  unfold commit
  simp

/-- The grant, the queue and the slots alone change. -/
@[simp] theorem followDemand_frame (s : State) :
    (followDemand s).now = s.now ∧ (followDemand s).pending = s.pending ∧
    (followDemand s).restartInput = s.restartInput ∧ (followDemand s).cutOutput = s.cutOutput ∧
    (followDemand s).bus = s.bus ∧ (followDemand s).sched.inFlight = s.sched.inFlight ∧
    (followDemand s).sched.spacing = s.sched.spacing ∧
    (followDemand s).sched.isolationCount = s.sched.isolationCount ∧
    (followDemand s).sched.requestsDropped = s.sched.requestsDropped ∧ (followDemand s).roster = s.roster ∧
    (followDemand s).planner = s.planner ∧ (followDemand s).grantCtl.settled = s.grantCtl.settled ∧
    (followDemand s).grantCtl.raiseHold = s.grantCtl.raiseHold ∧
    (followDemand s).grantCtl.deficit = s.grantCtl.deficit ∧
    (followDemand s).grantCtl.shedHold = s.grantCtl.shedHold ∧ (followDemand s).life = s.life ∧
    (followDemand s).meter = s.meter ∧ (followDemand s).enf = s.enf ∧ (followDemand s).link = s.link ∧
    (followDemand s).loader = s.loader ∧ (followDemand s).host.rx = s.host.rx ∧
    (followDemand s).host.gap = s.host.gap ∧ (followDemand s).host.inProgress = s.host.inProgress ∧
    (followDemand s).host.waiting = s.host.waiting ∧ (followDemand s).host.overrun = s.host.overrun ∧
    (followDemand s).host.framesDiscarded = s.host.framesDiscarded := by
  unfold followDemand
  (repeat' split) <;> simp

/-- A change of demand touches the claim, what the hand-off touches and what settling touches. -/
@[simp] theorem commitDemand_frame (before s : State) :
    (commitDemand before s).now = s.now ∧ (commitDemand before s).pending = s.pending ∧
    (commitDemand before s).restartInput = s.restartInput ∧ (commitDemand before s).bus = s.bus ∧
    (commitDemand before s).sched.inFlight = s.sched.inFlight ∧
    (commitDemand before s).sched.spacing = s.sched.spacing ∧
    (commitDemand before s).sched.isolationCount = s.sched.isolationCount ∧
    (commitDemand before s).sched.requestsDropped = s.sched.requestsDropped ∧
    (commitDemand before s).roster.overflow = s.roster.overflow ∧
    (commitDemand before s).roster.forgotten = s.roster.forgotten ∧
    (commitDemand before s).roster.admissionsRefused = s.roster.admissionsRefused ∧
    (commitDemand before s).roster.shedIgnored = s.roster.shedIgnored ∧
    (commitDemand before s).planner.claim.priority = s.planner.claim.priority ∧
    (commitDemand before s).planner.claim.min = s.planner.claim.min ∧
    (commitDemand before s).planner.claim.max = s.planner.claim.max ∧
    (commitDemand before s).planner.claim.hostDemand = s.planner.claim.hostDemand ∧
    (commitDemand before s).grantCtl.deficit = s.grantCtl.deficit ∧
    (commitDemand before s).grantCtl.shedHold = s.grantCtl.shedHold ∧
    (commitDemand before s).life.listen = s.life.listen ∧ (commitDemand before s).life.cycle = s.life.cycle ∧
    (commitDemand before s).life.tClean = s.life.tClean ∧ (commitDemand before s).life.tAny = s.life.tAny ∧
    (commitDemand before s).life.fallbackAt = s.life.fallbackAt ∧
    (commitDemand before s).life.spentAt = s.life.spentAt ∧ (commitDemand before s).meter = s.meter ∧
    (commitDemand before s).enf = s.enf ∧ (commitDemand before s).link = s.link ∧
    (commitDemand before s).loader = s.loader ∧ (commitDemand before s).host.rx = s.host.rx ∧
    (commitDemand before s).host.gap = s.host.gap ∧ (commitDemand before s).host.inProgress = s.host.inProgress ∧
    (commitDemand before s).host.waiting = s.host.waiting ∧ (commitDemand before s).host.overrun = s.host.overrun ∧
    (commitDemand before s).host.framesDiscarded = s.host.framesDiscarded := by
  unfold commitDemand
  dsimp only
  split_ifs <;> simp

/-- D, its hold and the queue alone change. -/
@[simp] theorem applyShed_frame (excess : Current) (s : State) :
    (applyShed excess s).now = s.now ∧ (applyShed excess s).pending = s.pending ∧
    (applyShed excess s).restartInput = s.restartInput ∧ (applyShed excess s).cutOutput = s.cutOutput ∧
    (applyShed excess s).bus = s.bus ∧ (applyShed excess s).sched = s.sched ∧
    (applyShed excess s).roster = s.roster ∧ (applyShed excess s).planner = s.planner ∧
    (applyShed excess s).grantCtl.grant = s.grantCtl.grant ∧
    (applyShed excess s).grantCtl.settled = s.grantCtl.settled ∧
    (applyShed excess s).grantCtl.raiseHold = s.grantCtl.raiseHold ∧ (applyShed excess s).life = s.life ∧
    (applyShed excess s).meter = s.meter ∧ (applyShed excess s).enf = s.enf ∧ (applyShed excess s).link = s.link ∧
    (applyShed excess s).loader = s.loader ∧ (applyShed excess s).host.rx = s.host.rx ∧
    (applyShed excess s).host.gap = s.host.gap ∧ (applyShed excess s).host.inProgress = s.host.inProgress ∧
    (applyShed excess s).host.waiting = s.host.waiting ∧ (applyShed excess s).host.overrun = s.host.overrun ∧
    (applyShed excess s).host.framesDiscarded = s.host.framesDiscarded := by
  unfold applyShed
  (repeat' split) <;> simp

/-- ISOLATED touches the lifecycle, the grant, the CUT output, the queue and the slots alone. -/
@[simp] theorem enterIsolated_frame (s : State) :
    (enterIsolated s).now = s.now ∧ (enterIsolated s).pending = s.pending ∧
    (enterIsolated s).restartInput = s.restartInput ∧ (enterIsolated s).bus = s.bus ∧
    (enterIsolated s).sched.inFlight = s.sched.inFlight ∧ (enterIsolated s).sched.spacing = s.sched.spacing ∧
    (enterIsolated s).sched.isolationCount = s.sched.isolationCount ∧
    (enterIsolated s).sched.requestsDropped = s.sched.requestsDropped ∧ (enterIsolated s).roster = s.roster ∧
    (enterIsolated s).planner = s.planner ∧ (enterIsolated s).grantCtl.settled = s.grantCtl.settled ∧
    (enterIsolated s).grantCtl.raiseHold = s.grantCtl.raiseHold ∧
    (enterIsolated s).grantCtl.deficit = s.grantCtl.deficit ∧
    (enterIsolated s).grantCtl.shedHold = s.grantCtl.shedHold ∧ (enterIsolated s).life.listen = s.life.listen ∧
    (enterIsolated s).life.cycle = s.life.cycle ∧ (enterIsolated s).life.tClean = s.life.tClean ∧
    (enterIsolated s).life.tAny = s.life.tAny ∧ (enterIsolated s).meter = s.meter ∧ (enterIsolated s).enf = s.enf ∧
    (enterIsolated s).link = s.link ∧ (enterIsolated s).loader = s.loader ∧ (enterIsolated s).host.rx = s.host.rx ∧
    (enterIsolated s).host.gap = s.host.gap ∧ (enterIsolated s).host.inProgress = s.host.inProgress ∧
    (enterIsolated s).host.waiting = s.host.waiting ∧ (enterIsolated s).host.overrun = s.host.overrun ∧
    (enterIsolated s).host.framesDiscarded = s.host.framesDiscarded := by
  unfold enterIsolated
  (repeat' split) <;> simp

/-- SPENT touches the lifecycle, the grant, the CUT output, the queue and the slots alone. -/
@[simp] theorem enterSpent_frame (s : State) :
    (enterSpent s).now = s.now ∧ (enterSpent s).pending = s.pending ∧ (enterSpent s).restartInput = s.restartInput ∧
    (enterSpent s).bus = s.bus ∧ (enterSpent s).sched.inFlight = s.sched.inFlight ∧
    (enterSpent s).sched.spacing = s.sched.spacing ∧ (enterSpent s).sched.isolationCount = s.sched.isolationCount ∧
    (enterSpent s).sched.requestsDropped = s.sched.requestsDropped ∧ (enterSpent s).roster = s.roster ∧
    (enterSpent s).planner = s.planner ∧ (enterSpent s).grantCtl.settled = s.grantCtl.settled ∧
    (enterSpent s).grantCtl.raiseHold = s.grantCtl.raiseHold ∧
    (enterSpent s).grantCtl.deficit = s.grantCtl.deficit ∧ (enterSpent s).grantCtl.shedHold = s.grantCtl.shedHold ∧
    (enterSpent s).life.listen = s.life.listen ∧ (enterSpent s).life.cycle = s.life.cycle ∧
    (enterSpent s).life.tClean = s.life.tClean ∧ (enterSpent s).life.tAny = s.life.tAny ∧
    (enterSpent s).life.fallbackAt = s.life.fallbackAt ∧ (enterSpent s).life.spentAt = s.life.spentAt ∧
    (enterSpent s).meter = s.meter ∧ (enterSpent s).enf = s.enf ∧ (enterSpent s).link = s.link ∧
    (enterSpent s).loader = s.loader ∧ (enterSpent s).host.rx = s.host.rx ∧ (enterSpent s).host.gap = s.host.gap ∧
    (enterSpent s).host.inProgress = s.host.inProgress ∧ (enterSpent s).host.waiting = s.host.waiting ∧
    (enterSpent s).host.overrun = s.host.overrun ∧ (enterSpent s).host.framesDiscarded = s.host.framesDiscarded := by
  unfold enterSpent
  simp

/-- FALLBACK touches the lifecycle, the grant, the CUT output, the queue and the slots alone. -/
@[simp] theorem enterFallback_frame (s : State) :
    (enterFallback s).now = s.now ∧ (enterFallback s).pending = s.pending ∧
    (enterFallback s).restartInput = s.restartInput ∧ (enterFallback s).bus = s.bus ∧
    (enterFallback s).sched.inFlight = s.sched.inFlight ∧ (enterFallback s).sched.spacing = s.sched.spacing ∧
    (enterFallback s).sched.isolationCount = s.sched.isolationCount ∧
    (enterFallback s).sched.requestsDropped = s.sched.requestsDropped ∧ (enterFallback s).roster = s.roster ∧
    (enterFallback s).planner = s.planner ∧ (enterFallback s).grantCtl.settled = s.grantCtl.settled ∧
    (enterFallback s).grantCtl.raiseHold = s.grantCtl.raiseHold ∧
    (enterFallback s).grantCtl.deficit = s.grantCtl.deficit ∧
    (enterFallback s).grantCtl.shedHold = s.grantCtl.shedHold ∧ (enterFallback s).life.listen = s.life.listen ∧
    (enterFallback s).life.cycle = s.life.cycle ∧ (enterFallback s).life.tClean = s.life.tClean ∧
    (enterFallback s).life.tAny = s.life.tAny ∧ (enterFallback s).life.fallbackAt = s.life.fallbackAt ∧
    (enterFallback s).life.spentAt = s.life.spentAt ∧ (enterFallback s).meter = s.meter ∧
    (enterFallback s).enf = s.enf ∧ (enterFallback s).link = s.link ∧ (enterFallback s).loader = s.loader ∧
    (enterFallback s).host.rx = s.host.rx ∧ (enterFallback s).host.gap = s.host.gap ∧
    (enterFallback s).host.inProgress = s.host.inProgress ∧ (enterFallback s).host.waiting = s.host.waiting ∧
    (enterFallback s).host.overrun = s.host.overrun ∧
    (enterFallback s).host.framesDiscarded = s.host.framesDiscarded := by
  unfold enterFallback
  simp

/-- What LISTENING leaves as it was. -/
@[simp] theorem enterListening_frame (s : State) :
    (enterListening s).now = s.now ∧ (enterListening s).pending = s.pending ∧
    (enterListening s).restartInput = s.restartInput ∧ (enterListening s).bus.attempt = s.bus.attempt ∧
    (enterListening s).bus.trailer = s.bus.trailer ∧ (enterListening s).bus.framesSent = s.bus.framesSent ∧
    (enterListening s).bus.lost = s.bus.lost ∧ (enterListening s).bus.aborted = s.bus.aborted ∧
    (enterListening s).bus.partly = s.bus.partly ∧ (enterListening s).bus.unheard = s.bus.unheard ∧
    (enterListening s).bus.validReceived = s.bus.validReceived ∧
    (enterListening s).bus.damagedReceived = s.bus.damagedReceived ∧
    (enterListening s).sched.inFlight = s.sched.inFlight ∧ (enterListening s).sched.spacing = s.sched.spacing ∧
    (enterListening s).sched.requestsDropped = s.sched.requestsDropped ∧ (enterListening s).roster = s.roster ∧
    (enterListening s).planner = s.planner ∧ (enterListening s).grantCtl.settled = s.grantCtl.settled ∧
    (enterListening s).grantCtl.raiseHold = s.grantCtl.raiseHold ∧
    (enterListening s).grantCtl.deficit = s.grantCtl.deficit ∧
    (enterListening s).grantCtl.shedHold = s.grantCtl.shedHold ∧ (enterListening s).life.cycle = s.life.cycle ∧
    (enterListening s).life.fallbackAt = s.life.fallbackAt ∧ (enterListening s).life.spentAt = s.life.spentAt ∧
    (enterListening s).meter = s.meter ∧ (enterListening s).enf = s.enf ∧ (enterListening s).link = s.link ∧
    (enterListening s).loader = s.loader ∧ (enterListening s).host.rx = s.host.rx ∧
    (enterListening s).host.gap = s.host.gap ∧ (enterListening s).host.inProgress = s.host.inProgress ∧
    (enterListening s).host.waiting = s.host.waiting ∧ (enterListening s).host.overrun = s.host.overrun ∧
    (enterListening s).host.framesDiscarded = s.host.framesDiscarded := by
  unfold enterListening
  simp

/-- What LEAVING leaves as it was. -/
@[simp] theorem enterLeaving_frame (s : State) :
    (enterLeaving s).now = s.now ∧ (enterLeaving s).pending = s.pending ∧
    (enterLeaving s).restartInput = s.restartInput ∧ (enterLeaving s).bus = s.bus ∧
    (enterLeaving s).sched.inFlight = s.sched.inFlight ∧ (enterLeaving s).sched.spacing = s.sched.spacing ∧
    (enterLeaving s).sched.isolationCount = s.sched.isolationCount ∧
    (enterLeaving s).sched.requestsDropped = s.sched.requestsDropped ∧ (enterLeaving s).roster = s.roster ∧
    (enterLeaving s).planner = s.planner ∧ (enterLeaving s).grantCtl.settled = s.grantCtl.settled ∧
    (enterLeaving s).grantCtl.raiseHold = s.grantCtl.raiseHold ∧
    (enterLeaving s).grantCtl.deficit = s.grantCtl.deficit ∧
    (enterLeaving s).grantCtl.shedHold = s.grantCtl.shedHold ∧ (enterLeaving s).life.cycle = s.life.cycle ∧
    (enterLeaving s).life.tClean = s.life.tClean ∧ (enterLeaving s).life.tAny = s.life.tAny ∧
    (enterLeaving s).meter = s.meter ∧ (enterLeaving s).enf = s.enf ∧ (enterLeaving s).link = s.link ∧
    (enterLeaving s).loader = s.loader ∧ (enterLeaving s).host.rx = s.host.rx ∧
    (enterLeaving s).host.gap = s.host.gap ∧ (enterLeaving s).host.inProgress = s.host.inProgress ∧
    (enterLeaving s).host.waiting = s.host.waiting ∧ (enterLeaving s).host.overrun = s.host.overrun ∧
    (enterLeaving s).host.framesDiscarded = s.host.framesDiscarded := by
  unfold enterLeaving
  simp

/-- ATTENTION and the queue alone change. -/
@[simp] theorem noteRoster_frame (before s : State) :
    (noteRoster before s).now = s.now ∧ (noteRoster before s).pending = s.pending ∧
    (noteRoster before s).restartInput = s.restartInput ∧ (noteRoster before s).cutOutput = s.cutOutput ∧
    (noteRoster before s).bus = s.bus ∧ (noteRoster before s).sched = s.sched ∧
    (noteRoster before s).roster = s.roster ∧ (noteRoster before s).planner = s.planner ∧
    (noteRoster before s).grantCtl = s.grantCtl ∧ (noteRoster before s).life = s.life ∧
    (noteRoster before s).meter = s.meter ∧ (noteRoster before s).enf = s.enf ∧
    (noteRoster before s).link = s.link ∧ (noteRoster before s).loader = s.loader ∧
    (noteRoster before s).host.rx = s.host.rx ∧ (noteRoster before s).host.gap = s.host.gap ∧
    (noteRoster before s).host.inProgress = s.host.inProgress ∧
    (noteRoster before s).host.waiting = s.host.waiting ∧ (noteRoster before s).host.overrun = s.host.overrun ∧
    (noteRoster before s).host.framesDiscarded = s.host.framesDiscarded := by
  unfold noteRoster
  dsimp only
  split_ifs <;> simp

/-- What DORMANT leaves as it was. -/
@[simp] theorem enterDormant_frame (s : State) :
    (enterDormant s).now = s.now ∧ (enterDormant s).pending = s.pending ∧
    (enterDormant s).restartInput = s.restartInput ∧ (enterDormant s).bus.recessive = s.bus.recessive ∧
    (enterDormant s).bus.endLeft = s.bus.endLeft ∧
    (enterDormant s).bus.idle = s.bus.idle ∧ (enterDormant s).bus.attempt = s.bus.attempt ∧
    (enterDormant s).bus.framesSent = s.bus.framesSent ∧ (enterDormant s).bus.lost = s.bus.lost ∧
    (enterDormant s).bus.aborted = s.bus.aborted ∧ (enterDormant s).bus.partly = s.bus.partly ∧
    (enterDormant s).bus.unheard = s.bus.unheard ∧ (enterDormant s).bus.validReceived = s.bus.validReceived ∧
    (enterDormant s).bus.damagedReceived = s.bus.damagedReceived ∧
    (enterDormant s).sched.inFlight = s.sched.inFlight ∧
    (enterDormant s).sched.requestsDropped = s.sched.requestsDropped ∧
    (enterDormant s).roster.admissionsRefused = s.roster.admissionsRefused ∧
    (enterDormant s).roster.shedIgnored = s.roster.shedIgnored ∧ (enterDormant s).planner.claim = s.planner.claim ∧
    (enterDormant s).grantCtl.deficit = s.grantCtl.deficit ∧
    (enterDormant s).grantCtl.shedHold = s.grantCtl.shedHold ∧ (enterDormant s).life.listen = s.life.listen ∧
    (enterDormant s).life.cycle = s.life.cycle ∧ (enterDormant s).life.tClean = s.life.tClean ∧
    (enterDormant s).life.tAny = s.life.tAny ∧ (enterDormant s).life.fallbackAt = s.life.fallbackAt ∧
    (enterDormant s).life.spentAt = s.life.spentAt ∧ (enterDormant s).meter = s.meter ∧
    (enterDormant s).enf = s.enf ∧ (enterDormant s).link = s.link ∧ (enterDormant s).loader = s.loader ∧
    (enterDormant s).host.rx = s.host.rx ∧ (enterDormant s).host.gap = s.host.gap ∧
    (enterDormant s).host.inProgress = s.host.inProgress ∧ (enterDormant s).host.waiting = s.host.waiting ∧
    (enterDormant s).host.overrun = s.host.overrun ∧ (enterDormant s).host.framesDiscarded = s.host.framesDiscarded := by
  unfold enterDormant
  simp

/-- What DUPLICATE leaves as it was. -/
@[simp] theorem enterDuplicate_frame (s : State) :
    (enterDuplicate s).now = s.now ∧ (enterDuplicate s).pending = s.pending ∧
    (enterDuplicate s).restartInput = s.restartInput ∧ (enterDuplicate s).bus.recessive = s.bus.recessive ∧
    (enterDuplicate s).bus.endLeft = s.bus.endLeft ∧
    (enterDuplicate s).bus.idle = s.bus.idle ∧ (enterDuplicate s).bus.attempt = s.bus.attempt ∧
    (enterDuplicate s).bus.framesSent = s.bus.framesSent ∧ (enterDuplicate s).bus.lost = s.bus.lost ∧
    (enterDuplicate s).bus.aborted = s.bus.aborted ∧ (enterDuplicate s).bus.partly = s.bus.partly ∧
    (enterDuplicate s).bus.unheard = s.bus.unheard ∧ (enterDuplicate s).bus.validReceived = s.bus.validReceived ∧
    (enterDuplicate s).bus.damagedReceived = s.bus.damagedReceived ∧
    (enterDuplicate s).sched.inFlight = s.sched.inFlight ∧
    (enterDuplicate s).sched.isolationCount = s.sched.isolationCount ∧
    (enterDuplicate s).sched.requestsDropped = s.sched.requestsDropped ∧
    (enterDuplicate s).roster.overflow = s.roster.overflow ∧
    (enterDuplicate s).roster.forgotten = s.roster.forgotten ∧
    (enterDuplicate s).roster.admissionsRefused = s.roster.admissionsRefused ∧
    (enterDuplicate s).roster.shedIgnored = s.roster.shedIgnored ∧ (enterDuplicate s).planner = s.planner ∧
    (enterDuplicate s).grantCtl.settled = s.grantCtl.settled ∧
    (enterDuplicate s).grantCtl.raiseHold = s.grantCtl.raiseHold ∧
    (enterDuplicate s).grantCtl.deficit = s.grantCtl.deficit ∧
    (enterDuplicate s).grantCtl.shedHold = s.grantCtl.shedHold ∧ (enterDuplicate s).life.cycle = s.life.cycle ∧
    (enterDuplicate s).life.tClean = s.life.tClean ∧ (enterDuplicate s).life.tAny = s.life.tAny ∧
    (enterDuplicate s).meter = s.meter ∧ (enterDuplicate s).enf = s.enf ∧ (enterDuplicate s).link = s.link ∧
    (enterDuplicate s).loader = s.loader ∧ (enterDuplicate s).host.rx = s.host.rx ∧
    (enterDuplicate s).host.gap = s.host.gap ∧ (enterDuplicate s).host.inProgress = s.host.inProgress ∧
    (enterDuplicate s).host.waiting = s.host.waiting ∧ (enterDuplicate s).host.overrun = s.host.overrun ∧
    (enterDuplicate s).host.framesDiscarded = s.host.framesDiscarded := by
  unfold enterDuplicate
  simp

/-- What FAULT leaves as it was. -/
@[simp] theorem enterFault_frame (r : FaultReason) (s : State) :
    (enterFault r s).now = s.now ∧ (enterFault r s).pending = s.pending ∧
    (enterFault r s).restartInput = s.restartInput ∧ (enterFault r s).bus.recessive = s.bus.recessive ∧
    (enterFault r s).bus.endLeft = s.bus.endLeft ∧
    (enterFault r s).bus.idle = s.bus.idle ∧ (enterFault r s).bus.framesSent = s.bus.framesSent ∧
    (enterFault r s).bus.lost = s.bus.lost ∧ (enterFault r s).bus.aborted = s.bus.aborted ∧
    (enterFault r s).bus.partly = s.bus.partly ∧ (enterFault r s).bus.unheard = s.bus.unheard ∧
    (enterFault r s).bus.validReceived = s.bus.validReceived ∧
    (enterFault r s).bus.damagedReceived = s.bus.damagedReceived ∧
    (enterFault r s).sched.isolationCount = s.sched.isolationCount ∧
    (enterFault r s).sched.requestsDropped = s.sched.requestsDropped ∧
    (enterFault r s).roster.overflow = s.roster.overflow ∧ (enterFault r s).roster.forgotten = s.roster.forgotten ∧
    (enterFault r s).roster.admissionsRefused = s.roster.admissionsRefused ∧
    (enterFault r s).roster.shedIgnored = s.roster.shedIgnored ∧ (enterFault r s).planner.claim = s.planner.claim ∧
    (enterFault r s).planner.digest = s.planner.digest ∧ (enterFault r s).grantCtl.settled = s.grantCtl.settled ∧
    (enterFault r s).grantCtl.raiseHold = s.grantCtl.raiseHold ∧
    (enterFault r s).grantCtl.deficit = s.grantCtl.deficit ∧
    (enterFault r s).grantCtl.shedHold = s.grantCtl.shedHold ∧ (enterFault r s).life.cycle = s.life.cycle ∧
    (enterFault r s).life.tClean = s.life.tClean ∧ (enterFault r s).life.tAny = s.life.tAny ∧
    (enterFault r s).meter.updates = s.meter.updates ∧ (enterFault r s).meter.load = s.meter.load ∧
    (enterFault r s).meter.feeder = s.meter.feeder ∧ (enterFault r s).meter.trim = s.meter.trim ∧
    (enterFault r s).meter.estimate = s.meter.estimate ∧ (enterFault r s).meter.overload = s.meter.overload ∧
    (enterFault r s).enf.state = s.enf.state ∧ (enterFault r s).link = s.link ∧
    (enterFault r s).loader.heldCopy = s.loader.heldCopy ∧
    (enterFault r s).loader.networkDigest = s.loader.networkDigest ∧
    (enterFault r s).loader.cause = s.loader.cause ∧ (enterFault r s).loader.lineRate = s.loader.lineRate ∧
    (enterFault r s).loader.rateDue = s.loader.rateDue ∧ (enterFault r s).host.rx = s.host.rx ∧
    (enterFault r s).host.gap = s.host.gap ∧ (enterFault r s).host.inProgress = s.host.inProgress ∧
    (enterFault r s).host.waiting = s.host.waiting ∧ (enterFault r s).host.overrun = s.host.overrun ∧
    (enterFault r s).host.framesDiscarded = s.host.framesDiscarded := by
  unfold enterFault
  simp

/-- A window close touches the Link Monitor, the grant, the queue and the slots alone. -/
@[simp] theorem closeWindow_frame (d : Bool) (s : State) :
    (closeWindow d s).now = s.now ∧ (closeWindow d s).pending = s.pending ∧
    (closeWindow d s).restartInput = s.restartInput ∧ (closeWindow d s).cutOutput = s.cutOutput ∧
    (closeWindow d s).bus = s.bus ∧ (closeWindow d s).sched.inFlight = s.sched.inFlight ∧
    (closeWindow d s).sched.spacing = s.sched.spacing ∧
    (closeWindow d s).sched.isolationCount = s.sched.isolationCount ∧
    (closeWindow d s).sched.requestsDropped = s.sched.requestsDropped ∧ (closeWindow d s).roster = s.roster ∧
    (closeWindow d s).planner = s.planner ∧ (closeWindow d s).grantCtl.settled = s.grantCtl.settled ∧
    (closeWindow d s).grantCtl.raiseHold = s.grantCtl.raiseHold ∧
    (closeWindow d s).grantCtl.deficit = s.grantCtl.deficit ∧
    (closeWindow d s).grantCtl.shedHold = s.grantCtl.shedHold ∧ (closeWindow d s).life = s.life ∧
    (closeWindow d s).meter = s.meter ∧ (closeWindow d s).enf = s.enf ∧ (closeWindow d s).loader = s.loader ∧
    (closeWindow d s).host.rx = s.host.rx ∧ (closeWindow d s).host.gap = s.host.gap ∧
    (closeWindow d s).host.inProgress = s.host.inProgress ∧ (closeWindow d s).host.waiting = s.host.waiting ∧
    (closeWindow d s).host.overrun = s.host.overrun ∧
    (closeWindow d s).host.framesDiscarded = s.host.framesDiscarded := by
  unfold closeWindow
  (repeat' split) <;> simp

/-- A frame event touches the Link Monitor, the grant, the queue and the slots alone. -/
@[simp] theorem frameEvent_frame (damaged : Bool) (s : State) :
    (frameEvent damaged s).now = s.now ∧ (frameEvent damaged s).pending = s.pending ∧
    (frameEvent damaged s).restartInput = s.restartInput ∧ (frameEvent damaged s).cutOutput = s.cutOutput ∧
    (frameEvent damaged s).bus = s.bus ∧ (frameEvent damaged s).sched.inFlight = s.sched.inFlight ∧
    (frameEvent damaged s).sched.spacing = s.sched.spacing ∧
    (frameEvent damaged s).sched.isolationCount = s.sched.isolationCount ∧
    (frameEvent damaged s).sched.requestsDropped = s.sched.requestsDropped ∧
    (frameEvent damaged s).roster = s.roster ∧ (frameEvent damaged s).planner = s.planner ∧
    (frameEvent damaged s).grantCtl.settled = s.grantCtl.settled ∧
    (frameEvent damaged s).grantCtl.raiseHold = s.grantCtl.raiseHold ∧
    (frameEvent damaged s).grantCtl.deficit = s.grantCtl.deficit ∧
    (frameEvent damaged s).grantCtl.shedHold = s.grantCtl.shedHold ∧ (frameEvent damaged s).life = s.life ∧
    (frameEvent damaged s).meter = s.meter ∧ (frameEvent damaged s).enf = s.enf ∧
    (frameEvent damaged s).loader = s.loader ∧ (frameEvent damaged s).host.rx = s.host.rx ∧
    (frameEvent damaged s).host.gap = s.host.gap ∧ (frameEvent damaged s).host.inProgress = s.host.inProgress ∧
    (frameEvent damaged s).host.waiting = s.host.waiting ∧ (frameEvent damaged s).host.overrun = s.host.overrun ∧
    (frameEvent damaged s).host.framesDiscarded = s.host.framesDiscarded := by
  unfold frameEvent
  (repeat' split) <;> simp

end Sys2Proof.Machine
end

