-- ==== Sys2Proof/Laws/Blocks.lean ====
section
/-! SUPPORT. What the operations of the other blocks leave as it was. -/

namespace Sys2Proof.Machine

/-- The two counts alone restart. -/
@[simp] theorem restartWindow_frame (s : State) :
    (restartWindow s).now = s.now ∧ (restartWindow s).pending = s.pending ∧
    (restartWindow s).restartInput = s.restartInput ∧ (restartWindow s).cutOutput = s.cutOutput ∧
    (restartWindow s).attention = s.attention ∧ (restartWindow s).bus = s.bus ∧ (restartWindow s).sched = s.sched ∧
    (restartWindow s).roster = s.roster ∧ (restartWindow s).planner = s.planner ∧
    (restartWindow s).grantCtl = s.grantCtl ∧ (restartWindow s).life = s.life ∧ (restartWindow s).meter = s.meter ∧
    (restartWindow s).enf = s.enf ∧ (restartWindow s).link.degraded = s.link.degraded ∧
    (restartWindow s).loader = s.loader ∧ (restartWindow s).host = s.host := by
  repeat (first | exact rfl | refine ⟨rfl, ?_⟩)

/-- The assembly alone is hunting again. -/
@[simp] theorem endHostFrame_frame (s : State) :
    (endHostFrame s).now = s.now ∧ (endHostFrame s).pending = s.pending ∧
    (endHostFrame s).restartInput = s.restartInput ∧ (endHostFrame s).cutOutput = s.cutOutput ∧
    (endHostFrame s).attention = s.attention ∧ (endHostFrame s).bus = s.bus ∧ (endHostFrame s).sched = s.sched ∧
    (endHostFrame s).roster = s.roster ∧ (endHostFrame s).planner = s.planner ∧
    (endHostFrame s).grantCtl = s.grantCtl ∧ (endHostFrame s).life = s.life ∧ (endHostFrame s).meter = s.meter ∧
    (endHostFrame s).enf = s.enf ∧ (endHostFrame s).link = s.link ∧ (endHostFrame s).loader = s.loader ∧
    (endHostFrame s).host.inProgress = s.host.inProgress ∧ (endHostFrame s).host.waiting = s.host.waiting ∧
    (endHostFrame s).host.overrun = s.host.overrun ∧ (endHostFrame s).host.queue = s.host.queue ∧
    (endHostFrame s).host.lostFlag = s.host.lostFlag ∧
    (endHostFrame s).host.framesDiscarded = s.host.framesDiscarded ∧
    (endHostFrame s).host.notesLost = s.host.notesLost := by
  repeat (first | exact rfl | refine ⟨rfl, ?_⟩)

/-- The Loader alone takes the image. -/
@[simp] theorem placeImage_frame (img : List Byte) (s : State) :
    (placeImage img s).now = s.now ∧ (placeImage img s).pending = s.pending ∧
    (placeImage img s).restartInput = s.restartInput ∧ (placeImage img s).cutOutput = s.cutOutput ∧
    (placeImage img s).attention = s.attention ∧ (placeImage img s).bus = s.bus ∧
    (placeImage img s).sched = s.sched ∧ (placeImage img s).roster = s.roster ∧
    (placeImage img s).planner = s.planner ∧ (placeImage img s).grantCtl = s.grantCtl ∧
    (placeImage img s).life = s.life ∧ (placeImage img s).meter = s.meter ∧ (placeImage img s).enf = s.enf ∧
    (placeImage img s).link = s.link ∧ (placeImage img s).loader.cause = s.loader.cause ∧
    (placeImage img s).loader.lineRate = s.loader.lineRate ∧ (placeImage img s).loader.rateDue = s.loader.rateDue ∧
    (placeImage img s).host = s.host := by
  repeat (first | exact rfl | refine ⟨rfl, ?_⟩)

/-- The three fields of the station record alone are taken. -/
@[simp] theorem takeStationRecord_frame (p : Params) (s : State) :
    (takeStationRecord p s).now = s.now ∧ (takeStationRecord p s).pending = s.pending ∧
    (takeStationRecord p s).restartInput = s.restartInput ∧ (takeStationRecord p s).cutOutput = s.cutOutput ∧
    (takeStationRecord p s).attention = s.attention ∧ (takeStationRecord p s).bus = s.bus ∧
    (takeStationRecord p s).sched = s.sched ∧ (takeStationRecord p s).roster = s.roster ∧
    (takeStationRecord p s).planner.claim.hostDemand = s.planner.claim.hostDemand ∧
    (takeStationRecord p s).planner.claim.effectiveDemand = s.planner.claim.effectiveDemand ∧
    (takeStationRecord p s).planner.claim.serial = s.planner.claim.serial ∧
    (takeStationRecord p s).planner.plan = s.planner.plan ∧
    (takeStationRecord p s).planner.digest = s.planner.digest ∧ (takeStationRecord p s).grantCtl = s.grantCtl ∧
    (takeStationRecord p s).life = s.life ∧ (takeStationRecord p s).meter = s.meter ∧
    (takeStationRecord p s).enf = s.enf ∧ (takeStationRecord p s).link = s.link ∧
    (takeStationRecord p s).loader = s.loader ∧ (takeStationRecord p s).host = s.host := by
  repeat (first | exact rfl | refine ⟨rfl, ?_⟩)

/-- The two timers alone are started. -/
@[simp] theorem startTimers_frame (s : State) :
    (startTimers s).now = s.now ∧ (startTimers s).pending = s.pending ∧
    (startTimers s).restartInput = s.restartInput ∧ (startTimers s).cutOutput = s.cutOutput ∧
    (startTimers s).attention = s.attention ∧ (startTimers s).bus = s.bus ∧ (startTimers s).sched = s.sched ∧
    (startTimers s).roster = s.roster ∧ (startTimers s).planner = s.planner ∧
    (startTimers s).grantCtl = s.grantCtl ∧ (startTimers s).life.state = s.life.state ∧
    (startTimers s).life.phase = s.life.phase ∧ (startTimers s).life.listen = s.life.listen ∧
    (startTimers s).life.tClean = s.life.tClean ∧ (startTimers s).life.tAny = s.life.tAny ∧
    (startTimers s).life.fallbackAt = s.life.fallbackAt ∧ (startTimers s).life.spentAt = s.life.spentAt ∧
    (startTimers s).meter.updates = s.meter.updates ∧ (startTimers s).meter.load = s.meter.load ∧
    (startTimers s).meter.feeder = s.meter.feeder ∧ (startTimers s).meter.trim = s.meter.trim ∧
    (startTimers s).meter.watch = s.meter.watch ∧ (startTimers s).meter.estimate = s.meter.estimate ∧
    (startTimers s).meter.overload = s.meter.overload ∧ (startTimers s).enf = s.enf ∧
    (startTimers s).link = s.link ∧ (startTimers s).loader = s.loader ∧ (startTimers s).host = s.host := by
  repeat (first | exact rfl | refine ⟨rfl, ?_⟩)

/-- The line state alone changes. -/
@[simp] theorem becomeIdle_frame (n : Nat) (s : State) :
    (becomeIdle n s).now = s.now ∧ (becomeIdle n s).pending = s.pending ∧ (becomeIdle n s).restartInput = s.restartInput ∧
    (becomeIdle n s).cutOutput = s.cutOutput ∧ (becomeIdle n s).attention = s.attention ∧
    (becomeIdle n s).bus.attempt = s.bus.attempt ∧ (becomeIdle n s).bus.trailer = s.bus.trailer ∧
    (becomeIdle n s).bus.framesSent = s.bus.framesSent ∧ (becomeIdle n s).bus.lost = s.bus.lost ∧
    (becomeIdle n s).bus.aborted = s.bus.aborted ∧ (becomeIdle n s).bus.partly = s.bus.partly ∧
    (becomeIdle n s).bus.unheard = s.bus.unheard ∧ (becomeIdle n s).bus.validReceived = s.bus.validReceived ∧
    (becomeIdle n s).bus.damagedReceived = s.bus.damagedReceived ∧ (becomeIdle n s).sched = s.sched ∧
    (becomeIdle n s).roster = s.roster ∧ (becomeIdle n s).planner = s.planner ∧ (becomeIdle n s).grantCtl = s.grantCtl ∧
    (becomeIdle n s).life = s.life ∧ (becomeIdle n s).meter = s.meter ∧ (becomeIdle n s).enf = s.enf ∧
    (becomeIdle n s).link = s.link ∧ (becomeIdle n s).loader = s.loader ∧ (becomeIdle n s).host = s.host := by
  repeat (first | exact rfl | refine ⟨rfl, ?_⟩)

/-- The line state and the assembly alone change, and no slot is driven yet (R98). -/
@[simp] theorem beginAssembly_frame (s : State) :
    (beginAssembly s).now = s.now ∧ (beginAssembly s).pending = s.pending ∧
    (beginAssembly s).restartInput = s.restartInput ∧ (beginAssembly s).cutOutput = s.cutOutput ∧
    (beginAssembly s).attention = s.attention ∧ (beginAssembly s).bus.attempt = s.bus.attempt ∧
    (beginAssembly s).bus.trailer = .neither ∧ (beginAssembly s).bus.framesSent = s.bus.framesSent ∧
    (beginAssembly s).bus.lost = s.bus.lost ∧ (beginAssembly s).bus.aborted = s.bus.aborted ∧
    (beginAssembly s).bus.partly = s.bus.partly ∧ (beginAssembly s).bus.unheard = s.bus.unheard ∧
    (beginAssembly s).bus.validReceived = s.bus.validReceived ∧
    (beginAssembly s).bus.damagedReceived = s.bus.damagedReceived ∧ (beginAssembly s).sched = s.sched ∧
    (beginAssembly s).roster = s.roster ∧ (beginAssembly s).planner = s.planner ∧
    (beginAssembly s).grantCtl = s.grantCtl ∧ (beginAssembly s).life = s.life ∧ (beginAssembly s).meter = s.meter ∧
    (beginAssembly s).enf = s.enf ∧ (beginAssembly s).link = s.link ∧ (beginAssembly s).loader = s.loader ∧
    (beginAssembly s).host = s.host := by
  repeat (first | exact rfl | refine ⟨rfl, ?_⟩)

/-- The entries, the forgotten set and the trailer alone change. -/
@[simp] theorem putEntry_frame (e : Entry) (s : State) :
    (putEntry e s).now = s.now ∧ (putEntry e s).pending = s.pending ∧ (putEntry e s).restartInput = s.restartInput ∧
    (putEntry e s).cutOutput = s.cutOutput ∧ (putEntry e s).attention = s.attention ∧
    (putEntry e s).bus.recessive = s.bus.recessive ∧ (putEntry e s).bus.endLeft = s.bus.endLeft ∧
    (putEntry e s).bus.idle = s.bus.idle ∧
    (putEntry e s).bus.assembly = s.bus.assembly ∧ (putEntry e s).bus.attempt = s.bus.attempt ∧
    (putEntry e s).bus.framesSent = s.bus.framesSent ∧ (putEntry e s).bus.lost = s.bus.lost ∧
    (putEntry e s).bus.aborted = s.bus.aborted ∧ (putEntry e s).bus.partly = s.bus.partly ∧
    (putEntry e s).bus.unheard = s.bus.unheard ∧ (putEntry e s).bus.validReceived = s.bus.validReceived ∧
    (putEntry e s).bus.damagedReceived = s.bus.damagedReceived ∧ (putEntry e s).sched = s.sched ∧
    (putEntry e s).roster.overflow = s.roster.overflow ∧
    (putEntry e s).roster.admissionsRefused = s.roster.admissionsRefused ∧
    (putEntry e s).roster.shedIgnored = s.roster.shedIgnored ∧ (putEntry e s).planner = s.planner ∧
    (putEntry e s).grantCtl = s.grantCtl ∧ (putEntry e s).life = s.life ∧ (putEntry e s).meter = s.meter ∧
    (putEntry e s).enf = s.enf ∧ (putEntry e s).link = s.link ∧ (putEntry e s).loader = s.loader ∧
    (putEntry e s).host = s.host := by
  repeat (first | exact rfl | refine ⟨rfl, ?_⟩)

/-- The overflow flag, the counter and the trailer alone change. -/
@[simp] theorem refuseAdmission_frame (s : State) :
    (refuseAdmission s).now = s.now ∧ (refuseAdmission s).pending = s.pending ∧
    (refuseAdmission s).restartInput = s.restartInput ∧ (refuseAdmission s).cutOutput = s.cutOutput ∧
    (refuseAdmission s).attention = s.attention ∧ (refuseAdmission s).bus.recessive = s.bus.recessive ∧
    (refuseAdmission s).bus.endLeft = s.bus.endLeft ∧
    (refuseAdmission s).bus.idle = s.bus.idle ∧ (refuseAdmission s).bus.assembly = s.bus.assembly ∧
    (refuseAdmission s).bus.attempt = s.bus.attempt ∧ (refuseAdmission s).bus.framesSent = s.bus.framesSent ∧
    (refuseAdmission s).bus.lost = s.bus.lost ∧ (refuseAdmission s).bus.aborted = s.bus.aborted ∧
    (refuseAdmission s).bus.partly = s.bus.partly ∧ (refuseAdmission s).bus.unheard = s.bus.unheard ∧
    (refuseAdmission s).bus.validReceived = s.bus.validReceived ∧
    (refuseAdmission s).bus.damagedReceived = s.bus.damagedReceived ∧ (refuseAdmission s).sched = s.sched ∧
    (refuseAdmission s).roster.entries = s.roster.entries ∧
    (refuseAdmission s).roster.forgotten = s.roster.forgotten ∧
    (refuseAdmission s).roster.shedIgnored = s.roster.shedIgnored ∧ (refuseAdmission s).planner = s.planner ∧
    (refuseAdmission s).grantCtl = s.grantCtl ∧ (refuseAdmission s).life = s.life ∧
    (refuseAdmission s).meter = s.meter ∧ (refuseAdmission s).enf = s.enf ∧ (refuseAdmission s).link = s.link ∧
    (refuseAdmission s).loader = s.loader ∧ (refuseAdmission s).host = s.host := by
  repeat (first | exact rfl | refine ⟨rfl, ?_⟩)

/-- The entries alone are touched. -/
@[simp] theorem confirmSender_frame (n : Station) (digest : Word16) (s : State) :
    (confirmSender n digest s).now = s.now ∧ (confirmSender n digest s).pending = s.pending ∧
    (confirmSender n digest s).restartInput = s.restartInput ∧ (confirmSender n digest s).cutOutput = s.cutOutput ∧
    (confirmSender n digest s).attention = s.attention ∧ (confirmSender n digest s).bus = s.bus ∧
    (confirmSender n digest s).sched = s.sched ∧ (confirmSender n digest s).roster.overflow = s.roster.overflow ∧
    (confirmSender n digest s).roster.forgotten = s.roster.forgotten ∧
    (confirmSender n digest s).roster.admissionsRefused = s.roster.admissionsRefused ∧
    (confirmSender n digest s).roster.shedIgnored = s.roster.shedIgnored ∧
    (confirmSender n digest s).planner = s.planner ∧ (confirmSender n digest s).grantCtl = s.grantCtl ∧
    (confirmSender n digest s).life = s.life ∧ (confirmSender n digest s).meter = s.meter ∧
    (confirmSender n digest s).enf = s.enf ∧ (confirmSender n digest s).link = s.link ∧
    (confirmSender n digest s).loader = s.loader ∧ (confirmSender n digest s).host = s.host := by
  repeat (first | exact rfl | refine ⟨rfl, ?_⟩)

/-- The entries and the overflow flag alone change. -/
@[simp] theorem dropEntry_frame (n : Station) (s : State) :
    (dropEntry n s).now = s.now ∧ (dropEntry n s).pending = s.pending ∧
    (dropEntry n s).restartInput = s.restartInput ∧ (dropEntry n s).cutOutput = s.cutOutput ∧
    (dropEntry n s).attention = s.attention ∧ (dropEntry n s).bus = s.bus ∧ (dropEntry n s).sched = s.sched ∧
    (dropEntry n s).roster.forgotten = s.roster.forgotten ∧
    (dropEntry n s).roster.admissionsRefused = s.roster.admissionsRefused ∧
    (dropEntry n s).roster.shedIgnored = s.roster.shedIgnored ∧ (dropEntry n s).planner = s.planner ∧
    (dropEntry n s).grantCtl = s.grantCtl ∧ (dropEntry n s).life = s.life ∧ (dropEntry n s).meter = s.meter ∧
    (dropEntry n s).enf = s.enf ∧ (dropEntry n s).link = s.link ∧ (dropEntry n s).loader = s.loader ∧
    (dropEntry n s).host = s.host := by
  repeat (first | exact rfl | refine ⟨rfl, ?_⟩)

/-- The trailer alone changes. -/
@[simp] theorem answerAccept_frame (s : State) :
    (answerAccept s).now = s.now ∧ (answerAccept s).pending = s.pending ∧
    (answerAccept s).restartInput = s.restartInput ∧ (answerAccept s).cutOutput = s.cutOutput ∧
    (answerAccept s).attention = s.attention ∧ (answerAccept s).bus.recessive = s.bus.recessive ∧
    (answerAccept s).bus.endLeft = s.bus.endLeft ∧
    (answerAccept s).bus.idle = s.bus.idle ∧ (answerAccept s).bus.assembly = s.bus.assembly ∧
    (answerAccept s).bus.attempt = s.bus.attempt ∧ (answerAccept s).bus.framesSent = s.bus.framesSent ∧
    (answerAccept s).bus.lost = s.bus.lost ∧ (answerAccept s).bus.aborted = s.bus.aborted ∧
    (answerAccept s).bus.partly = s.bus.partly ∧ (answerAccept s).bus.unheard = s.bus.unheard ∧
    (answerAccept s).bus.validReceived = s.bus.validReceived ∧
    (answerAccept s).bus.damagedReceived = s.bus.damagedReceived ∧ (answerAccept s).sched = s.sched ∧
    (answerAccept s).roster = s.roster ∧ (answerAccept s).planner = s.planner ∧
    (answerAccept s).grantCtl = s.grantCtl ∧ (answerAccept s).life = s.life ∧ (answerAccept s).meter = s.meter ∧
    (answerAccept s).enf = s.enf ∧ (answerAccept s).link = s.link ∧ (answerAccept s).loader = s.loader ∧
    (answerAccept s).host = s.host := by
  repeat (first | exact rfl | refine ⟨rfl, ?_⟩)

/-- The entries alone are touched. -/
@[simp] theorem refreshSender_frame (n : Station) (s : State) :
    (refreshSender n s).now = s.now ∧ (refreshSender n s).pending = s.pending ∧
    (refreshSender n s).restartInput = s.restartInput ∧ (refreshSender n s).cutOutput = s.cutOutput ∧
    (refreshSender n s).attention = s.attention ∧ (refreshSender n s).bus = s.bus ∧
    (refreshSender n s).sched = s.sched ∧ (refreshSender n s).roster.overflow = s.roster.overflow ∧
    (refreshSender n s).roster.forgotten = s.roster.forgotten ∧
    (refreshSender n s).roster.admissionsRefused = s.roster.admissionsRefused ∧
    (refreshSender n s).roster.shedIgnored = s.roster.shedIgnored ∧ (refreshSender n s).planner = s.planner ∧
    (refreshSender n s).grantCtl = s.grantCtl ∧ (refreshSender n s).life = s.life ∧
    (refreshSender n s).meter = s.meter ∧ (refreshSender n s).enf = s.enf ∧ (refreshSender n s).link = s.link ∧
    (refreshSender n s).loader = s.loader ∧ (refreshSender n s).host = s.host := by
  repeat (first | exact rfl | refine ⟨rfl, ?_⟩)

/-- The assembly and the counter alone change. -/
@[simp] theorem countValid_frame (s : State) :
    (countValid s).now = s.now ∧ (countValid s).pending = s.pending ∧ (countValid s).restartInput = s.restartInput ∧
    (countValid s).cutOutput = s.cutOutput ∧ (countValid s).attention = s.attention ∧
    (countValid s).bus.recessive = s.bus.recessive ∧ (countValid s).bus.endLeft = s.bus.endLeft ∧
    (countValid s).bus.idle = s.bus.idle ∧
    (countValid s).bus.attempt = s.bus.attempt ∧ (countValid s).bus.trailer = s.bus.trailer ∧
    (countValid s).bus.framesSent = s.bus.framesSent ∧ (countValid s).bus.lost = s.bus.lost ∧
    (countValid s).bus.aborted = s.bus.aborted ∧ (countValid s).bus.partly = s.bus.partly ∧
    (countValid s).bus.unheard = s.bus.unheard ∧ (countValid s).bus.damagedReceived = s.bus.damagedReceived ∧
    (countValid s).sched = s.sched ∧ (countValid s).roster = s.roster ∧ (countValid s).planner = s.planner ∧
    (countValid s).grantCtl = s.grantCtl ∧ (countValid s).life = s.life ∧ (countValid s).meter = s.meter ∧
    (countValid s).enf = s.enf ∧ (countValid s).link = s.link ∧ (countValid s).loader = s.loader ∧
    (countValid s).host = s.host := by
  repeat (first | exact rfl | refine ⟨rfl, ?_⟩)

/-- The trim and its watch alone end. -/
@[simp] theorem dropTrim_frame (s : State) :
    (dropTrim s).now = s.now ∧ (dropTrim s).pending = s.pending ∧ (dropTrim s).restartInput = s.restartInput ∧
    (dropTrim s).cutOutput = s.cutOutput ∧ (dropTrim s).attention = s.attention ∧ (dropTrim s).bus = s.bus ∧
    (dropTrim s).sched = s.sched ∧ (dropTrim s).roster = s.roster ∧ (dropTrim s).planner = s.planner ∧
    (dropTrim s).grantCtl = s.grantCtl ∧ (dropTrim s).life = s.life ∧ (dropTrim s).meter.update = s.meter.update ∧
    (dropTrim s).meter.updates = s.meter.updates ∧ (dropTrim s).meter.load = s.meter.load ∧
    (dropTrim s).meter.feeder = s.meter.feeder ∧ (dropTrim s).meter.estimate = s.meter.estimate ∧
    (dropTrim s).meter.overload = s.meter.overload ∧ (dropTrim s).enf = s.enf ∧ (dropTrim s).link = s.link ∧
    (dropTrim s).loader = s.loader ∧ (dropTrim s).host = s.host := by
  repeat (first | exact rfl | refine ⟨rfl, ?_⟩)

/-- The two channels alone change. -/
@[simp] theorem takeReadings_frame (load feeder : Reading) (s : State) :
    (takeReadings load feeder s).now = s.now ∧ (takeReadings load feeder s).pending = s.pending ∧
    (takeReadings load feeder s).restartInput = s.restartInput ∧
    (takeReadings load feeder s).cutOutput = s.cutOutput ∧ (takeReadings load feeder s).attention = s.attention ∧
    (takeReadings load feeder s).bus = s.bus ∧ (takeReadings load feeder s).sched = s.sched ∧
    (takeReadings load feeder s).roster = s.roster ∧ (takeReadings load feeder s).planner = s.planner ∧
    (takeReadings load feeder s).grantCtl = s.grantCtl ∧ (takeReadings load feeder s).life = s.life ∧
    (takeReadings load feeder s).meter.update = s.meter.update ∧
    (takeReadings load feeder s).meter.updates = s.meter.updates ∧
    (takeReadings load feeder s).meter.trim = s.meter.trim ∧
    (takeReadings load feeder s).meter.watch = s.meter.watch ∧
    (takeReadings load feeder s).meter.estimate = s.meter.estimate ∧
    (takeReadings load feeder s).meter.overload = s.meter.overload ∧ (takeReadings load feeder s).enf = s.enf ∧
    (takeReadings load feeder s).link = s.link ∧ (takeReadings load feeder s).loader = s.loader ∧
    (takeReadings load feeder s).host = s.host := by
  repeat (first | exact rfl | refine ⟨rfl, ?_⟩)

/-- The trim, its watch and U alone change. -/
@[simp] theorem withdrawFigures_frame (s : State) :
    (withdrawFigures s).now = s.now ∧ (withdrawFigures s).pending = s.pending ∧
    (withdrawFigures s).restartInput = s.restartInput ∧ (withdrawFigures s).cutOutput = s.cutOutput ∧
    (withdrawFigures s).attention = s.attention ∧ (withdrawFigures s).bus = s.bus ∧
    (withdrawFigures s).sched = s.sched ∧ (withdrawFigures s).roster = s.roster ∧
    (withdrawFigures s).planner = s.planner ∧ (withdrawFigures s).grantCtl = s.grantCtl ∧
    (withdrawFigures s).life = s.life ∧ (withdrawFigures s).meter.update = s.meter.update ∧
    (withdrawFigures s).meter.updates = s.meter.updates ∧ (withdrawFigures s).meter.load = s.meter.load ∧
    (withdrawFigures s).meter.feeder = s.meter.feeder ∧ (withdrawFigures s).meter.overload = s.meter.overload ∧
    (withdrawFigures s).enf = s.enf ∧ (withdrawFigures s).link = s.link ∧ (withdrawFigures s).loader = s.loader ∧
    (withdrawFigures s).host = s.host := by
  repeat (first | exact rfl | refine ⟨rfl, ?_⟩)

/-- The overload count alone changes. -/
@[simp] theorem judgeOverload_frame (feeder : Reading) (s : State) :
    (judgeOverload feeder s).now = s.now ∧ (judgeOverload feeder s).pending = s.pending ∧
    (judgeOverload feeder s).restartInput = s.restartInput ∧ (judgeOverload feeder s).cutOutput = s.cutOutput ∧
    (judgeOverload feeder s).attention = s.attention ∧ (judgeOverload feeder s).bus = s.bus ∧
    (judgeOverload feeder s).sched = s.sched ∧ (judgeOverload feeder s).roster = s.roster ∧
    (judgeOverload feeder s).planner = s.planner ∧ (judgeOverload feeder s).grantCtl = s.grantCtl ∧
    (judgeOverload feeder s).life = s.life ∧ (judgeOverload feeder s).meter.update = s.meter.update ∧
    (judgeOverload feeder s).meter.updates = s.meter.updates ∧ (judgeOverload feeder s).meter.load = s.meter.load ∧
    (judgeOverload feeder s).meter.feeder = s.meter.feeder ∧ (judgeOverload feeder s).meter.trim = s.meter.trim ∧
    (judgeOverload feeder s).meter.watch = s.meter.watch ∧
    (judgeOverload feeder s).meter.estimate = s.meter.estimate ∧ (judgeOverload feeder s).enf = s.enf ∧
    (judgeOverload feeder s).link = s.link ∧ (judgeOverload feeder s).loader = s.loader ∧
    (judgeOverload feeder s).host = s.host := by
  repeat (first | exact rfl | refine ⟨rfl, ?_⟩)

/-- The two channels alone change. -/
@[simp] theorem formSlowFigures_frame (s : State) :
    (formSlowFigures s).now = s.now ∧ (formSlowFigures s).pending = s.pending ∧
    (formSlowFigures s).restartInput = s.restartInput ∧ (formSlowFigures s).cutOutput = s.cutOutput ∧
    (formSlowFigures s).attention = s.attention ∧ (formSlowFigures s).bus = s.bus ∧
    (formSlowFigures s).sched = s.sched ∧ (formSlowFigures s).roster = s.roster ∧
    (formSlowFigures s).planner = s.planner ∧ (formSlowFigures s).grantCtl = s.grantCtl ∧
    (formSlowFigures s).life = s.life ∧ (formSlowFigures s).meter.update = s.meter.update ∧
    (formSlowFigures s).meter.updates = s.meter.updates ∧ (formSlowFigures s).meter.trim = s.meter.trim ∧
    (formSlowFigures s).meter.watch = s.meter.watch ∧ (formSlowFigures s).meter.estimate = s.meter.estimate ∧
    (formSlowFigures s).meter.overload = s.meter.overload ∧ (formSlowFigures s).enf = s.enf ∧
    (formSlowFigures s).link = s.link ∧ (formSlowFigures s).loader = s.loader ∧ (formSlowFigures s).host = s.host := by
  repeat (first | exact rfl | refine ⟨rfl, ?_⟩)

/-- U alone changes. -/
@[simp] theorem formEstimate_frame (s : State) :
    (formEstimate s).now = s.now ∧ (formEstimate s).pending = s.pending ∧
    (formEstimate s).restartInput = s.restartInput ∧ (formEstimate s).cutOutput = s.cutOutput ∧
    (formEstimate s).attention = s.attention ∧ (formEstimate s).bus = s.bus ∧ (formEstimate s).sched = s.sched ∧
    (formEstimate s).roster = s.roster ∧ (formEstimate s).planner = s.planner ∧
    (formEstimate s).grantCtl = s.grantCtl ∧ (formEstimate s).life = s.life ∧
    (formEstimate s).meter.update = s.meter.update ∧ (formEstimate s).meter.updates = s.meter.updates ∧
    (formEstimate s).meter.load = s.meter.load ∧ (formEstimate s).meter.feeder = s.meter.feeder ∧
    (formEstimate s).meter.trim = s.meter.trim ∧ (formEstimate s).meter.watch = s.meter.watch ∧
    (formEstimate s).meter.overload = s.meter.overload ∧ (formEstimate s).enf = s.enf ∧
    (formEstimate s).link = s.link ∧ (formEstimate s).loader = s.loader ∧ (formEstimate s).host = s.host := by
  repeat (first | exact rfl | refine ⟨rfl, ?_⟩)

/-- The update timer and its count alone change. -/
@[simp] theorem countUpdate_frame (d : Time) (s : State) :
    (countUpdate d s).now = s.now ∧ (countUpdate d s).pending = s.pending ∧
    (countUpdate d s).restartInput = s.restartInput ∧ (countUpdate d s).cutOutput = s.cutOutput ∧
    (countUpdate d s).attention = s.attention ∧ (countUpdate d s).bus = s.bus ∧ (countUpdate d s).sched = s.sched ∧
    (countUpdate d s).roster = s.roster ∧ (countUpdate d s).planner = s.planner ∧
    (countUpdate d s).grantCtl = s.grantCtl ∧ (countUpdate d s).life = s.life ∧
    (countUpdate d s).meter.load = s.meter.load ∧ (countUpdate d s).meter.feeder = s.meter.feeder ∧
    (countUpdate d s).meter.trim = s.meter.trim ∧ (countUpdate d s).meter.watch = s.meter.watch ∧
    (countUpdate d s).meter.estimate = s.meter.estimate ∧ (countUpdate d s).meter.overload = s.meter.overload ∧
    (countUpdate d s).enf = s.enf ∧ (countUpdate d s).link = s.link ∧ (countUpdate d s).loader = s.loader ∧
    (countUpdate d s).host = s.host := by
  repeat (first | exact rfl | refine ⟨rfl, ?_⟩)

/-- The two timers alone run again. -/
@[simp] theorem resumeEnforcement_frame (s : State) :
    (resumeEnforcement s).now = s.now ∧ (resumeEnforcement s).pending = s.pending ∧
    (resumeEnforcement s).restartInput = s.restartInput ∧ (resumeEnforcement s).cutOutput = s.cutOutput ∧
    (resumeEnforcement s).attention = s.attention ∧ (resumeEnforcement s).bus = s.bus ∧
    (resumeEnforcement s).sched = s.sched ∧ (resumeEnforcement s).roster = s.roster ∧
    (resumeEnforcement s).planner = s.planner ∧ (resumeEnforcement s).grantCtl = s.grantCtl ∧
    (resumeEnforcement s).life = s.life ∧ (resumeEnforcement s).meter = s.meter ∧
    (resumeEnforcement s).enf.state = s.enf.state ∧ (resumeEnforcement s).link = s.link ∧
    (resumeEnforcement s).loader = s.loader ∧ (resumeEnforcement s).host = s.host := by
  repeat (first | exact rfl | refine ⟨rfl, ?_⟩)

/-- The attempt's mark alone changes. -/
@[simp] theorem markAttempt_frame (m : FirstFrame) (b : List Byte) (s : State) :
    (markAttempt m b s).now = s.now ∧ (markAttempt m b s).pending = s.pending ∧
    (markAttempt m b s).restartInput = s.restartInput ∧ (markAttempt m b s).cutOutput = s.cutOutput ∧
    (markAttempt m b s).attention = s.attention ∧ (markAttempt m b s).bus.recessive = s.bus.recessive ∧
    (markAttempt m b s).bus.endLeft = s.bus.endLeft ∧
    (markAttempt m b s).bus.idle = s.bus.idle ∧ (markAttempt m b s).bus.assembly = s.bus.assembly ∧
    (markAttempt m b s).bus.trailer = s.bus.trailer ∧ (markAttempt m b s).bus.framesSent = s.bus.framesSent ∧
    (markAttempt m b s).bus.lost = s.bus.lost ∧ (markAttempt m b s).bus.aborted = s.bus.aborted ∧
    (markAttempt m b s).bus.partly = s.bus.partly ∧ (markAttempt m b s).bus.unheard = s.bus.unheard ∧
    (markAttempt m b s).bus.validReceived = s.bus.validReceived ∧
    (markAttempt m b s).bus.damagedReceived = s.bus.damagedReceived ∧ (markAttempt m b s).sched = s.sched ∧
    (markAttempt m b s).roster = s.roster ∧ (markAttempt m b s).planner = s.planner ∧
    (markAttempt m b s).grantCtl = s.grantCtl ∧ (markAttempt m b s).life = s.life ∧
    (markAttempt m b s).meter = s.meter ∧ (markAttempt m b s).enf = s.enf ∧ (markAttempt m b s).link = s.link ∧
    (markAttempt m b s).loader = s.loader ∧ (markAttempt m b s).host = s.host := by
  unfold markAttempt
  split <;> repeat (first | exact rfl | refine ⟨rfl, ?_⟩)

/-- An attempt stays on the line, so that its outcome is still drawn (R113, R121). -/
@[simp] theorem markAttempt_isSome (m : FirstFrame) (b : List Byte) (s : State) :
    (markAttempt m b s).bus.attempt.isSome = s.bus.attempt.isSome := by
  unfold markAttempt
  split
  · rfl
  · exact Option.isSome_map

/-- A frame that an assembly takes marks no attempt. -/
theorem markAttempt_of_canTake {m : FirstFrame} {b : List Byte} {s : State} (h : s.canTake b = true) :
    markAttempt m b s = s := if_pos h

/-- The mark of the attempt on the line. -/
theorem firstFrame_of_attempt {s : State} {a : Attempt} (h : s.bus.attempt = some a) : s.firstFrame = a.first := by
  unfold State.firstFrame
  rw [h]

/-- The mark that a frame which no assembly takes leaves on the attempt. -/
theorem markAttempt_attempt {m : FirstFrame} {b : List Byte} {s : State} (h : s.canTake b = false) :
    (markAttempt m b s).bus.attempt = s.bus.attempt.map fun a => { a with first := m } := by
  simp [markAttempt, h]

/-- Where our broken frame was not taken first, the attempt that can still end through its trailer is the one on the line. -/
theorem openAttempt_of_not_broken {s : State} (h : s.firstFrame ≠ .broken) : s.openAttempt = s.ownAttempt := if_neg h

/-- Where no frame was taken before the outcome, neither slot is driven after it (R98). -/
theorem trailerAfterAttempt_of_nothing {s : State} (h : s.firstFrame = .nothing) : s.trailerAfterAttempt = .neither :=
  if_pos h

/-- The answer to a frame that was taken before the outcome stands (R113, R121). -/
theorem trailerAfterAttempt_of_first {s : State} (h : s.firstFrame ≠ .nothing) : s.trailerAfterAttempt = s.bus.trailer :=
  if_neg h

/-- An outcome is due from the end of the REFUSE slot on, three bits after the last one of the check field (R99). -/
theorem outcomeDue_iff {s : State} {a : Attempt} (h : s.bus.attempt = some a) :
    s.outcomeDue = true ↔ a.first = .nothing ∧ a.frame.lastBit + 3 ≤ (s.now - a.startedAt) / bitTime s.params := by
  simp [State.outcomeDue, State.attemptBit, h]

/-- A frame that an assembly takes is received as it is. -/
theorem takeFrame_of_canTake {f : Frame} {b : List Byte} {l : Bool} {s : State} (h : s.canTake b = true) :
    takeFrame f b l s = receiveValid f l (frameEnds b s) := by
  simp [takeFrame, State.canTakeValid, markAttempt_of_canTake h, h]

/-- The count and the place in the frame alone change. -/
@[simp] theorem frameEnds_frame (b : List Byte) (s : State) :
    (frameEnds b s).now = s.now ∧ (frameEnds b s).pending = s.pending ∧
    (frameEnds b s).restartInput = s.restartInput ∧ (frameEnds b s).cutOutput = s.cutOutput ∧
    (frameEnds b s).attention = s.attention ∧ (frameEnds b s).bus.idle = s.bus.idle ∧
    (frameEnds b s).bus.assembly = s.bus.assembly ∧ (frameEnds b s).bus.attempt = s.bus.attempt ∧
    (frameEnds b s).bus.trailer = s.bus.trailer ∧ (frameEnds b s).bus.framesSent = s.bus.framesSent ∧
    (frameEnds b s).bus.lost = s.bus.lost ∧ (frameEnds b s).bus.aborted = s.bus.aborted ∧
    (frameEnds b s).bus.partly = s.bus.partly ∧ (frameEnds b s).bus.unheard = s.bus.unheard ∧
    (frameEnds b s).bus.validReceived = s.bus.validReceived ∧
    (frameEnds b s).bus.damagedReceived = s.bus.damagedReceived ∧ (frameEnds b s).sched = s.sched ∧
    (frameEnds b s).roster = s.roster ∧ (frameEnds b s).planner = s.planner ∧ (frameEnds b s).grantCtl = s.grantCtl ∧
    (frameEnds b s).life = s.life ∧ (frameEnds b s).meter = s.meter ∧ (frameEnds b s).enf = s.enf ∧
    (frameEnds b s).link = s.link ∧ (frameEnds b s).loader = s.loader ∧ (frameEnds b s).host = s.host := by
  repeat (first | exact rfl | refine ⟨rfl, ?_⟩)

/-- The count and the place in the frame alone change. -/
@[simp] theorem slotsRead_frame (accept refuse : Bool) (f : Frame) (s : State) :
    (slotsRead accept refuse f s).now = s.now ∧ (slotsRead accept refuse f s).pending = s.pending ∧
    (slotsRead accept refuse f s).restartInput = s.restartInput ∧
    (slotsRead accept refuse f s).cutOutput = s.cutOutput ∧ (slotsRead accept refuse f s).attention = s.attention ∧
    (slotsRead accept refuse f s).bus.idle = s.bus.idle ∧
    (slotsRead accept refuse f s).bus.assembly = s.bus.assembly ∧
    (slotsRead accept refuse f s).bus.attempt = s.bus.attempt ∧
    (slotsRead accept refuse f s).bus.trailer = s.bus.trailer ∧
    (slotsRead accept refuse f s).bus.framesSent = s.bus.framesSent ∧
    (slotsRead accept refuse f s).bus.lost = s.bus.lost ∧ (slotsRead accept refuse f s).bus.aborted = s.bus.aborted ∧
    (slotsRead accept refuse f s).bus.partly = s.bus.partly ∧
    (slotsRead accept refuse f s).bus.unheard = s.bus.unheard ∧
    (slotsRead accept refuse f s).bus.validReceived = s.bus.validReceived ∧
    (slotsRead accept refuse f s).bus.damagedReceived = s.bus.damagedReceived ∧
    (slotsRead accept refuse f s).sched = s.sched ∧ (slotsRead accept refuse f s).roster = s.roster ∧
    (slotsRead accept refuse f s).planner = s.planner ∧ (slotsRead accept refuse f s).grantCtl = s.grantCtl ∧
    (slotsRead accept refuse f s).life = s.life ∧ (slotsRead accept refuse f s).meter = s.meter ∧
    (slotsRead accept refuse f s).enf = s.enf ∧ (slotsRead accept refuse f s).link = s.link ∧
    (slotsRead accept refuse f s).loader = s.loader ∧ (slotsRead accept refuse f s).host = s.host := by
  repeat (first | exact rfl | refine ⟨rfl, ?_⟩)

/-- The assembly, the slots and the count alone change. -/
@[simp] theorem abandon_frame (level : Bool) (s : State) :
    (abandon level s).now = s.now ∧ (abandon level s).pending = s.pending ∧
    (abandon level s).restartInput = s.restartInput ∧ (abandon level s).cutOutput = s.cutOutput ∧
    (abandon level s).attention = s.attention ∧ (abandon level s).bus.idle = s.bus.idle ∧
    (abandon level s).bus.endLeft = s.bus.endLeft ∧ (abandon level s).bus.attempt = s.bus.attempt ∧
    (abandon level s).bus.framesSent = s.bus.framesSent ∧ (abandon level s).bus.lost = s.bus.lost ∧
    (abandon level s).bus.aborted = s.bus.aborted ∧ (abandon level s).bus.partly = s.bus.partly ∧
    (abandon level s).bus.unheard = s.bus.unheard ∧ (abandon level s).bus.validReceived = s.bus.validReceived ∧
    (abandon level s).bus.damagedReceived = s.bus.damagedReceived ∧ (abandon level s).sched = s.sched ∧
    (abandon level s).roster = s.roster ∧ (abandon level s).planner = s.planner ∧
    (abandon level s).grantCtl = s.grantCtl ∧ (abandon level s).life = s.life ∧ (abandon level s).meter = s.meter ∧
    (abandon level s).enf = s.enf ∧ (abandon level s).link = s.link ∧ (abandon level s).loader = s.loader ∧
    (abandon level s).host = s.host := by
  repeat (first | exact rfl | refine ⟨rfl, ?_⟩)

/-- The count goes on through one stretch of bits and then the next (R88). -/
theorem countRecessive_append (n : Nat) (xs ys : List Bool) :
    countRecessive n (xs ++ ys) = countRecessive (countRecessive n xs) ys := List.foldl_append

/-- A dominant bit restarts the count (R88). -/
@[simp] theorem countRecessive_dominant (n : Nat) (xs : List Bool) : countRecessive n (xs ++ [false]) = 0 := by
  simp [countRecessive]

/-- A recessive bit adds 1 to the count (R88). -/
@[simp] theorem countRecessive_recessive (n : Nat) (xs : List Bool) :
    countRecessive n (xs ++ [true]) = countRecessive n xs + 1 := by simp [countRecessive]

/-- A dominant bit restarts the count on the way to the idle bus, in the end field too (R88, R100). -/
theorem idleAfter_dominant (t : Trailer) (count left : Nat) (rest : List Bool) :
    idleAfter t count left (false :: rest) = idleAfter t 0 (left - 1) rest := by simp [idleAfter]

/-- A recessive bit in a slot that we do not drive goes on with the count, where it does not bring the idle bus (R88). -/
theorem idleAfter_recessive {t : Trailer} {count left : Nat} {rest : List Bool} (hd : t.drives left = false)
    (h : count + 1 < Config.idleCount ∨ 1 < left) :
    idleAfter t count left (true :: rest) = idleAfter t (count + 1) (left - 1) rest := by
  have : ¬(Config.idleCount ≤ count + 1 ∧ left ≤ 1) := by omega
  simp [idleAfter, hd, this]

/-- The bus becomes idle at the tenth recessive bit or a later one (R88). -/
theorem idleAfter_count {t : Trailer} {count left n : Nat} {bits : List Bool} (h : idleAfter t count left bits = some n) :
    Config.idleCount ≤ n := by
  induction bits generalizing count left with
  | nil => cases h
  | cons b rest ih =>
    simp only [idleAfter] at h
    generalize (if (b && !t.drives left) = true then count + 1 else 0) = m at h
    by_cases hc : Config.idleCount ≤ m ∧ left ≤ 1
    · rw [if_pos hc] at h
      split at h
      · cases h; exact hc.1
      · cases h
    · rw [if_neg hc] at h; exact ih h

/-- The assembly and the count of recessive bits alone change. -/
@[simp] theorem keepAssembling_frame (o : AssemblyOrigin) (f : Frame) (pos : Nat) (s : State) :
    (keepAssembling o f pos s).now = s.now ∧ (keepAssembling o f pos s).pending = s.pending ∧
    (keepAssembling o f pos s).restartInput = s.restartInput ∧ (keepAssembling o f pos s).cutOutput = s.cutOutput ∧
    (keepAssembling o f pos s).attention = s.attention ∧
    (keepAssembling o f pos s).bus.endLeft = s.bus.endLeft ∧ (keepAssembling o f pos s).bus.idle = s.bus.idle ∧
    (keepAssembling o f pos s).bus.attempt = s.bus.attempt ∧
    (keepAssembling o f pos s).bus.trailer = s.bus.trailer ∧
    (keepAssembling o f pos s).bus.framesSent = s.bus.framesSent ∧
    (keepAssembling o f pos s).bus.lost = s.bus.lost ∧ (keepAssembling o f pos s).bus.aborted = s.bus.aborted ∧
    (keepAssembling o f pos s).bus.partly = s.bus.partly ∧ (keepAssembling o f pos s).bus.unheard = s.bus.unheard ∧
    (keepAssembling o f pos s).bus.validReceived = s.bus.validReceived ∧
    (keepAssembling o f pos s).bus.damagedReceived = s.bus.damagedReceived ∧
    (keepAssembling o f pos s).sched = s.sched ∧ (keepAssembling o f pos s).roster = s.roster ∧
    (keepAssembling o f pos s).planner = s.planner ∧ (keepAssembling o f pos s).grantCtl = s.grantCtl ∧
    (keepAssembling o f pos s).life = s.life ∧ (keepAssembling o f pos s).meter = s.meter ∧
    (keepAssembling o f pos s).enf = s.enf ∧ (keepAssembling o f pos s).link = s.link ∧
    (keepAssembling o f pos s).loader = s.loader ∧ (keepAssembling o f pos s).host = s.host := by
  repeat (first | exact rfl | refine ⟨rfl, ?_⟩)

/-- The assembly and the counter alone change. -/
@[simp] theorem discardHostFrame_frame (s : State) :
    (discardHostFrame s).now = s.now ∧ (discardHostFrame s).pending = s.pending ∧
    (discardHostFrame s).restartInput = s.restartInput ∧ (discardHostFrame s).cutOutput = s.cutOutput ∧
    (discardHostFrame s).attention = s.attention ∧ (discardHostFrame s).bus = s.bus ∧
    (discardHostFrame s).sched = s.sched ∧ (discardHostFrame s).roster = s.roster ∧
    (discardHostFrame s).planner = s.planner ∧ (discardHostFrame s).grantCtl = s.grantCtl ∧
    (discardHostFrame s).life = s.life ∧ (discardHostFrame s).meter = s.meter ∧ (discardHostFrame s).enf = s.enf ∧
    (discardHostFrame s).link = s.link ∧ (discardHostFrame s).loader = s.loader ∧
    (discardHostFrame s).host.inProgress = s.host.inProgress ∧ (discardHostFrame s).host.waiting = s.host.waiting ∧
    (discardHostFrame s).host.overrun = s.host.overrun ∧ (discardHostFrame s).host.queue = s.host.queue ∧
    (discardHostFrame s).host.lostFlag = s.host.lostFlag ∧ (discardHostFrame s).host.notesLost = s.host.notesLost := by
  unfold discardHostFrame
  (repeat' split) <;> simp

/-- The rate and the frame being received alone change. -/
@[simp] theorem setRate_frame (r : LineRate) (s : State) :
    (setRate r s).now = s.now ∧ (setRate r s).pending = s.pending ∧ (setRate r s).restartInput = s.restartInput ∧
    (setRate r s).cutOutput = s.cutOutput ∧ (setRate r s).attention = s.attention ∧ (setRate r s).bus = s.bus ∧
    (setRate r s).sched = s.sched ∧ (setRate r s).roster = s.roster ∧ (setRate r s).planner = s.planner ∧
    (setRate r s).grantCtl = s.grantCtl ∧ (setRate r s).life = s.life ∧ (setRate r s).meter = s.meter ∧
    (setRate r s).enf = s.enf ∧ (setRate r s).link = s.link ∧ (setRate r s).loader.stage = s.loader.stage ∧
    (setRate r s).loader.readStep = s.loader.readStep ∧ (setRate r s).loader.heldCopy = s.loader.heldCopy ∧
    (setRate r s).loader.networkDigest = s.loader.networkDigest ∧ (setRate r s).loader.reason = s.loader.reason ∧
    (setRate r s).loader.cause = s.loader.cause ∧ (setRate r s).loader.reverify = s.loader.reverify ∧
    (setRate r s).host.inProgress = s.host.inProgress ∧ (setRate r s).host.waiting = s.host.waiting ∧
    (setRate r s).host.overrun = s.host.overrun ∧ (setRate r s).host.queue = s.host.queue ∧
    (setRate r s).host.lostFlag = s.host.lostFlag ∧ (setRate r s).host.notesLost = s.host.notesLost := by
  unfold setRate
  (repeat' split) <;> simp

/-- The rate and the frame being received alone change. -/
@[simp] theorem applyRateDue_frame (s : State) :
    (applyRateDue s).now = s.now ∧ (applyRateDue s).pending = s.pending ∧
    (applyRateDue s).restartInput = s.restartInput ∧ (applyRateDue s).cutOutput = s.cutOutput ∧
    (applyRateDue s).attention = s.attention ∧ (applyRateDue s).bus = s.bus ∧ (applyRateDue s).sched = s.sched ∧
    (applyRateDue s).roster = s.roster ∧ (applyRateDue s).planner = s.planner ∧
    (applyRateDue s).grantCtl = s.grantCtl ∧ (applyRateDue s).life = s.life ∧ (applyRateDue s).meter = s.meter ∧
    (applyRateDue s).enf = s.enf ∧ (applyRateDue s).link = s.link ∧ (applyRateDue s).loader.stage = s.loader.stage ∧
    (applyRateDue s).loader.readStep = s.loader.readStep ∧ (applyRateDue s).loader.heldCopy = s.loader.heldCopy ∧
    (applyRateDue s).loader.networkDigest = s.loader.networkDigest ∧
    (applyRateDue s).loader.reason = s.loader.reason ∧ (applyRateDue s).loader.cause = s.loader.cause ∧
    (applyRateDue s).loader.reverify = s.loader.reverify ∧ (applyRateDue s).host.inProgress = s.host.inProgress ∧
    (applyRateDue s).host.waiting = s.host.waiting ∧ (applyRateDue s).host.overrun = s.host.overrun ∧
    (applyRateDue s).host.queue = s.host.queue ∧ (applyRateDue s).host.lostFlag = s.host.lostFlag ∧
    (applyRateDue s).host.notesLost = s.host.notesLost := by
  unfold applyRateDue
  (repeat' split) <;> simp

/-- What a change of the host demand leaves as it was. -/
@[simp] theorem setHostDemand_frame (v : Current) (s : State) :
    (setHostDemand v s).now = s.now ∧ (setHostDemand v s).pending = s.pending ∧
    (setHostDemand v s).restartInput = s.restartInput ∧ (setHostDemand v s).bus = s.bus ∧
    (setHostDemand v s).sched.inFlight = s.sched.inFlight ∧ (setHostDemand v s).sched.spacing = s.sched.spacing ∧
    (setHostDemand v s).sched.isolationCount = s.sched.isolationCount ∧
    (setHostDemand v s).sched.requestsDropped = s.sched.requestsDropped ∧
    (setHostDemand v s).roster.overflow = s.roster.overflow ∧
    (setHostDemand v s).roster.forgotten = s.roster.forgotten ∧
    (setHostDemand v s).roster.admissionsRefused = s.roster.admissionsRefused ∧
    (setHostDemand v s).roster.shedIgnored = s.roster.shedIgnored ∧
    (setHostDemand v s).planner.claim.priority = s.planner.claim.priority ∧
    (setHostDemand v s).planner.claim.min = s.planner.claim.min ∧
    (setHostDemand v s).planner.claim.max = s.planner.claim.max ∧
    (setHostDemand v s).grantCtl.deficit = s.grantCtl.deficit ∧
    (setHostDemand v s).grantCtl.shedHold = s.grantCtl.shedHold ∧ (setHostDemand v s).life.listen = s.life.listen ∧
    (setHostDemand v s).life.cycle = s.life.cycle ∧ (setHostDemand v s).life.tClean = s.life.tClean ∧
    (setHostDemand v s).life.tAny = s.life.tAny ∧ (setHostDemand v s).life.fallbackAt = s.life.fallbackAt ∧
    (setHostDemand v s).life.spentAt = s.life.spentAt ∧ (setHostDemand v s).meter.update = s.meter.update ∧
    (setHostDemand v s).meter.updates = s.meter.updates ∧ (setHostDemand v s).meter.load = s.meter.load ∧
    (setHostDemand v s).meter.feeder = s.meter.feeder ∧ (setHostDemand v s).meter.estimate = s.meter.estimate ∧
    (setHostDemand v s).meter.overload = s.meter.overload ∧ (setHostDemand v s).enf = s.enf ∧
    (setHostDemand v s).link = s.link ∧ (setHostDemand v s).loader = s.loader ∧
    (setHostDemand v s).host.rx = s.host.rx ∧ (setHostDemand v s).host.gap = s.host.gap ∧
    (setHostDemand v s).host.inProgress = s.host.inProgress ∧ (setHostDemand v s).host.waiting = s.host.waiting ∧
    (setHostDemand v s).host.overrun = s.host.overrun ∧
    (setHostDemand v s).host.framesDiscarded = s.host.framesDiscarded := by
  unfold setHostDemand
  (repeat' split) <;> simp

/-- The slots and the counter alone change. -/
@[simp] theorem disposeRequest_frame (o : AttemptOutcome) (a : InFlight) (s : State) :
    (disposeRequest o a s).now = s.now ∧ (disposeRequest o a s).pending = s.pending ∧
    (disposeRequest o a s).restartInput = s.restartInput ∧ (disposeRequest o a s).cutOutput = s.cutOutput ∧
    (disposeRequest o a s).attention = s.attention ∧ (disposeRequest o a s).bus = s.bus ∧
    (disposeRequest o a s).sched.inFlight = s.sched.inFlight ∧
    (disposeRequest o a s).sched.spacing = s.sched.spacing ∧
    (disposeRequest o a s).sched.isolationCount = s.sched.isolationCount ∧
    (disposeRequest o a s).roster = s.roster ∧ (disposeRequest o a s).planner = s.planner ∧
    (disposeRequest o a s).grantCtl = s.grantCtl ∧ (disposeRequest o a s).life = s.life ∧
    (disposeRequest o a s).meter = s.meter ∧ (disposeRequest o a s).enf = s.enf ∧
    (disposeRequest o a s).link = s.link ∧ (disposeRequest o a s).loader = s.loader ∧
    (disposeRequest o a s).host = s.host := by
  unfold disposeRequest
  (repeat' split) <;> simp

/-- The spacing timer alone changes. -/
@[simp] theorem startSpacing_frame (o : AttemptOutcome) (k : Kind) (s : State) :
    (startSpacing o k s).now = s.now ∧ (startSpacing o k s).pending = s.pending ∧
    (startSpacing o k s).restartInput = s.restartInput ∧ (startSpacing o k s).cutOutput = s.cutOutput ∧
    (startSpacing o k s).attention = s.attention ∧ (startSpacing o k s).bus = s.bus ∧
    (startSpacing o k s).sched.shed = s.sched.shed ∧ (startSpacing o k s).sched.leave = s.sched.leave ∧
    (startSpacing o k s).sched.announce = s.sched.announce ∧ (startSpacing o k s).sched.status = s.sched.status ∧
    (startSpacing o k s).sched.inFlight = s.sched.inFlight ∧
    (startSpacing o k s).sched.isolationCount = s.sched.isolationCount ∧
    (startSpacing o k s).sched.requestsDropped = s.sched.requestsDropped ∧ (startSpacing o k s).roster = s.roster ∧
    (startSpacing o k s).planner = s.planner ∧ (startSpacing o k s).grantCtl = s.grantCtl ∧
    (startSpacing o k s).life = s.life ∧ (startSpacing o k s).meter = s.meter ∧ (startSpacing o k s).enf = s.enf ∧
    (startSpacing o k s).link = s.link ∧ (startSpacing o k s).loader = s.loader ∧ (startSpacing o k s).host = s.host := by
  unfold startSpacing
  (repeat' split) <;> simp

/-- What a report to the Link Monitor touches. -/
@[simp] theorem reportOutcome_frame (o : AttemptOutcome) (s : State) :
    (reportOutcome o s).now = s.now ∧ (reportOutcome o s).pending = s.pending ∧
    (reportOutcome o s).restartInput = s.restartInput ∧ (reportOutcome o s).cutOutput = s.cutOutput ∧
    (reportOutcome o s).bus = s.bus ∧ (reportOutcome o s).sched.inFlight = s.sched.inFlight ∧
    (reportOutcome o s).sched.spacing = s.sched.spacing ∧
    (reportOutcome o s).sched.isolationCount = s.sched.isolationCount ∧
    (reportOutcome o s).sched.requestsDropped = s.sched.requestsDropped ∧ (reportOutcome o s).roster = s.roster ∧
    (reportOutcome o s).planner = s.planner ∧ (reportOutcome o s).grantCtl.settled = s.grantCtl.settled ∧
    (reportOutcome o s).grantCtl.raiseHold = s.grantCtl.raiseHold ∧
    (reportOutcome o s).grantCtl.deficit = s.grantCtl.deficit ∧
    (reportOutcome o s).grantCtl.shedHold = s.grantCtl.shedHold ∧ (reportOutcome o s).life = s.life ∧
    (reportOutcome o s).meter = s.meter ∧ (reportOutcome o s).enf = s.enf ∧ (reportOutcome o s).loader = s.loader ∧
    (reportOutcome o s).host.rx = s.host.rx ∧ (reportOutcome o s).host.gap = s.host.gap ∧
    (reportOutcome o s).host.inProgress = s.host.inProgress ∧ (reportOutcome o s).host.waiting = s.host.waiting ∧
    (reportOutcome o s).host.overrun = s.host.overrun ∧
    (reportOutcome o s).host.framesDiscarded = s.host.framesDiscarded := by
  unfold reportOutcome
  (repeat' split) <;> simp

/-- The isolation count alone changes. -/
@[simp] theorem countIsolation_frame (o : AttemptOutcome) (s : State) :
    (countIsolation o s).now = s.now ∧ (countIsolation o s).pending = s.pending ∧
    (countIsolation o s).restartInput = s.restartInput ∧ (countIsolation o s).cutOutput = s.cutOutput ∧
    (countIsolation o s).attention = s.attention ∧ (countIsolation o s).bus = s.bus ∧
    (countIsolation o s).sched.shed = s.sched.shed ∧ (countIsolation o s).sched.leave = s.sched.leave ∧
    (countIsolation o s).sched.announce = s.sched.announce ∧ (countIsolation o s).sched.status = s.sched.status ∧
    (countIsolation o s).sched.inFlight = s.sched.inFlight ∧ (countIsolation o s).sched.spacing = s.sched.spacing ∧
    (countIsolation o s).sched.requestsDropped = s.sched.requestsDropped ∧ (countIsolation o s).roster = s.roster ∧
    (countIsolation o s).planner = s.planner ∧ (countIsolation o s).grantCtl = s.grantCtl ∧
    (countIsolation o s).life = s.life ∧ (countIsolation o s).meter = s.meter ∧ (countIsolation o s).enf = s.enf ∧
    (countIsolation o s).link = s.link ∧ (countIsolation o s).loader = s.loader ∧ (countIsolation o s).host = s.host := by
  unfold countIsolation
  (repeat' split) <;> simp

/-- The marks alone change. -/
@[simp] theorem setMarks_frame (o : AttemptOutcome) (s : State) :
    (setMarks o s).now = s.now ∧ (setMarks o s).pending = s.pending ∧ (setMarks o s).restartInput = s.restartInput ∧
    (setMarks o s).cutOutput = s.cutOutput ∧ (setMarks o s).attention = s.attention ∧ (setMarks o s).bus = s.bus ∧
    (setMarks o s).sched = s.sched ∧ (setMarks o s).roster = s.roster ∧ (setMarks o s).planner = s.planner ∧
    (setMarks o s).grantCtl = s.grantCtl ∧ (setMarks o s).life.state = s.life.state ∧
    (setMarks o s).life.phase = s.life.phase ∧ (setMarks o s).life.listen = s.life.listen ∧
    (setMarks o s).life.cycle = s.life.cycle ∧ (setMarks o s).life.fallbackAt = s.life.fallbackAt ∧
    (setMarks o s).life.spentAt = s.life.spentAt ∧ (setMarks o s).meter = s.meter ∧ (setMarks o s).enf = s.enf ∧
    (setMarks o s).link = s.link ∧ (setMarks o s).loader = s.loader ∧ (setMarks o s).host = s.host := by
  unfold setMarks
  (repeat' split) <;> simp

/-- The entries and the overflow flag alone change. -/
@[simp] theorem hearNumber_frame (s : State) (n : Station) :
    (hearNumber s n).now = s.now ∧ (hearNumber s n).pending = s.pending ∧
    (hearNumber s n).restartInput = s.restartInput ∧ (hearNumber s n).cutOutput = s.cutOutput ∧
    (hearNumber s n).attention = s.attention ∧ (hearNumber s n).bus = s.bus ∧ (hearNumber s n).sched = s.sched ∧
    (hearNumber s n).roster.forgotten = s.roster.forgotten ∧
    (hearNumber s n).roster.admissionsRefused = s.roster.admissionsRefused ∧
    (hearNumber s n).roster.shedIgnored = s.roster.shedIgnored ∧ (hearNumber s n).planner = s.planner ∧
    (hearNumber s n).grantCtl = s.grantCtl ∧ (hearNumber s n).life = s.life ∧ (hearNumber s n).meter = s.meter ∧
    (hearNumber s n).enf = s.enf ∧ (hearNumber s n).link = s.link ∧ (hearNumber s n).loader = s.loader ∧
    (hearNumber s n).host = s.host := by
  unfold hearNumber
  (repeat' split) <;> simp

/-- The entries and the overflow flag alone change. -/
@[simp] theorem foldl_hearNumber_frame (l : List Station) (s : State) :
    (l.foldl hearNumber s).now = s.now ∧ (l.foldl hearNumber s).pending = s.pending ∧
    (l.foldl hearNumber s).restartInput = s.restartInput ∧ (l.foldl hearNumber s).cutOutput = s.cutOutput ∧
    (l.foldl hearNumber s).attention = s.attention ∧ (l.foldl hearNumber s).bus = s.bus ∧
    (l.foldl hearNumber s).sched = s.sched ∧ (l.foldl hearNumber s).roster.forgotten = s.roster.forgotten ∧
    (l.foldl hearNumber s).roster.admissionsRefused = s.roster.admissionsRefused ∧
    (l.foldl hearNumber s).roster.shedIgnored = s.roster.shedIgnored ∧ (l.foldl hearNumber s).planner = s.planner ∧
    (l.foldl hearNumber s).grantCtl = s.grantCtl ∧ (l.foldl hearNumber s).life = s.life ∧
    (l.foldl hearNumber s).meter = s.meter ∧ (l.foldl hearNumber s).enf = s.enf ∧
    (l.foldl hearNumber s).link = s.link ∧ (l.foldl hearNumber s).loader = s.loader ∧
    (l.foldl hearNumber s).host = s.host := by
  induction l generalizing s with
  | nil => simp
  | cons n l ih => simp [ih]

/-- The entries and the overflow flag alone change. -/
@[simp] theorem takeQuietSet_frame (quiet : BitVec 64) (s : State) :
    (takeQuietSet quiet s).now = s.now ∧ (takeQuietSet quiet s).pending = s.pending ∧
    (takeQuietSet quiet s).restartInput = s.restartInput ∧ (takeQuietSet quiet s).cutOutput = s.cutOutput ∧
    (takeQuietSet quiet s).attention = s.attention ∧ (takeQuietSet quiet s).bus = s.bus ∧
    (takeQuietSet quiet s).sched = s.sched ∧ (takeQuietSet quiet s).roster.forgotten = s.roster.forgotten ∧
    (takeQuietSet quiet s).roster.admissionsRefused = s.roster.admissionsRefused ∧
    (takeQuietSet quiet s).roster.shedIgnored = s.roster.shedIgnored ∧ (takeQuietSet quiet s).planner = s.planner ∧
    (takeQuietSet quiet s).grantCtl = s.grantCtl ∧ (takeQuietSet quiet s).life = s.life ∧
    (takeQuietSet quiet s).meter = s.meter ∧ (takeQuietSet quiet s).enf = s.enf ∧
    (takeQuietSet quiet s).link = s.link ∧ (takeQuietSet quiet s).loader = s.loader ∧
    (takeQuietSet quiet s).host = s.host := by
  unfold takeQuietSet
  simp

/-- The entries and the overflow flag alone change. -/
@[simp] theorem takeHearsay_frame (n : Station) (quiet : BitVec 64) (s : State) :
    (takeHearsay n quiet s).now = s.now ∧ (takeHearsay n quiet s).pending = s.pending ∧
    (takeHearsay n quiet s).restartInput = s.restartInput ∧ (takeHearsay n quiet s).cutOutput = s.cutOutput ∧
    (takeHearsay n quiet s).attention = s.attention ∧ (takeHearsay n quiet s).bus = s.bus ∧
    (takeHearsay n quiet s).sched = s.sched ∧ (takeHearsay n quiet s).roster.forgotten = s.roster.forgotten ∧
    (takeHearsay n quiet s).roster.admissionsRefused = s.roster.admissionsRefused ∧
    (takeHearsay n quiet s).roster.shedIgnored = s.roster.shedIgnored ∧
    (takeHearsay n quiet s).planner = s.planner ∧ (takeHearsay n quiet s).grantCtl = s.grantCtl ∧
    (takeHearsay n quiet s).life = s.life ∧ (takeHearsay n quiet s).meter = s.meter ∧
    (takeHearsay n quiet s).enf = s.enf ∧ (takeHearsay n quiet s).link = s.link ∧
    (takeHearsay n quiet s).loader = s.loader ∧ (takeHearsay n quiet s).host = s.host := by
  unfold takeHearsay
  (repeat' split) <;> simp

/-- The Roster Unit and the trailer alone change. -/
@[simp] theorem takeClaim_frame (n : Station) (network : Word16) (c : ClaimPart) (st : Option StatusPart) (s : State) :
    (takeClaim n network c st s).now = s.now ∧ (takeClaim n network c st s).pending = s.pending ∧
    (takeClaim n network c st s).restartInput = s.restartInput ∧
    (takeClaim n network c st s).cutOutput = s.cutOutput ∧ (takeClaim n network c st s).attention = s.attention ∧
    (takeClaim n network c st s).bus.recessive = s.bus.recessive ∧ (takeClaim n network c st s).bus.endLeft = s.bus.endLeft ∧
    (takeClaim n network c st s).bus.idle = s.bus.idle ∧
    (takeClaim n network c st s).bus.assembly = s.bus.assembly ∧
    (takeClaim n network c st s).bus.attempt = s.bus.attempt ∧
    (takeClaim n network c st s).bus.framesSent = s.bus.framesSent ∧
    (takeClaim n network c st s).bus.lost = s.bus.lost ∧ (takeClaim n network c st s).bus.aborted = s.bus.aborted ∧
    (takeClaim n network c st s).bus.partly = s.bus.partly ∧
    (takeClaim n network c st s).bus.unheard = s.bus.unheard ∧
    (takeClaim n network c st s).bus.validReceived = s.bus.validReceived ∧
    (takeClaim n network c st s).bus.damagedReceived = s.bus.damagedReceived ∧
    (takeClaim n network c st s).sched = s.sched ∧
    (takeClaim n network c st s).roster.shedIgnored = s.roster.shedIgnored ∧
    (takeClaim n network c st s).planner = s.planner ∧ (takeClaim n network c st s).grantCtl = s.grantCtl ∧
    (takeClaim n network c st s).life = s.life ∧ (takeClaim n network c st s).meter = s.meter ∧
    (takeClaim n network c st s).enf = s.enf ∧ (takeClaim n network c st s).link = s.link ∧
    (takeClaim n network c st s).loader = s.loader ∧ (takeClaim n network c st s).host = s.host := by
  unfold takeClaim
  (repeat' split) <;> simp

/-- D, its hold, the queue and the counter alone change. -/
@[simp] theorem judgeShed_frame (network : Word16) (excess : Current) (s : State) :
    (judgeShed network excess s).now = s.now ∧ (judgeShed network excess s).pending = s.pending ∧
    (judgeShed network excess s).restartInput = s.restartInput ∧
    (judgeShed network excess s).cutOutput = s.cutOutput ∧ (judgeShed network excess s).bus = s.bus ∧
    (judgeShed network excess s).sched = s.sched ∧ (judgeShed network excess s).roster.entries = s.roster.entries ∧
    (judgeShed network excess s).roster.overflow = s.roster.overflow ∧
    (judgeShed network excess s).roster.forgotten = s.roster.forgotten ∧
    (judgeShed network excess s).roster.admissionsRefused = s.roster.admissionsRefused ∧
    (judgeShed network excess s).planner = s.planner ∧
    (judgeShed network excess s).grantCtl.grant = s.grantCtl.grant ∧
    (judgeShed network excess s).grantCtl.settled = s.grantCtl.settled ∧
    (judgeShed network excess s).grantCtl.raiseHold = s.grantCtl.raiseHold ∧
    (judgeShed network excess s).life = s.life ∧ (judgeShed network excess s).meter = s.meter ∧
    (judgeShed network excess s).enf = s.enf ∧ (judgeShed network excess s).link = s.link ∧
    (judgeShed network excess s).loader = s.loader ∧ (judgeShed network excess s).host.rx = s.host.rx ∧
    (judgeShed network excess s).host.gap = s.host.gap ∧
    (judgeShed network excess s).host.inProgress = s.host.inProgress ∧
    (judgeShed network excess s).host.waiting = s.host.waiting ∧
    (judgeShed network excess s).host.overrun = s.host.overrun ∧
    (judgeShed network excess s).host.framesDiscarded = s.host.framesDiscarded := by
  unfold judgeShed
  (repeat' split) <;> simp

/-- What the hand-off of a roster event touches. -/
@[simp] theorem handRoster_frame (before s : State) :
    (handRoster before s).now = s.now ∧ (handRoster before s).pending = s.pending ∧
    (handRoster before s).restartInput = s.restartInput ∧ (handRoster before s).cutOutput = s.cutOutput ∧
    (handRoster before s).bus = s.bus ∧ (handRoster before s).sched.inFlight = s.sched.inFlight ∧
    (handRoster before s).sched.spacing = s.sched.spacing ∧
    (handRoster before s).sched.isolationCount = s.sched.isolationCount ∧
    (handRoster before s).sched.requestsDropped = s.sched.requestsDropped ∧
    (handRoster before s).roster.overflow = s.roster.overflow ∧
    (handRoster before s).roster.forgotten = s.roster.forgotten ∧
    (handRoster before s).roster.admissionsRefused = s.roster.admissionsRefused ∧
    (handRoster before s).roster.shedIgnored = s.roster.shedIgnored ∧
    (handRoster before s).planner.claim = s.planner.claim ∧
    (handRoster before s).grantCtl.settled = s.grantCtl.settled ∧
    (handRoster before s).grantCtl.deficit = s.grantCtl.deficit ∧
    (handRoster before s).grantCtl.shedHold = s.grantCtl.shedHold ∧ (handRoster before s).life = s.life ∧
    (handRoster before s).meter = s.meter ∧ (handRoster before s).enf = s.enf ∧
    (handRoster before s).link = s.link ∧ (handRoster before s).loader = s.loader ∧
    (handRoster before s).host.rx = s.host.rx ∧ (handRoster before s).host.gap = s.host.gap ∧
    (handRoster before s).host.inProgress = s.host.inProgress ∧
    (handRoster before s).host.waiting = s.host.waiting ∧ (handRoster before s).host.overrun = s.host.overrun ∧
    (handRoster before s).host.framesDiscarded = s.host.framesDiscarded := by
  unfold handRoster
  simp

/-- What a STATUS of a peer leaves as it was. -/
@[simp] theorem takeStatus_frame (n : Station) (network : Word16) (c : ClaimPart) (st : StatusPart) (s : State) :
    (takeStatus n network c st s).now = s.now ∧ (takeStatus n network c st s).pending = s.pending ∧
    (takeStatus n network c st s).restartInput = s.restartInput ∧
    (takeStatus n network c st s).bus.recessive = s.bus.recessive ∧
    (takeStatus n network c st s).bus.endLeft = s.bus.endLeft ∧
    (takeStatus n network c st s).bus.idle = s.bus.idle ∧
    (takeStatus n network c st s).bus.assembly = s.bus.assembly ∧
    (takeStatus n network c st s).bus.attempt = s.bus.attempt ∧
    (takeStatus n network c st s).bus.framesSent = s.bus.framesSent ∧
    (takeStatus n network c st s).bus.lost = s.bus.lost ∧
    (takeStatus n network c st s).bus.aborted = s.bus.aborted ∧
    (takeStatus n network c st s).bus.partly = s.bus.partly ∧
    (takeStatus n network c st s).bus.unheard = s.bus.unheard ∧
    (takeStatus n network c st s).bus.validReceived = s.bus.validReceived ∧
    (takeStatus n network c st s).bus.damagedReceived = s.bus.damagedReceived ∧
    (takeStatus n network c st s).sched.inFlight = s.sched.inFlight ∧
    (takeStatus n network c st s).sched.spacing = s.sched.spacing ∧
    (takeStatus n network c st s).sched.isolationCount = s.sched.isolationCount ∧
    (takeStatus n network c st s).sched.requestsDropped = s.sched.requestsDropped ∧
    (takeStatus n network c st s).roster.shedIgnored = s.roster.shedIgnored ∧
    (takeStatus n network c st s).planner.claim = s.planner.claim ∧
    (takeStatus n network c st s).grantCtl.deficit = s.grantCtl.deficit ∧
    (takeStatus n network c st s).grantCtl.shedHold = s.grantCtl.shedHold ∧
    (takeStatus n network c st s).life.listen = s.life.listen ∧
    (takeStatus n network c st s).life.cycle = s.life.cycle ∧
    (takeStatus n network c st s).life.tClean = s.life.tClean ∧
    (takeStatus n network c st s).life.tAny = s.life.tAny ∧
    (takeStatus n network c st s).life.fallbackAt = s.life.fallbackAt ∧
    (takeStatus n network c st s).life.spentAt = s.life.spentAt ∧ (takeStatus n network c st s).meter = s.meter ∧
    (takeStatus n network c st s).enf = s.enf ∧ (takeStatus n network c st s).link = s.link ∧
    (takeStatus n network c st s).loader = s.loader ∧ (takeStatus n network c st s).host.rx = s.host.rx ∧
    (takeStatus n network c st s).host.gap = s.host.gap ∧
    (takeStatus n network c st s).host.inProgress = s.host.inProgress ∧
    (takeStatus n network c st s).host.waiting = s.host.waiting ∧
    (takeStatus n network c st s).host.overrun = s.host.overrun ∧
    (takeStatus n network c st s).host.framesDiscarded = s.host.framesDiscarded := by
  unfold takeStatus
  dsimp only
  split_ifs <;> simp

/-- What a LEAVE of a peer leaves as it was. -/
@[simp] theorem takeLeave_frame (n : Station) (s : State) :
    (takeLeave n s).now = s.now ∧ (takeLeave n s).pending = s.pending ∧
    (takeLeave n s).restartInput = s.restartInput ∧ (takeLeave n s).bus.recessive = s.bus.recessive ∧
    (takeLeave n s).bus.endLeft = s.bus.endLeft ∧
    (takeLeave n s).bus.idle = s.bus.idle ∧ (takeLeave n s).bus.assembly = s.bus.assembly ∧
    (takeLeave n s).bus.attempt = s.bus.attempt ∧ (takeLeave n s).bus.framesSent = s.bus.framesSent ∧
    (takeLeave n s).bus.lost = s.bus.lost ∧ (takeLeave n s).bus.aborted = s.bus.aborted ∧
    (takeLeave n s).bus.partly = s.bus.partly ∧ (takeLeave n s).bus.unheard = s.bus.unheard ∧
    (takeLeave n s).bus.validReceived = s.bus.validReceived ∧
    (takeLeave n s).bus.damagedReceived = s.bus.damagedReceived ∧
    (takeLeave n s).sched.inFlight = s.sched.inFlight ∧ (takeLeave n s).sched.spacing = s.sched.spacing ∧
    (takeLeave n s).sched.isolationCount = s.sched.isolationCount ∧
    (takeLeave n s).sched.requestsDropped = s.sched.requestsDropped ∧
    (takeLeave n s).roster.forgotten = s.roster.forgotten ∧
    (takeLeave n s).roster.admissionsRefused = s.roster.admissionsRefused ∧
    (takeLeave n s).roster.shedIgnored = s.roster.shedIgnored ∧ (takeLeave n s).planner.claim = s.planner.claim ∧
    (takeLeave n s).grantCtl.deficit = s.grantCtl.deficit ∧
    (takeLeave n s).grantCtl.shedHold = s.grantCtl.shedHold ∧ (takeLeave n s).life.listen = s.life.listen ∧
    (takeLeave n s).life.cycle = s.life.cycle ∧ (takeLeave n s).life.tClean = s.life.tClean ∧
    (takeLeave n s).life.tAny = s.life.tAny ∧ (takeLeave n s).life.fallbackAt = s.life.fallbackAt ∧
    (takeLeave n s).life.spentAt = s.life.spentAt ∧ (takeLeave n s).meter = s.meter ∧ (takeLeave n s).enf = s.enf ∧
    (takeLeave n s).link = s.link ∧ (takeLeave n s).loader = s.loader ∧ (takeLeave n s).host.rx = s.host.rx ∧
    (takeLeave n s).host.gap = s.host.gap ∧ (takeLeave n s).host.inProgress = s.host.inProgress ∧
    (takeLeave n s).host.waiting = s.host.waiting ∧ (takeLeave n s).host.overrun = s.host.overrun ∧
    (takeLeave n s).host.framesDiscarded = s.host.framesDiscarded := by
  unfold takeLeave
  (repeat' split) <;> simp

/-- What a SHED of a peer leaves as it was. -/
@[simp] theorem takeShed_frame (n : Station) (network : Word16) (excess : Current) (s : State) :
    (takeShed n network excess s).now = s.now ∧ (takeShed n network excess s).pending = s.pending ∧
    (takeShed n network excess s).restartInput = s.restartInput ∧
    (takeShed n network excess s).cutOutput = s.cutOutput ∧
    (takeShed n network excess s).bus.recessive = s.bus.recessive ∧
    (takeShed n network excess s).bus.endLeft = s.bus.endLeft ∧
    (takeShed n network excess s).bus.idle = s.bus.idle ∧
    (takeShed n network excess s).bus.assembly = s.bus.assembly ∧
    (takeShed n network excess s).bus.attempt = s.bus.attempt ∧
    (takeShed n network excess s).bus.framesSent = s.bus.framesSent ∧
    (takeShed n network excess s).bus.lost = s.bus.lost ∧
    (takeShed n network excess s).bus.aborted = s.bus.aborted ∧
    (takeShed n network excess s).bus.partly = s.bus.partly ∧
    (takeShed n network excess s).bus.unheard = s.bus.unheard ∧
    (takeShed n network excess s).bus.validReceived = s.bus.validReceived ∧
    (takeShed n network excess s).bus.damagedReceived = s.bus.damagedReceived ∧
    (takeShed n network excess s).sched.inFlight = s.sched.inFlight ∧
    (takeShed n network excess s).sched.spacing = s.sched.spacing ∧
    (takeShed n network excess s).sched.isolationCount = s.sched.isolationCount ∧
    (takeShed n network excess s).sched.requestsDropped = s.sched.requestsDropped ∧
    (takeShed n network excess s).roster.overflow = s.roster.overflow ∧
    (takeShed n network excess s).roster.forgotten = s.roster.forgotten ∧
    (takeShed n network excess s).roster.admissionsRefused = s.roster.admissionsRefused ∧
    (takeShed n network excess s).planner.claim = s.planner.claim ∧
    (takeShed n network excess s).grantCtl.settled = s.grantCtl.settled ∧
    (takeShed n network excess s).life = s.life ∧ (takeShed n network excess s).meter = s.meter ∧
    (takeShed n network excess s).enf = s.enf ∧ (takeShed n network excess s).link = s.link ∧
    (takeShed n network excess s).loader = s.loader ∧ (takeShed n network excess s).host.rx = s.host.rx ∧
    (takeShed n network excess s).host.gap = s.host.gap ∧
    (takeShed n network excess s).host.inProgress = s.host.inProgress ∧
    (takeShed n network excess s).host.waiting = s.host.waiting ∧
    (takeShed n network excess s).host.overrun = s.host.overrun ∧
    (takeShed n network excess s).host.framesDiscarded = s.host.framesDiscarded := by
  unfold takeShed
  simp

/-- What the report of a peer frame leaves as it was. -/
@[simp] theorem reportPeerFrame_frame (s : State) :
    (reportPeerFrame s).now = s.now ∧ (reportPeerFrame s).pending = s.pending ∧
    (reportPeerFrame s).restartInput = s.restartInput ∧ (reportPeerFrame s).bus = s.bus ∧
    (reportPeerFrame s).sched.inFlight = s.sched.inFlight ∧ (reportPeerFrame s).sched.spacing = s.sched.spacing ∧
    (reportPeerFrame s).sched.requestsDropped = s.sched.requestsDropped ∧ (reportPeerFrame s).roster = s.roster ∧
    (reportPeerFrame s).planner = s.planner ∧ (reportPeerFrame s).grantCtl.settled = s.grantCtl.settled ∧
    (reportPeerFrame s).grantCtl.raiseHold = s.grantCtl.raiseHold ∧
    (reportPeerFrame s).grantCtl.deficit = s.grantCtl.deficit ∧
    (reportPeerFrame s).grantCtl.shedHold = s.grantCtl.shedHold ∧ (reportPeerFrame s).life.listen = s.life.listen ∧
    (reportPeerFrame s).life.cycle = s.life.cycle ∧ (reportPeerFrame s).life.tClean = s.life.tClean ∧
    (reportPeerFrame s).life.tAny = s.life.tAny ∧ (reportPeerFrame s).meter = s.meter ∧
    (reportPeerFrame s).enf = s.enf ∧ (reportPeerFrame s).link = s.link ∧ (reportPeerFrame s).loader = s.loader ∧
    (reportPeerFrame s).host.rx = s.host.rx ∧ (reportPeerFrame s).host.gap = s.host.gap ∧
    (reportPeerFrame s).host.inProgress = s.host.inProgress ∧ (reportPeerFrame s).host.waiting = s.host.waiting ∧
    (reportPeerFrame s).host.overrun = s.host.overrun ∧
    (reportPeerFrame s).host.framesDiscarded = s.host.framesDiscarded := by
  unfold reportPeerFrame
  dsimp only
  split_ifs <;> simp

/-- What an ANNOUNCE of a peer leaves as it was. -/
@[simp] theorem takeAnnounce_frame (n : Station) (network : Word16) (c : ClaimPart) (s : State) :
    (takeAnnounce n network c s).now = s.now ∧ (takeAnnounce n network c s).pending = s.pending ∧
    (takeAnnounce n network c s).restartInput = s.restartInput ∧
    (takeAnnounce n network c s).bus.recessive = s.bus.recessive ∧ (takeAnnounce n network c s).bus.endLeft = s.bus.endLeft ∧
    (takeAnnounce n network c s).bus.idle = s.bus.idle ∧
    (takeAnnounce n network c s).bus.assembly = s.bus.assembly ∧
    (takeAnnounce n network c s).bus.attempt = s.bus.attempt ∧
    (takeAnnounce n network c s).bus.framesSent = s.bus.framesSent ∧
    (takeAnnounce n network c s).bus.lost = s.bus.lost ∧ (takeAnnounce n network c s).bus.aborted = s.bus.aborted ∧
    (takeAnnounce n network c s).bus.partly = s.bus.partly ∧
    (takeAnnounce n network c s).bus.unheard = s.bus.unheard ∧
    (takeAnnounce n network c s).bus.validReceived = s.bus.validReceived ∧
    (takeAnnounce n network c s).bus.damagedReceived = s.bus.damagedReceived ∧
    (takeAnnounce n network c s).sched.inFlight = s.sched.inFlight ∧
    (takeAnnounce n network c s).sched.spacing = s.sched.spacing ∧
    (takeAnnounce n network c s).sched.isolationCount = s.sched.isolationCount ∧
    (takeAnnounce n network c s).sched.requestsDropped = s.sched.requestsDropped ∧
    (takeAnnounce n network c s).roster.shedIgnored = s.roster.shedIgnored ∧
    (takeAnnounce n network c s).planner.claim = s.planner.claim ∧
    (takeAnnounce n network c s).grantCtl.deficit = s.grantCtl.deficit ∧
    (takeAnnounce n network c s).grantCtl.shedHold = s.grantCtl.shedHold ∧
    (takeAnnounce n network c s).life.listen = s.life.listen ∧
    (takeAnnounce n network c s).life.cycle = s.life.cycle ∧
    (takeAnnounce n network c s).life.tClean = s.life.tClean ∧
    (takeAnnounce n network c s).life.tAny = s.life.tAny ∧
    (takeAnnounce n network c s).life.fallbackAt = s.life.fallbackAt ∧
    (takeAnnounce n network c s).life.spentAt = s.life.spentAt ∧ (takeAnnounce n network c s).meter = s.meter ∧
    (takeAnnounce n network c s).enf = s.enf ∧ (takeAnnounce n network c s).link = s.link ∧
    (takeAnnounce n network c s).loader = s.loader ∧ (takeAnnounce n network c s).host.rx = s.host.rx ∧
    (takeAnnounce n network c s).host.gap = s.host.gap ∧
    (takeAnnounce n network c s).host.inProgress = s.host.inProgress ∧
    (takeAnnounce n network c s).host.waiting = s.host.waiting ∧
    (takeAnnounce n network c s).host.overrun = s.host.overrun ∧
    (takeAnnounce n network c s).host.framesDiscarded = s.host.framesDiscarded := by
  unfold takeAnnounce
  simp

/-- ATTENTION and the queue alone change. -/
@[simp] theorem noteSense_frame (before s : State) :
    (noteSense before s).now = s.now ∧ (noteSense before s).pending = s.pending ∧
    (noteSense before s).restartInput = s.restartInput ∧ (noteSense before s).cutOutput = s.cutOutput ∧
    (noteSense before s).bus = s.bus ∧ (noteSense before s).sched = s.sched ∧
    (noteSense before s).roster = s.roster ∧ (noteSense before s).planner = s.planner ∧
    (noteSense before s).grantCtl = s.grantCtl ∧ (noteSense before s).life = s.life ∧
    (noteSense before s).meter = s.meter ∧ (noteSense before s).enf = s.enf ∧ (noteSense before s).link = s.link ∧
    (noteSense before s).loader = s.loader ∧ (noteSense before s).host.rx = s.host.rx ∧
    (noteSense before s).host.gap = s.host.gap ∧ (noteSense before s).host.inProgress = s.host.inProgress ∧
    (noteSense before s).host.waiting = s.host.waiting ∧ (noteSense before s).host.overrun = s.host.overrun ∧
    (noteSense before s).host.framesDiscarded = s.host.framesDiscarded := by
  unfold noteSense
  (repeat' split) <;> simp

/-- The trim alone ends. -/
@[simp] theorem endTrim_frame (s : State) :
    (endTrim s).now = s.now ∧ (endTrim s).pending = s.pending ∧ (endTrim s).restartInput = s.restartInput ∧
    (endTrim s).cutOutput = s.cutOutput ∧ (endTrim s).attention = s.attention ∧ (endTrim s).bus = s.bus ∧
    (endTrim s).sched = s.sched ∧ (endTrim s).roster = s.roster ∧ (endTrim s).planner = s.planner ∧
    (endTrim s).grantCtl = s.grantCtl ∧ (endTrim s).life = s.life ∧ (endTrim s).meter.update = s.meter.update ∧
    (endTrim s).meter.updates = s.meter.updates ∧ (endTrim s).meter.load = s.meter.load ∧
    (endTrim s).meter.feeder = s.meter.feeder ∧ (endTrim s).meter.watch = s.meter.watch ∧
    (endTrim s).meter.estimate = s.meter.estimate ∧ (endTrim s).meter.overload = s.meter.overload ∧
    (endTrim s).enf = s.enf ∧ (endTrim s).link = s.link ∧ (endTrim s).loader = s.loader ∧ (endTrim s).host = s.host := by
  unfold endTrim
  (repeat' split) <;> simp

/-- The trim and its watch alone change. -/
@[simp] theorem judgeWatch_frame (d : Time) (s : State) :
    (judgeWatch d s).now = s.now ∧ (judgeWatch d s).pending = s.pending ∧
    (judgeWatch d s).restartInput = s.restartInput ∧ (judgeWatch d s).cutOutput = s.cutOutput ∧
    (judgeWatch d s).attention = s.attention ∧ (judgeWatch d s).bus = s.bus ∧ (judgeWatch d s).sched = s.sched ∧
    (judgeWatch d s).roster = s.roster ∧ (judgeWatch d s).planner = s.planner ∧
    (judgeWatch d s).grantCtl = s.grantCtl ∧ (judgeWatch d s).life = s.life ∧
    (judgeWatch d s).meter.update = s.meter.update ∧ (judgeWatch d s).meter.updates = s.meter.updates ∧
    (judgeWatch d s).meter.load = s.meter.load ∧ (judgeWatch d s).meter.feeder = s.meter.feeder ∧
    (judgeWatch d s).meter.estimate = s.meter.estimate ∧ (judgeWatch d s).meter.overload = s.meter.overload ∧
    (judgeWatch d s).enf = s.enf ∧ (judgeWatch d s).link = s.link ∧ (judgeWatch d s).loader = s.loader ∧
    (judgeWatch d s).host = s.host := by
  unfold judgeWatch
  (repeat' split) <;> simp

/-- The trim that stands after the end of R133 (R131 judges the watch only where there is none). -/
theorem endTrim_trim (s : State) : (endTrim s).meter.trim = if s.trimEnds then none else s.meter.trim := by
  unfold endTrim
  split <;> rfl

/-- Where the enable reads clear a slow update can end the trim and does no more (R131, R133). -/
theorem judgeTrim_of_not_enabled (d : Time) (s : State) (h : s.params.trimEnable = false) :
    judgeTrim d s = endTrim s := by
  have : (endTrim s).watchJudged = false := by
    simp only [State.watchJudged, State.params, endTrim_frame s] at h ⊢
    simp [h]
  simp [judgeTrim, this]

/-- The trim and its watch alone change. -/
@[simp] theorem judgeTrim_frame (d : Time) (s : State) :
    (judgeTrim d s).now = s.now ∧ (judgeTrim d s).pending = s.pending ∧
    (judgeTrim d s).restartInput = s.restartInput ∧ (judgeTrim d s).cutOutput = s.cutOutput ∧
    (judgeTrim d s).attention = s.attention ∧ (judgeTrim d s).bus = s.bus ∧ (judgeTrim d s).sched = s.sched ∧
    (judgeTrim d s).roster = s.roster ∧ (judgeTrim d s).planner = s.planner ∧
    (judgeTrim d s).grantCtl = s.grantCtl ∧ (judgeTrim d s).life = s.life ∧
    (judgeTrim d s).meter.update = s.meter.update ∧ (judgeTrim d s).meter.updates = s.meter.updates ∧
    (judgeTrim d s).meter.load = s.meter.load ∧ (judgeTrim d s).meter.feeder = s.meter.feeder ∧
    (judgeTrim d s).meter.estimate = s.meter.estimate ∧ (judgeTrim d s).meter.overload = s.meter.overload ∧
    (judgeTrim d s).enf = s.enf ∧ (judgeTrim d s).link = s.link ∧ (judgeTrim d s).loader = s.loader ∧
    (judgeTrim d s).host = s.host := by
  unfold judgeTrim
  (repeat' split) <;> simp

/-- The figures of the Meter alone change. -/
@[simp] theorem slowPart_frame (d : Time) (s : State) :
    (slowPart d s).now = s.now ∧ (slowPart d s).pending = s.pending ∧ (slowPart d s).restartInput = s.restartInput ∧
    (slowPart d s).cutOutput = s.cutOutput ∧ (slowPart d s).attention = s.attention ∧ (slowPart d s).bus = s.bus ∧
    (slowPart d s).sched = s.sched ∧ (slowPart d s).roster = s.roster ∧ (slowPart d s).planner = s.planner ∧
    (slowPart d s).grantCtl = s.grantCtl ∧ (slowPart d s).life = s.life ∧
    (slowPart d s).meter.update = s.meter.update ∧ (slowPart d s).meter.updates = s.meter.updates ∧
    (slowPart d s).meter.overload = s.meter.overload ∧ (slowPart d s).enf = s.enf ∧ (slowPart d s).link = s.link ∧
    (slowPart d s).loader = s.loader ∧ (slowPart d s).host = s.host := by
  unfold slowPart
  simp

/-- D, its hold, the queue and the slots alone change. -/
@[simp] theorem applyExcess_frame (feeder : Reading) (s : State) :
    (applyExcess feeder s).now = s.now ∧ (applyExcess feeder s).pending = s.pending ∧
    (applyExcess feeder s).restartInput = s.restartInput ∧ (applyExcess feeder s).cutOutput = s.cutOutput ∧
    (applyExcess feeder s).bus = s.bus ∧ (applyExcess feeder s).sched.inFlight = s.sched.inFlight ∧
    (applyExcess feeder s).sched.spacing = s.sched.spacing ∧
    (applyExcess feeder s).sched.isolationCount = s.sched.isolationCount ∧
    (applyExcess feeder s).sched.requestsDropped = s.sched.requestsDropped ∧
    (applyExcess feeder s).roster = s.roster ∧ (applyExcess feeder s).planner = s.planner ∧
    (applyExcess feeder s).grantCtl.grant = s.grantCtl.grant ∧
    (applyExcess feeder s).grantCtl.settled = s.grantCtl.settled ∧
    (applyExcess feeder s).grantCtl.raiseHold = s.grantCtl.raiseHold ∧ (applyExcess feeder s).life = s.life ∧
    (applyExcess feeder s).meter = s.meter ∧ (applyExcess feeder s).enf = s.enf ∧
    (applyExcess feeder s).link = s.link ∧ (applyExcess feeder s).loader = s.loader ∧
    (applyExcess feeder s).host.rx = s.host.rx ∧ (applyExcess feeder s).host.gap = s.host.gap ∧
    (applyExcess feeder s).host.inProgress = s.host.inProgress ∧
    (applyExcess feeder s).host.waiting = s.host.waiting ∧ (applyExcess feeder s).host.overrun = s.host.overrun ∧
    (applyExcess feeder s).host.framesDiscarded = s.host.framesDiscarded := by
  unfold applyExcess
  (repeat' split) <;> simp

/-- The Meter, D, its hold, the queue and the slots alone change. -/
@[simp] theorem takeUpdate_frame (load feeder : Reading) (d : Time) (s : State) :
    (takeUpdate load feeder d s).now = s.now ∧ (takeUpdate load feeder d s).pending = s.pending ∧
    (takeUpdate load feeder d s).restartInput = s.restartInput ∧
    (takeUpdate load feeder d s).cutOutput = s.cutOutput ∧ (takeUpdate load feeder d s).bus = s.bus ∧
    (takeUpdate load feeder d s).sched.inFlight = s.sched.inFlight ∧
    (takeUpdate load feeder d s).sched.spacing = s.sched.spacing ∧
    (takeUpdate load feeder d s).sched.isolationCount = s.sched.isolationCount ∧
    (takeUpdate load feeder d s).sched.requestsDropped = s.sched.requestsDropped ∧
    (takeUpdate load feeder d s).roster = s.roster ∧ (takeUpdate load feeder d s).planner = s.planner ∧
    (takeUpdate load feeder d s).grantCtl.grant = s.grantCtl.grant ∧
    (takeUpdate load feeder d s).grantCtl.settled = s.grantCtl.settled ∧
    (takeUpdate load feeder d s).grantCtl.raiseHold = s.grantCtl.raiseHold ∧
    (takeUpdate load feeder d s).life = s.life ∧ (takeUpdate load feeder d s).enf = s.enf ∧
    (takeUpdate load feeder d s).link = s.link ∧ (takeUpdate load feeder d s).loader = s.loader ∧
    (takeUpdate load feeder d s).host.rx = s.host.rx ∧ (takeUpdate load feeder d s).host.gap = s.host.gap ∧
    (takeUpdate load feeder d s).host.inProgress = s.host.inProgress ∧
    (takeUpdate load feeder d s).host.waiting = s.host.waiting ∧
    (takeUpdate load feeder d s).host.overrun = s.host.overrun ∧
    (takeUpdate load feeder d s).host.framesDiscarded = s.host.framesDiscarded := by
  unfold takeUpdate
  (repeat' split) <;> simp

/-- The Enforcement Unit, the CUT output and the queue alone change. -/
@[simp] theorem enterOver_frame (s : State) :
    (enterOver s).now = s.now ∧ (enterOver s).pending = s.pending ∧ (enterOver s).restartInput = s.restartInput ∧
    (enterOver s).bus = s.bus ∧ (enterOver s).sched = s.sched ∧ (enterOver s).roster = s.roster ∧
    (enterOver s).planner = s.planner ∧ (enterOver s).grantCtl = s.grantCtl ∧ (enterOver s).life = s.life ∧
    (enterOver s).meter = s.meter ∧ (enterOver s).enf.recovery = s.enf.recovery ∧ (enterOver s).link = s.link ∧
    (enterOver s).loader = s.loader ∧ (enterOver s).host.rx = s.host.rx ∧ (enterOver s).host.gap = s.host.gap ∧
    (enterOver s).host.inProgress = s.host.inProgress ∧ (enterOver s).host.waiting = s.host.waiting ∧
    (enterOver s).host.overrun = s.host.overrun ∧ (enterOver s).host.framesDiscarded = s.host.framesDiscarded := by
  unfold enterOver
  simp

/-- The Enforcement Unit, the CUT output and the queue alone change. -/
@[simp] theorem leaveOver_frame (s : State) :
    (leaveOver s).now = s.now ∧ (leaveOver s).pending = s.pending ∧ (leaveOver s).restartInput = s.restartInput ∧
    (leaveOver s).bus = s.bus ∧ (leaveOver s).sched = s.sched ∧ (leaveOver s).roster = s.roster ∧
    (leaveOver s).planner = s.planner ∧ (leaveOver s).grantCtl = s.grantCtl ∧ (leaveOver s).life = s.life ∧
    (leaveOver s).meter = s.meter ∧ (leaveOver s).enf.recovery = s.enf.recovery ∧ (leaveOver s).link = s.link ∧
    (leaveOver s).loader = s.loader ∧ (leaveOver s).host.rx = s.host.rx ∧ (leaveOver s).host.gap = s.host.gap ∧
    (leaveOver s).host.inProgress = s.host.inProgress ∧ (leaveOver s).host.waiting = s.host.waiting ∧
    (leaveOver s).host.overrun = s.host.overrun ∧ (leaveOver s).host.framesDiscarded = s.host.framesDiscarded := by
  unfold leaveOver
  simp

/-- The Enforcement Unit, the CUT output and the queue alone change. -/
@[simp] theorem judgeFigure_frame (v : Current) (s : State) :
    (judgeFigure v s).now = s.now ∧ (judgeFigure v s).pending = s.pending ∧
    (judgeFigure v s).restartInput = s.restartInput ∧ (judgeFigure v s).bus = s.bus ∧
    (judgeFigure v s).sched = s.sched ∧ (judgeFigure v s).roster = s.roster ∧
    (judgeFigure v s).planner = s.planner ∧ (judgeFigure v s).grantCtl = s.grantCtl ∧
    (judgeFigure v s).life = s.life ∧ (judgeFigure v s).meter = s.meter ∧ (judgeFigure v s).link = s.link ∧
    (judgeFigure v s).loader = s.loader ∧ (judgeFigure v s).host.rx = s.host.rx ∧
    (judgeFigure v s).host.gap = s.host.gap ∧ (judgeFigure v s).host.inProgress = s.host.inProgress ∧
    (judgeFigure v s).host.waiting = s.host.waiting ∧ (judgeFigure v s).host.overrun = s.host.overrun ∧
    (judgeFigure v s).host.framesDiscarded = s.host.framesDiscarded := by
  unfold judgeFigure
  (repeat' split) <;> simp

/-- The Enforcement Unit, the CUT output and the queue alone change. -/
@[simp] theorem judgeLoad_frame (s : State) :
    (judgeLoad s).now = s.now ∧ (judgeLoad s).pending = s.pending ∧ (judgeLoad s).restartInput = s.restartInput ∧
    (judgeLoad s).bus = s.bus ∧ (judgeLoad s).sched = s.sched ∧ (judgeLoad s).roster = s.roster ∧
    (judgeLoad s).planner = s.planner ∧ (judgeLoad s).grantCtl = s.grantCtl ∧ (judgeLoad s).life = s.life ∧
    (judgeLoad s).meter = s.meter ∧ (judgeLoad s).link = s.link ∧ (judgeLoad s).loader = s.loader ∧
    (judgeLoad s).host.rx = s.host.rx ∧ (judgeLoad s).host.gap = s.host.gap ∧
    (judgeLoad s).host.inProgress = s.host.inProgress ∧ (judgeLoad s).host.waiting = s.host.waiting ∧
    (judgeLoad s).host.overrun = s.host.overrun ∧ (judgeLoad s).host.framesDiscarded = s.host.framesDiscarded := by
  unfold judgeLoad
  (repeat' split) <;> simp

/-- What an update of the Meter leaves as it was. -/
@[simp] theorem meterUpdate_frame (load feeder : Reading) (d : Time) (s : State) :
    (meterUpdate load feeder d s).now = s.now ∧ (meterUpdate load feeder d s).pending = s.pending ∧
    (meterUpdate load feeder d s).restartInput = s.restartInput ∧ (meterUpdate load feeder d s).bus = s.bus ∧
    (meterUpdate load feeder d s).sched.inFlight = s.sched.inFlight ∧
    (meterUpdate load feeder d s).sched.spacing = s.sched.spacing ∧
    (meterUpdate load feeder d s).sched.isolationCount = s.sched.isolationCount ∧
    (meterUpdate load feeder d s).sched.requestsDropped = s.sched.requestsDropped ∧
    (meterUpdate load feeder d s).roster.overflow = s.roster.overflow ∧
    (meterUpdate load feeder d s).roster.forgotten = s.roster.forgotten ∧
    (meterUpdate load feeder d s).roster.admissionsRefused = s.roster.admissionsRefused ∧
    (meterUpdate load feeder d s).roster.shedIgnored = s.roster.shedIgnored ∧
    (meterUpdate load feeder d s).planner.claim.priority = s.planner.claim.priority ∧
    (meterUpdate load feeder d s).planner.claim.min = s.planner.claim.min ∧
    (meterUpdate load feeder d s).planner.claim.max = s.planner.claim.max ∧
    (meterUpdate load feeder d s).planner.claim.hostDemand = s.planner.claim.hostDemand ∧
    (meterUpdate load feeder d s).life.listen = s.life.listen ∧
    (meterUpdate load feeder d s).life.cycle = s.life.cycle ∧
    (meterUpdate load feeder d s).life.tClean = s.life.tClean ∧
    (meterUpdate load feeder d s).life.tAny = s.life.tAny ∧
    (meterUpdate load feeder d s).life.fallbackAt = s.life.fallbackAt ∧
    (meterUpdate load feeder d s).life.spentAt = s.life.spentAt ∧ (meterUpdate load feeder d s).link = s.link ∧
    (meterUpdate load feeder d s).loader = s.loader ∧ (meterUpdate load feeder d s).host.rx = s.host.rx ∧
    (meterUpdate load feeder d s).host.gap = s.host.gap ∧
    (meterUpdate load feeder d s).host.inProgress = s.host.inProgress ∧
    (meterUpdate load feeder d s).host.waiting = s.host.waiting ∧
    (meterUpdate load feeder d s).host.overrun = s.host.overrun ∧
    (meterUpdate load feeder d s).host.framesDiscarded = s.host.framesDiscarded := by
  unfold meterUpdate
  simp

/-- What CUT leaves as it was. -/
@[simp] theorem enterCut_frame (s : State) :
    (enterCut s).now = s.now ∧ (enterCut s).pending = s.pending ∧ (enterCut s).restartInput = s.restartInput ∧
    (enterCut s).bus = s.bus ∧ (enterCut s).sched.inFlight = s.sched.inFlight ∧
    (enterCut s).sched.spacing = s.sched.spacing ∧ (enterCut s).sched.isolationCount = s.sched.isolationCount ∧
    (enterCut s).sched.requestsDropped = s.sched.requestsDropped ∧
    (enterCut s).roster.overflow = s.roster.overflow ∧ (enterCut s).roster.forgotten = s.roster.forgotten ∧
    (enterCut s).roster.admissionsRefused = s.roster.admissionsRefused ∧
    (enterCut s).roster.shedIgnored = s.roster.shedIgnored ∧
    (enterCut s).planner.claim.priority = s.planner.claim.priority ∧
    (enterCut s).planner.claim.min = s.planner.claim.min ∧ (enterCut s).planner.claim.max = s.planner.claim.max ∧
    (enterCut s).planner.claim.hostDemand = s.planner.claim.hostDemand ∧
    (enterCut s).grantCtl.deficit = s.grantCtl.deficit ∧ (enterCut s).grantCtl.shedHold = s.grantCtl.shedHold ∧
    (enterCut s).life.listen = s.life.listen ∧ (enterCut s).life.cycle = s.life.cycle ∧
    (enterCut s).life.tClean = s.life.tClean ∧ (enterCut s).life.tAny = s.life.tAny ∧
    (enterCut s).life.fallbackAt = s.life.fallbackAt ∧ (enterCut s).life.spentAt = s.life.spentAt ∧
    (enterCut s).meter.update = s.meter.update ∧ (enterCut s).meter.updates = s.meter.updates ∧
    (enterCut s).meter.load = s.meter.load ∧ (enterCut s).meter.feeder = s.meter.feeder ∧
    (enterCut s).meter.estimate = s.meter.estimate ∧ (enterCut s).meter.overload = s.meter.overload ∧
    (enterCut s).enf.recovery = s.enf.recovery ∧ (enterCut s).link = s.link ∧ (enterCut s).loader = s.loader ∧
    (enterCut s).host.rx = s.host.rx ∧ (enterCut s).host.gap = s.host.gap ∧
    (enterCut s).host.inProgress = s.host.inProgress ∧ (enterCut s).host.waiting = s.host.waiting ∧
    (enterCut s).host.overrun = s.host.overrun ∧ (enterCut s).host.framesDiscarded = s.host.framesDiscarded := by
  unfold enterCut
  simp

/-- What the return from COOLING leaves as it was. -/
@[simp] theorem leaveCooling_frame (s : State) :
    (leaveCooling s).now = s.now ∧ (leaveCooling s).pending = s.pending ∧
    (leaveCooling s).restartInput = s.restartInput ∧ (leaveCooling s).bus = s.bus ∧
    (leaveCooling s).sched.inFlight = s.sched.inFlight ∧ (leaveCooling s).sched.spacing = s.sched.spacing ∧
    (leaveCooling s).sched.isolationCount = s.sched.isolationCount ∧
    (leaveCooling s).sched.requestsDropped = s.sched.requestsDropped ∧
    (leaveCooling s).roster.overflow = s.roster.overflow ∧ (leaveCooling s).roster.forgotten = s.roster.forgotten ∧
    (leaveCooling s).roster.admissionsRefused = s.roster.admissionsRefused ∧
    (leaveCooling s).roster.shedIgnored = s.roster.shedIgnored ∧
    (leaveCooling s).planner.claim.priority = s.planner.claim.priority ∧
    (leaveCooling s).planner.claim.min = s.planner.claim.min ∧
    (leaveCooling s).planner.claim.max = s.planner.claim.max ∧
    (leaveCooling s).planner.claim.hostDemand = s.planner.claim.hostDemand ∧
    (leaveCooling s).grantCtl.deficit = s.grantCtl.deficit ∧
    (leaveCooling s).grantCtl.shedHold = s.grantCtl.shedHold ∧ (leaveCooling s).life.listen = s.life.listen ∧
    (leaveCooling s).life.cycle = s.life.cycle ∧ (leaveCooling s).life.tClean = s.life.tClean ∧
    (leaveCooling s).life.tAny = s.life.tAny ∧ (leaveCooling s).life.fallbackAt = s.life.fallbackAt ∧
    (leaveCooling s).life.spentAt = s.life.spentAt ∧ (leaveCooling s).meter = s.meter ∧
    (leaveCooling s).enf.overdraw = s.enf.overdraw ∧ (leaveCooling s).link = s.link ∧
    (leaveCooling s).loader = s.loader ∧ (leaveCooling s).host.rx = s.host.rx ∧
    (leaveCooling s).host.gap = s.host.gap ∧ (leaveCooling s).host.inProgress = s.host.inProgress ∧
    (leaveCooling s).host.waiting = s.host.waiting ∧ (leaveCooling s).host.overrun = s.host.overrun ∧
    (leaveCooling s).host.framesDiscarded = s.host.framesDiscarded := by
  unfold leaveCooling
  simp

/-- What a cycle expiry leaves as it was. -/
@[simp] theorem countSilences_frame (s : State) :
    (countSilences s).now = s.now ∧ (countSilences s).pending = s.pending ∧
    (countSilences s).restartInput = s.restartInput ∧ (countSilences s).bus = s.bus ∧
    (countSilences s).sched.inFlight = s.sched.inFlight ∧ (countSilences s).sched.spacing = s.sched.spacing ∧
    (countSilences s).sched.isolationCount = s.sched.isolationCount ∧
    (countSilences s).sched.requestsDropped = s.sched.requestsDropped ∧
    (countSilences s).roster.overflow = s.roster.overflow ∧
    (countSilences s).roster.forgotten = s.roster.forgotten ∧
    (countSilences s).roster.admissionsRefused = s.roster.admissionsRefused ∧
    (countSilences s).roster.shedIgnored = s.roster.shedIgnored ∧
    (countSilences s).planner.claim = s.planner.claim ∧ (countSilences s).grantCtl.deficit = s.grantCtl.deficit ∧
    (countSilences s).grantCtl.shedHold = s.grantCtl.shedHold ∧ (countSilences s).life.listen = s.life.listen ∧
    (countSilences s).life.cycle = s.life.cycle ∧ (countSilences s).life.tClean = s.life.tClean ∧
    (countSilences s).life.tAny = s.life.tAny ∧ (countSilences s).life.fallbackAt = s.life.fallbackAt ∧
    (countSilences s).life.spentAt = s.life.spentAt ∧ (countSilences s).meter = s.meter ∧
    (countSilences s).enf = s.enf ∧ (countSilences s).link = s.link ∧ (countSilences s).loader = s.loader ∧
    (countSilences s).host.rx = s.host.rx ∧ (countSilences s).host.gap = s.host.gap ∧
    (countSilences s).host.inProgress = s.host.inProgress ∧ (countSilences s).host.waiting = s.host.waiting ∧
    (countSilences s).host.overrun = s.host.overrun ∧
    (countSilences s).host.framesDiscarded = s.host.framesDiscarded := by
  unfold countSilences
  (repeat' split) <;> simp

/-- What forgetting leaves as it was. -/
@[simp] theorem forgetEntry_frame (n : Station) (s : State) :
    (forgetEntry n s).now = s.now ∧ (forgetEntry n s).pending = s.pending ∧
    (forgetEntry n s).restartInput = s.restartInput ∧ (forgetEntry n s).bus = s.bus ∧
    (forgetEntry n s).sched.inFlight = s.sched.inFlight ∧ (forgetEntry n s).sched.spacing = s.sched.spacing ∧
    (forgetEntry n s).sched.isolationCount = s.sched.isolationCount ∧
    (forgetEntry n s).sched.requestsDropped = s.sched.requestsDropped ∧
    (forgetEntry n s).roster.admissionsRefused = s.roster.admissionsRefused ∧
    (forgetEntry n s).roster.shedIgnored = s.roster.shedIgnored ∧
    (forgetEntry n s).planner.claim = s.planner.claim ∧ (forgetEntry n s).grantCtl.deficit = s.grantCtl.deficit ∧
    (forgetEntry n s).grantCtl.shedHold = s.grantCtl.shedHold ∧ (forgetEntry n s).life.listen = s.life.listen ∧
    (forgetEntry n s).life.cycle = s.life.cycle ∧ (forgetEntry n s).life.tClean = s.life.tClean ∧
    (forgetEntry n s).life.tAny = s.life.tAny ∧ (forgetEntry n s).life.fallbackAt = s.life.fallbackAt ∧
    (forgetEntry n s).life.spentAt = s.life.spentAt ∧ (forgetEntry n s).meter = s.meter ∧
    (forgetEntry n s).enf = s.enf ∧ (forgetEntry n s).link = s.link ∧ (forgetEntry n s).loader = s.loader ∧
    (forgetEntry n s).host.rx = s.host.rx ∧ (forgetEntry n s).host.gap = s.host.gap ∧
    (forgetEntry n s).host.inProgress = s.host.inProgress ∧ (forgetEntry n s).host.waiting = s.host.waiting ∧
    (forgetEntry n s).host.overrun = s.host.overrun ∧
    (forgetEntry n s).host.framesDiscarded = s.host.framesDiscarded := by
  unfold forgetEntry
  simp

/-- What the end of the listen leaves as it was. -/
@[simp] theorem listenEnds_frame (s : State) :
    (listenEnds s).now = s.now ∧ (listenEnds s).pending = s.pending ∧ (listenEnds s).restartInput = s.restartInput ∧
    (listenEnds s).bus = s.bus ∧ (listenEnds s).sched.inFlight = s.sched.inFlight ∧
    (listenEnds s).sched.spacing = s.sched.spacing ∧ (listenEnds s).sched.isolationCount = s.sched.isolationCount ∧
    (listenEnds s).sched.requestsDropped = s.sched.requestsDropped ∧ (listenEnds s).roster = s.roster ∧
    (listenEnds s).planner = s.planner ∧ (listenEnds s).grantCtl.settled = s.grantCtl.settled ∧
    (listenEnds s).grantCtl.raiseHold = s.grantCtl.raiseHold ∧
    (listenEnds s).grantCtl.deficit = s.grantCtl.deficit ∧ (listenEnds s).grantCtl.shedHold = s.grantCtl.shedHold ∧
    (listenEnds s).life.cycle = s.life.cycle ∧ (listenEnds s).life.tClean = s.life.tClean ∧
    (listenEnds s).life.tAny = s.life.tAny ∧ (listenEnds s).meter = s.meter ∧ (listenEnds s).enf = s.enf ∧
    (listenEnds s).link = s.link ∧ (listenEnds s).loader = s.loader ∧ (listenEnds s).host.rx = s.host.rx ∧
    (listenEnds s).host.gap = s.host.gap ∧ (listenEnds s).host.inProgress = s.host.inProgress ∧
    (listenEnds s).host.waiting = s.host.waiting ∧ (listenEnds s).host.overrun = s.host.overrun ∧
    (listenEnds s).host.framesDiscarded = s.host.framesDiscarded := by
  unfold listenEnds
  simp

/-- What the end of the shed hold leaves as it was. -/
@[simp] theorem shedHoldEnds_frame (s : State) :
    (shedHoldEnds s).now = s.now ∧ (shedHoldEnds s).pending = s.pending ∧
    (shedHoldEnds s).restartInput = s.restartInput ∧ (shedHoldEnds s).cutOutput = s.cutOutput ∧
    (shedHoldEnds s).bus = s.bus ∧ (shedHoldEnds s).sched.inFlight = s.sched.inFlight ∧
    (shedHoldEnds s).sched.spacing = s.sched.spacing ∧
    (shedHoldEnds s).sched.isolationCount = s.sched.isolationCount ∧
    (shedHoldEnds s).sched.requestsDropped = s.sched.requestsDropped ∧
    (shedHoldEnds s).roster.overflow = s.roster.overflow ∧ (shedHoldEnds s).roster.forgotten = s.roster.forgotten ∧
    (shedHoldEnds s).roster.admissionsRefused = s.roster.admissionsRefused ∧
    (shedHoldEnds s).roster.shedIgnored = s.roster.shedIgnored ∧ (shedHoldEnds s).planner.claim = s.planner.claim ∧
    (shedHoldEnds s).grantCtl.settled = s.grantCtl.settled ∧ (shedHoldEnds s).life = s.life ∧
    (shedHoldEnds s).meter = s.meter ∧ (shedHoldEnds s).enf = s.enf ∧ (shedHoldEnds s).link = s.link ∧
    (shedHoldEnds s).loader = s.loader ∧ (shedHoldEnds s).host.rx = s.host.rx ∧
    (shedHoldEnds s).host.gap = s.host.gap ∧ (shedHoldEnds s).host.inProgress = s.host.inProgress ∧
    (shedHoldEnds s).host.waiting = s.host.waiting ∧ (shedHoldEnds s).host.overrun = s.host.overrun ∧
    (shedHoldEnds s).host.framesDiscarded = s.host.framesDiscarded := by
  unfold shedHoldEnds
  simp

/-- What a cycle expiry leaves as it was. -/
@[simp] theorem cycleExpires_frame (d : Time) (s : State) :
    (cycleExpires d s).now = s.now ∧ (cycleExpires d s).pending = s.pending ∧
    (cycleExpires d s).restartInput = s.restartInput ∧ (cycleExpires d s).bus = s.bus ∧
    (cycleExpires d s).sched.inFlight = s.sched.inFlight ∧ (cycleExpires d s).sched.spacing = s.sched.spacing ∧
    (cycleExpires d s).sched.isolationCount = s.sched.isolationCount ∧
    (cycleExpires d s).sched.requestsDropped = s.sched.requestsDropped ∧
    (cycleExpires d s).roster.overflow = s.roster.overflow ∧
    (cycleExpires d s).roster.forgotten = s.roster.forgotten ∧
    (cycleExpires d s).roster.admissionsRefused = s.roster.admissionsRefused ∧
    (cycleExpires d s).roster.shedIgnored = s.roster.shedIgnored ∧
    (cycleExpires d s).planner.claim = s.planner.claim ∧ (cycleExpires d s).grantCtl.deficit = s.grantCtl.deficit ∧
    (cycleExpires d s).grantCtl.shedHold = s.grantCtl.shedHold ∧ (cycleExpires d s).life.listen = s.life.listen ∧
    (cycleExpires d s).life.tClean = s.life.tClean ∧ (cycleExpires d s).life.tAny = s.life.tAny ∧
    (cycleExpires d s).life.fallbackAt = s.life.fallbackAt ∧ (cycleExpires d s).life.spentAt = s.life.spentAt ∧
    (cycleExpires d s).meter = s.meter ∧ (cycleExpires d s).enf = s.enf ∧ (cycleExpires d s).link = s.link ∧
    (cycleExpires d s).loader = s.loader ∧ (cycleExpires d s).host.rx = s.host.rx ∧
    (cycleExpires d s).host.gap = s.host.gap ∧ (cycleExpires d s).host.inProgress = s.host.inProgress ∧
    (cycleExpires d s).host.waiting = s.host.waiting ∧ (cycleExpires d s).host.overrun = s.host.overrun ∧
    (cycleExpires d s).host.framesDiscarded = s.host.framesDiscarded := by
  unfold cycleExpires
  simp

/-- What a valid frame of a peer leaves as it was. -/
@[simp] theorem takePeerFrame_frame (f : Frame) (s : State) :
    (takePeerFrame f s).now = s.now ∧ (takePeerFrame f s).pending = s.pending ∧
    (takePeerFrame f s).restartInput = s.restartInput ∧ (takePeerFrame f s).bus.recessive = s.bus.recessive ∧
    (takePeerFrame f s).bus.endLeft = s.bus.endLeft ∧
    (takePeerFrame f s).bus.idle = s.bus.idle ∧ (takePeerFrame f s).bus.assembly = s.bus.assembly ∧
    (takePeerFrame f s).bus.attempt = s.bus.attempt ∧ (takePeerFrame f s).bus.framesSent = s.bus.framesSent ∧
    (takePeerFrame f s).bus.lost = s.bus.lost ∧ (takePeerFrame f s).bus.aborted = s.bus.aborted ∧
    (takePeerFrame f s).bus.partly = s.bus.partly ∧ (takePeerFrame f s).bus.unheard = s.bus.unheard ∧
    (takePeerFrame f s).bus.validReceived = s.bus.validReceived ∧
    (takePeerFrame f s).bus.damagedReceived = s.bus.damagedReceived ∧
    (takePeerFrame f s).sched.inFlight = s.sched.inFlight ∧ (takePeerFrame f s).sched.spacing = s.sched.spacing ∧
    (takePeerFrame f s).sched.isolationCount = s.sched.isolationCount ∧
    (takePeerFrame f s).sched.requestsDropped = s.sched.requestsDropped ∧
    (takePeerFrame f s).planner.claim = s.planner.claim ∧ (takePeerFrame f s).life.listen = s.life.listen ∧
    (takePeerFrame f s).life.cycle = s.life.cycle ∧ (takePeerFrame f s).life.tClean = s.life.tClean ∧
    (takePeerFrame f s).life.tAny = s.life.tAny ∧ (takePeerFrame f s).life.fallbackAt = s.life.fallbackAt ∧
    (takePeerFrame f s).life.spentAt = s.life.spentAt ∧ (takePeerFrame f s).meter = s.meter ∧
    (takePeerFrame f s).enf = s.enf ∧ (takePeerFrame f s).link = s.link ∧ (takePeerFrame f s).loader = s.loader ∧
    (takePeerFrame f s).host.rx = s.host.rx ∧ (takePeerFrame f s).host.gap = s.host.gap ∧
    (takePeerFrame f s).host.inProgress = s.host.inProgress ∧ (takePeerFrame f s).host.waiting = s.host.waiting ∧
    (takePeerFrame f s).host.overrun = s.host.overrun ∧
    (takePeerFrame f s).host.framesDiscarded = s.host.framesDiscarded := by
  cases f <;> simp [takePeerFrame]

/-- At our start bit no slot is driven: the transmitter drives neither (R98). -/
@[simp] theorem startAttempt_trailer (k : Kind) (r : Request) (s : State) :
    (startAttempt k r s).bus.trailer = .neither := rfl

/-! ### A fault of the storage (R160) -/

/-- A fault of the storage touches the held copy alone. -/
@[simp] theorem upsetCopy_frame (i : Fin 42) (b : Byte) (s : State) :
    (upsetCopy i b s).now = s.now ∧ (upsetCopy i b s).pending = s.pending ∧
    (upsetCopy i b s).restartInput = s.restartInput ∧ (upsetCopy i b s).cutOutput = s.cutOutput ∧
    (upsetCopy i b s).attention = s.attention ∧ (upsetCopy i b s).bus = s.bus ∧ (upsetCopy i b s).sched = s.sched ∧
    (upsetCopy i b s).roster = s.roster ∧ (upsetCopy i b s).planner = s.planner ∧
    (upsetCopy i b s).grantCtl = s.grantCtl ∧ (upsetCopy i b s).life = s.life ∧ (upsetCopy i b s).meter = s.meter ∧
    (upsetCopy i b s).enf = s.enf ∧ (upsetCopy i b s).link = s.link ∧ (upsetCopy i b s).loader.stage = s.loader.stage ∧
    (upsetCopy i b s).loader.readStep = s.loader.readStep ∧
    (upsetCopy i b s).loader.networkDigest = s.loader.networkDigest ∧
    (upsetCopy i b s).loader.reason = s.loader.reason ∧ (upsetCopy i b s).loader.cause = s.loader.cause ∧
    (upsetCopy i b s).loader.reverify = s.loader.reverify ∧ (upsetCopy i b s).loader.lineRate = s.loader.lineRate ∧
    (upsetCopy i b s).loader.rateDue = s.loader.rateDue ∧ (upsetCopy i b s).host = s.host := by
  repeat (first | exact rfl | refine ⟨rfl, ?_⟩)

/-- The changed copy stands where one was held (R160). -/
theorem upsetCopy_heldCopy {img : List Byte} {s : State} (i : Fin 42) (b : Byte) (h : s.loader.heldCopy = some img) :
    (upsetCopy i b s).loader.heldCopy = some (img.set i.val b) := by simp [upsetCopy, h]

/-- Every block reads its parameters from the changed copy (R160). -/
theorem upsetCopy_params {img : List Byte} {s : State} (i : Fin 42) (b : Byte) (h : s.loader.heldCopy = some img) :
    (upsetCopy i b s).params = paramsOf (img.set i.val b) := by simp [State.params, upsetCopy_heldCopy i b h]

/-- A fault of the storage comes about at its moment, whatever timer runs (log 14). -/
theorem execReverifyTimerExpiry_storageFault {t : Time} {i : Fin 42} {b : Byte} {s : State}
    (h : s.restartInput = false) :
    execReverifyTimerExpiry (.storageFault t i b) s = .next (upsetCopy i b (s.atTime t)) := by
  simp [execReverifyTimerExpiry, arrive, h]

/-- The check of a copy that agrees with its check word restarts the timer and does nothing else (R160). -/
theorem reverify_keeps {d : Time} {s : State} (h : s.copyOk = true) :
    reverify d s = { s with loader := { s.loader with reverify := some (d + Config.reverifyPeriod) } } := by
  simp [reverify, h]

/-- The check of a copy that does not agree enters FAULT (R83, R160). -/
theorem reverify_fails {d : Time} {s : State} (h : s.copyOk = false) : reverify d s = enterFault .heldCopy s := by
  simp [reverify, h]

end Sys2Proof.Machine
end

