-- ==== Sys2Proof/Laws/Effects.lean ====
section
/-! SUPPORT. What the shared operations write: one lemma for each operation and field that it changes. -/

namespace Sys2Proof.Machine

/-! ### The clock and how a command comes about -/

/-- A command that arrives while the RESTART input is released has its effect at the later of now and its moment. -/
theorem arrive_released {t : Time} {s : State} {f : State → State} (h : s.restartInput = false) :
    arrive t s f = .next (f (s.atTime t)) := by simp [arrive, h]

/-- A running timer's expiry while the RESTART input is released has its effect at the later of now and its deadline. -/
theorem expire_released {d : Time} {s : State} {f : Time → State → State} (h : s.restartInput = false) :
    expire (some d) s f = .next (f d (s.atTime d)) := by simp [expire, h]

/-- Every command that arrives answers a next state. -/
theorem arrive_next (t : Time) (s : State) (f : State → State) : ∃ u, arrive t s f = .next u := ⟨_, rfl⟩

/-- Every expiry answers a next state. -/
theorem expire_next (timer : Timer) (s : State) (f : Time → State → State) : ∃ u, expire timer s f = .next u := by
  cases timer <;> exact ⟨_, rfl⟩

/-- An effect whose condition holds comes about. -/
theorem onlyIf_holds {c : State → Bool} {f : State → State} {s : State} (h : c s = true) : onlyIf c f s = f s := by
  simp [onlyIf, h]

/-- An effect whose condition fails does not. -/
theorem onlyIf_fails {c : State → Bool} {f : State → State} {s : State} (h : c s = false) : onlyIf c f s = s := by
  simp [onlyIf, h]

/-- An expiry: what holds of the state without it and of the state after it holds of what it answers. -/
theorem expire_inv {P : State → Prop} {timer : Timer} {s u : State} {f : Time → State → State}
    (hs : P s) (hf : ∀ d, timer = some d → s.restartInput = false → P (f d (s.atTime d)))
    (h : expire timer s f = .next u) : P u := by
  cases timer with
  | none => cases h; exact hs
  | some d =>
    cases hr : s.restartInput
    · rw [expire_released hr] at h; cases h; exact hf d rfl hr
    · simp [expire, hr] at h; exact h ▸ hs

/-- An arrival: what holds of the state once the clock has moved, and of the state after it, holds of what it answers. -/
theorem arrive_inv {P : State → Prop} {t : Time} {s u : State} {f : State → State}
    (hs : P (s.atTime t)) (hf : s.restartInput = false → P (f (s.atTime t)))
    (h : arrive t s f = .next u) : P u := by
  cases hr : s.restartInput
  · rw [arrive_released hr] at h; cases h; exact hf hr
  · simp [arrive, hr] at h; exact h ▸ hs

/-- What holds of the state and of the effect holds of an effect under a condition. -/
theorem onlyIf_inv {P : State → Prop} {c : State → Bool} {f : State → State} {s : State}
    (hs : P s) (hf : c s = true → P (f s)) : P (onlyIf c f s) := by
  unfold onlyIf; split
  · exact hf ‹_›
  · exact hs

/-! ### Station state and CUT output -/

/-- The station state and the phase are those set; the rest of the lifecycle stays. -/
@[simp] theorem setStation_life (st : StationState) (ph : Phase) (s : State) :
    (setStation st ph s).life = { s.life with state := st, phase := ph } := by
  unfold setStation; split
  · rename_i h; rw [← h.1, ← h.2]
  · simp

/-- A change of station state drives the CUT output (R147). -/
theorem setStation_cutOutput {st : StationState} {ph : Phase} {s : State} (h : s.life.state ≠ st) :
    (setStation st ph s).cutOutput = (decide (st = .loading) || decide (st = .fault) || s.cutFlag) := by
  simp [setStation, h, State.cutCondition, State.cutFlag]

/-- The CUT output follows its condition through a change of station state (R147). -/
theorem setStation_cutLaw (st : StationState) (ph : Phase) (s : State) (h : s.cutOutput = s.cutCondition) :
    (setStation st ph s).cutOutput = (setStation st ph s).cutCondition := by
  unfold setStation; split
  · exact h
  · simp [State.cutCondition, State.cutFlag]

/-- A change raises STATION STATE (R66). -/
theorem setStation_queue (st : StationState) (ph : Phase) (s : State) :
    (setStation st ph s).host.queue =
      if s.life.state = st ∧ s.life.phase = ph then s.host.queue
      else enterNote (.stationState st ph s.loader.stage) s.host.queue := by
  unfold setStation; split <;> simp

/-- A change asserts ATTENTION (R178). -/
theorem setStation_attention (st : StationState) (ph : Phase) (s : State) :
    (setStation st ph s).attention = if s.life.state = st ∧ s.life.phase = ph then s.attention else true := by
  unfold setStation; split <;> simp

/-- Setting the station state that stands changes nothing. -/
theorem setStation_same {st : StationState} {ph : Phase} {s : State} (h1 : s.life.state = st) (h2 : s.life.phase = ph) :
    setStation st ph s = s := by simp [setStation, h1, h2]

/-! ### Requests -/

/-- A request that the station state does not accept leaves no trace (R105). -/
theorem raiseRequest_discarded {k : Kind} {x : Current} {s : State} (h : s.life.state.accepts k = false) :
    raiseRequest k x s = s := by simp [raiseRequest, h]

/-- A request that the state accepts stands in its slot afterwards, with at least its excess (R105). -/
theorem raiseRequest_stands {k : Kind} {x : Current} {s : State} (h : s.life.state.accepts k = true) :
    ∃ r, (raiseRequest k x s).sched.slot k = some r ∧ x ≤ r.excess := by
  unfold raiseRequest
  rw [if_pos h]
  cases k <;> dsimp only [Scheduler.setSlot, Scheduler.slot] <;> split <;>
    exact ⟨_, rfl, by first | exact Nat.le_refl _ | exact Nat.le_max_right _ _⟩

/-- A STATUS request writes the STATUS slot alone. -/
theorem raiseRequest_status_sched (x : Current) (s : State) :
    (raiseRequest .status x s).sched.shed = s.sched.shed ∧ (raiseRequest .status x s).sched.leave = s.sched.leave ∧
    (raiseRequest .status x s).sched.announce = s.sched.announce := by
  unfold raiseRequest; split <;> simp [Scheduler.setSlot]

/-- A slot that is filled stays filled when a request is raised. -/
theorem raiseRequest_status_kept (k : Kind) (x : Current) (s : State) (h : s.sched.status ≠ none) :
    (raiseRequest k x s).sched.status ≠ none := by
  unfold raiseRequest; split
  · cases k <;> dsimp only [Scheduler.setSlot, Scheduler.slot] <;> try exact h
    split <;> simp
  · exact h

/-! ### The grant -/

/-- The grant becomes what it is set to (R54, R55). -/
@[simp] theorem setGrant_grantCtl (g : Current) (s : State) :
    (setGrant g s).grantCtl = { s.grantCtl with grant := g } := by
  unfold setGrant; split
  · rename_i h; rw [← h]
  · simp

/-- A changed grant raises GRANT (R59). -/
theorem setGrant_queue (g : Current) (s : State) :
    (setGrant g s).host.queue = if s.grantCtl.grant = g then s.host.queue else enterNote (.grant g) s.host.queue := by
  unfold setGrant; split <;> simp

/-- A changed grant asserts ATTENTION (R178). -/
theorem setGrant_attention (g : Current) (s : State) :
    (setGrant g s).attention = if s.grantCtl.grant = g then s.attention else true := by
  unfold setGrant; split <;> simp

/-- Setting the grant that stands changes nothing (R59). -/
theorem setGrant_same {g : Current} {s : State} (h : s.grantCtl.grant = g) : setGrant g s = s := by simp [setGrant, h]

/-- Where no STATUS is accepted a change of the grant touches no slot (R59, R105). -/
theorem setGrant_sched_discarded {g : Current} {s : State} (h : s.life.state.accepts .status = false) :
    (setGrant g s).sched = s.sched := by
  unfold setGrant; split
  · rfl
  · rw [raiseRequest_discarded (by simpa using h)]; simp

/-- A change of the grant writes the STATUS slot alone. -/
@[simp] theorem setGrant_slots (g : Current) (s : State) :
    (setGrant g s).sched.shed = s.sched.shed ∧ (setGrant g s).sched.leave = s.sched.leave ∧
    (setGrant g s).sched.announce = s.sched.announce := by
  unfold setGrant; split <;> simp [raiseRequest_status_sched]

/-- A raise that is weighed gives our share with permission and a share above the grant, else the grant that stands (R55). -/
theorem weighRaise_grant (s : State) :
    (weighRaise s).grantCtl =
      { s.grantCtl with grant := if s.permission ∧ s.grantCtl.grant < s.ownShare then s.ownShare else s.grantCtl.grant } := by
  unfold weighRaise; split <;> simp

/-- What a share that meets the grant gives (R54, R55, R56, R58). -/
theorem takeShare_grant (s : State) :
    (takeShare s).grantCtl =
      { s.grantCtl with grant :=
        if (s.life.state = .active ∨ s.life.state = .joining) ∧ s.ownShare < s.grantCtl.grant then s.ownShare
        else if s.permission ∧ s.grantCtl.grant < s.ownShare then s.ownShare else s.grantCtl.grant } := by
  unfold takeShare; split
  · simp
  · exact weighRaise_grant s

/-- A share that meets the grant writes the STATUS slot alone. -/
@[simp] theorem takeShare_slots (s : State) :
    (takeShare s).sched.shed = s.sched.shed ∧ (takeShare s).sched.leave = s.sched.leave ∧
    (takeShare s).sched.announce = s.sched.announce := by
  unfold takeShare weighRaise; (repeat' split) <;> simp

/-- Outside ACTIVE and JOINING a share that meets the grant does nothing (R58). -/
theorem takeShare_elsewhere {s : State} (h1 : s.life.state ≠ .active) (h2 : s.life.state ≠ .joining) :
    takeShare s = s := by simp [takeShare, weighRaise, State.permission, h1, h2]

/-! ### Our share and the parameters look at few fields -/

/-- The parameters in use depend on the held copy alone (R160). -/
theorem params_congr {a b : State} (h : a.loader.heldCopy = b.loader.heldCopy) : a.params = b.params := by
  simp [State.params, h]

/-- Our station number depends on the held copy alone (R160). -/
theorem ownStation_congr {a b : State} (h : a.loader.heldCopy = b.loader.heldCopy) : a.ownStation = b.ownStation := by
  unfold State.ownStation; rw [params_congr h]

/-- Our share depends on the standing plan and our number alone (R14). -/
theorem ownShare_congr {a b : State} (hp : a.planner.plan = b.planner.plan)
    (hs : a.loader.heldCopy = b.loader.heldCopy) : a.ownShare = b.ownShare := by
  unfold State.ownShare State.ownRow; rw [hp, ownStation_congr hs]

/-- The digest depends on our number, our serial and the entries' elements alone (R18). -/
theorem digestNow_congr {a b : State} (hn : a.loader.heldCopy = b.loader.heldCopy)
    (hs : a.planner.claim.serial = b.planner.claim.serial)
    (he : a.roster.entries.map (fun e => (e.station, e.element)) = b.roster.entries.map (fun e => (e.station, e.element))) :
    a.digestNow = b.digestNow := by
  have key : ∀ (own : Station) (ser : Byte) (xs ys : List Entry),
      xs.map (fun e => (e.station, e.element)) = ys.map (fun e => (e.station, e.element)) →
      xs.flatMap Entry.element = ys.flatMap Entry.element ∧ digestBytes own ser xs = digestBytes own ser ys := by
    intro own ser xs
    induction xs with
    | nil => intro ys h; cases ys with
      | nil => exact ⟨rfl, rfl⟩
      | cons y ys => simp at h
    | cons x xs ih => intro ys h; cases ys with
      | nil => simp at h
      | cons y ys =>
        simp only [List.map_cons, List.cons.injEq, Prod.mk.injEq] at h
        obtain ⟨⟨h1, h2⟩, h3⟩ := h
        obtain ⟨i1, i2⟩ := ih ys h3
        simp [digestBytes, h1, h2, i1, i2]
  unfold State.digestNow
  rw [ownStation_congr hn, hs, (key _ _ _ _ he).2]

/-- Clearing the confirmations changes no element (R18, R49). -/
@[simp] theorem clearConfirmations_digestNow (s : State) : (clearConfirmations s).digestNow = s.digestNow := by
  apply digestNow_congr <;> simp [Function.comp_def, Entry.element]

/-- The digest after a hand-off: computed over the elements as they stand where it changed, else as it was (R17, R19). -/
theorem handOn_digest (dig pln : Bool) (s : State) :
    (handOn dig pln s).planner.digest = if dig then s.digestNow else s.planner.digest := by
  cases dig <;> unfold handOn <;> dsimp only <;> split_ifs <;> simp_all [takeDigestChange, replacePlan]

/-- The digest after the entry into DORMANT, whatever the roster held: over our own element alone (R20, R81). -/
theorem enterDormant_digest (s : State) :
    (enterDormant s).planner.digest = crc16 (digestElement s.ownStation .live s.planner.claim.serial) := by
  unfold enterDormant
  dsimp only
  rw [(evalSettled_frame _).2.2.2.2.2.2.2.2.2.1, handOn_digest]
  simp [State.digestNow, State.ownStation, State.params, digestBytes]

/-- Our own estimate depends on the Meter's and the held copy alone (R5). -/
theorem ownEstimate_congr {a b : State} (hu : a.meter.estimate = b.meter.estimate)
    (hh : a.loader.heldCopy = b.loader.heldCopy) : a.ownEstimate = b.ownEstimate := by
  unfold State.ownEstimate; rw [params_congr hh, hu]

/-- On a feeder-sensing station our own estimate is the Meter's (R5). -/
theorem ownEstimate_sensing {s : State} (h : s.params.feederSensing = true) : s.ownEstimate = s.meter.estimate := by
  simp [State.ownEstimate, h]

/-- On any other station there is none (R5). -/
theorem ownEstimate_notSensing {s : State} (h : s.params.feederSensing = false) : s.ownEstimate = none := by
  simp [State.ownEstimate, h]

/-- Folding the estimates of LIVE entries from a start: the result is at least the start and each of them, and one of
them where it is not the start (R5). -/
theorem liveEstimates_fold (es : List Entry) (m : Current) :
    let u := es.foldl (fun u e => if e.cls = .live then max u (e.estimate.getD 0) else u) m
    m ≤ u ∧ (∀ e ∈ es, e.cls = .live → ∀ v, e.estimate = some v → v ≤ u) ∧
      (u = m ∨ ∃ e ∈ es, e.cls = .live ∧ e.estimate = some u) := by
  induction es generalizing m with
  | nil => simp
  | cons x xs ih =>
    simp only [List.foldl_cons]
    obtain ⟨h1, h2, h3⟩ := ih (if x.cls = .live then max m (x.estimate.getD 0) else m)
    refine ⟨le_trans (by split <;> simp) h1, ?_, ?_⟩
    · intro e he hl v hv
      rcases List.mem_cons.mp he with rfl | he
      · exact le_trans (by simp [hl, hv]) h1
      · exact h2 e he hl v hv
    · rcases h3 with h3 | ⟨e, he, h3⟩
      · by_cases hx : x.cls = .live
        · simp only [hx, if_true] at h3 ⊢
          rcases le_total (x.estimate.getD 0) m with hm | hm
          · exact .inl (h3.trans (max_eq_left hm))
          · cases hq : x.estimate with
            | none => simp only [hq, Option.getD_none] at h3 hm ⊢; exact .inl (h3.trans (by simp))
            | some v =>
              simp only [hq, Option.getD_some] at h3 hm ⊢
              exact .inr ⟨x, by simp, hx, by rw [h3, max_eq_right hm]; exact hq⟩
        · simp only [hx, if_false] at h3 ⊢; exact .inl h3
      · exact .inr ⟨e, List.mem_cons_of_mem _ he, h3⟩

/-- What of an entry the plan reads. -/
def Entry.planParts (e : Entry) : Current × Option Row × Option Current :=
  (match e.cls, e.origin with
    | .mismatch, .heard r => r.max
    | _, _ => 0, e.row?, if e.cls = .live then e.estimate else none)

/-- The plan depends on our claim, U, D, the parameters and, of each entry, its class with its row, its estimate and its max
(R15). -/
theorem planNow_congr {a b : State} (hc : a.planner.claim = b.planner.claim) (hu : a.meter.estimate = b.meter.estimate)
    (hd : a.grantCtl.deficit = b.grantCtl.deficit) (hh : a.loader.heldCopy = b.loader.heldCopy)
    (he : a.roster.entries.map (fun e => (e.cls, e.planParts)) = b.roster.entries.map (fun e => (e.cls, e.planParts))) :
    a.planNow = b.planNow := by
  have key : ∀ (xs ys : List Entry) (m f : Current),
      xs.map (fun e => (e.cls, e.planParts)) = ys.map (fun e => (e.cls, e.planParts)) →
      xs.foldl (fun u e => if e.cls = .live then max u (e.estimate.getD 0) else u) m =
        ys.foldl (fun u e => if e.cls = .live then max u (e.estimate.getD 0) else u) m ∧
      xs.map (Entry.reservation f) = ys.map (Entry.reservation f) ∧
      xs.filterMap Entry.row? = ys.filterMap Entry.row? := by
    intro xs
    induction xs with
    | nil => intro ys m f h; cases ys with
      | nil => exact ⟨rfl, rfl, rfl⟩
      | cons y ys => simp at h
    | cons x xs ih => intro ys m f h; cases ys with
      | nil => simp at h
      | cons y ys =>
        simp only [List.map_cons, List.cons.injEq, Prod.mk.injEq, Entry.planParts] at h
        obtain ⟨⟨h1, h2, h3, h4⟩, h5⟩ := h
        have ih' := fun m => ih ys m f h5
        refine ⟨?_, ?_, ?_⟩
        · simp only [List.foldl_cons]
          have : (if x.cls = .live then max m (x.estimate.getD 0) else m) =
              (if y.cls = .live then max m (y.estimate.getD 0) else m) := by
            rw [← h1] at h4 ⊢
            by_cases hx : x.cls = .live
            · simp only [hx, if_true] at h4 ⊢; rw [h4]
            · simp [hx]
          rw [this]; exact (ih' _).1
        · simp only [List.map_cons, (ih' m).2.1, List.cons.injEq, and_true]
          unfold Entry.reservation
          rw [← h1] at h2 ⊢
          cases hx : x.cls <;> cases hox : x.origin <;> cases hoy : y.origin <;>
            simp only [hx, hox, hoy] at h2 ⊢ <;> exact h2
        · simp only [List.filterMap_cons, h3, (ih' m).2.2]
  have hp := params_congr hh
  obtain ⟨k1, k2, k3⟩ := key _ _ (b.ownEstimate.getD 0) b.params.fallback he
  have u : a.umax = b.umax := by unfold State.umax; rw [ownEstimate_congr hu hh]; exact k1
  have h : a.headroom = b.headroom := by unfold State.headroom; rw [hp, u, hd]
  have p : a.pool = b.pool := by unfold State.pool State.reserved; rw [h, hp, k2]
  have r : a.claimRows = b.claimRows := by unfold State.claimRows; rw [hc, ownStation_congr hh, k3]
  unfold State.planNow; rw [u, h, p, r, hd]

/-- Clearing the confirmations changes no input of the plan (R15, R49). -/
@[simp] theorem clearConfirmations_planNow (s : State) : (clearConfirmations s).planNow = s.planNow := by
  apply planNow_congr <;> simp [Function.comp_def, Entry.planParts, Entry.row?]

end Sys2Proof.Machine
end

