-- ==== Sys2Proof/Laws/Host.lean ====
section
/-! SUPPORT. What the Host Port does with a command frame: the buffer, the judgement, the reply. -/

namespace Sys2Proof.Machine

/-- A whole command frame of a size that fits enters the command buffer (R164, R165). -/
theorem commandArrives_released {t : Time} {code : Byte} {p : List Byte} {s : State} (h : s.restartInput = false)
    (hp : p.length < 64) :
    commandArrives t code p s = .next (enterCommand { code := code, payload := p } (endHostFrame (s.atTime t))) := by
  simp [commandArrives, arrive, h, onlyIf, hp]

/-- With no command in progress the command is taken at once (R165). -/
theorem enterCommand_free {cmd : HostCommand} {s : State} (h : s.host.inProgress = none) :
    enterCommand cmd s = takeCommand cmd s := by simp [enterCommand, h]

/-- With a command in progress and none waiting the command waits (R165). -/
theorem enterCommand_waits {cmd : HostCommand} {s : State} (h : s.host.inProgress ≠ none) (hw : s.host.waiting = none) :
    enterCommand cmd s = { s with host := { s.host with waiting := some cmd } } := by
  unfold enterCommand; split <;> simp_all

/-- With one in progress and one waiting the command is dropped (R165). -/
theorem enterCommand_drops {cmd : HostCommand} {s : State} (h : s.host.inProgress ≠ none) (hw : s.host.waiting ≠ none) :
    enterCommand cmd s =
      { s with host := { s.host with overrun := true, framesDiscarded := bump s.host.framesDiscarded } } := by
  unfold enterCommand; split <;> simp_all

/-- The code of a known command names it (T 11-2). -/
@[simp] theorem cmdOf_code (c : Cmd) : cmdOf c.code = some c := by cases c <;> rfl

/-- A command that the state refuses is answered with the gate's status (R166, R167). -/
theorem answerTo_refused {c : Cmd} {p : List Byte} {st : Status} {s : State} (h : s.gate c = some st) :
    answerTo { code := c.code, payload := p } s = refuse st s := by simp [answerTo, h]

/-- A command that the state takes but whose payload has another size is answered FORMAT (R166). -/
theorem answerTo_format {c : Cmd} {p : List Byte} {s : State} (h : s.gate c = none) (hp : p.length ≠ c.payloadSize) :
    answerTo { code := c.code, payload := p } s = refuse .format s := by simp [answerTo, h, hp]

/-- A command that the state takes and whose size is right acts (R166). -/
theorem answerTo_taken {c : Cmd} {p : List Byte} {s : State} (h : s.gate c = none) (hp : p.length = c.payloadSize) :
    answerTo { code := c.code, payload := p } s = act c p s := by simp [answerTo, h, hp]

/-- An unknown code is answered UNKNOWN (R166). -/
theorem answerTo_unknown {cmd : HostCommand} {s : State} (h : cmdOf cmd.code = none) :
    answerTo cmd s = refuse .unknown s := by simp [answerTo, h]

/-- The gate looks at the station state and the loader stage alone (R167). -/
theorem gate_congr {a b : State} (hs : a.life.state = b.life.state) (hl : a.loader.stage = b.loader.stage) (c : Cmd) :
    a.gate c = b.gate c := by unfold State.gate; rw [hs, hl]

/-- A host command of known code with the port free: the state after its effects, with its reply begun (R165, R166). -/
theorem commandArrives_taken {c : Cmd} {t : Time} {p : List Byte} {s : State} (h : s.restartInput = false)
    (hi : s.host.inProgress = none) (hl : p.length < 64) (hg : s.gate c = none) (hp : p.length = c.payloadSize) :
    commandArrives t c.code p s =
      (let a := act c p (endHostFrame (s.atTime t))
       .next { a.after with host := { a.after.host with
        overrun := false
        inProgress := some
          { command := { code := c.code, payload := p }
            reply := replyFrame c.code a.status a.after.host.overrun a.payload
            restarts := restartsAfter { code := c.code, payload := p } a } } }) := by
  rw [commandArrives_released h hl, enterCommand_free (by simpa using hi)]
  unfold takeCommand
  rw [answerTo_taken (by rw [← hg]; exact gate_congr (by simp) (by simp) c) hp]

/-- A host command that is refused with the port free: the reply alone (R165, R166, R167). -/
theorem commandArrives_refused {c : Cmd} {t : Time} {p : List Byte} {st : Status} {s : State} (h : s.restartInput = false)
    (hi : s.host.inProgress = none) (hl : p.length < 64)
    (hg : s.gate c = some st ∨ (s.gate c = none ∧ p.length ≠ c.payloadSize ∧ st = .format)) :
    commandArrives t c.code p s =
      .next { s.atTime t with host := { s.host with
        rx := .hunting, gap := none, overrun := false
        inProgress := some
          { command := { code := c.code, payload := p }
            reply := replyFrame c.code st s.host.overrun []
            restarts := restartsAfter { code := c.code, payload := p } (refuse st s) } } } := by
  have e : answerTo { code := c.code, payload := p } (endHostFrame (s.atTime t)) =
      refuse st (endHostFrame (s.atTime t)) := by
    have g : (endHostFrame (s.atTime t)).gate c = s.gate c := gate_congr (by simp) (by simp) c
    rcases hg with hg | ⟨hg, hp, rfl⟩
    · exact answerTo_refused (g.trans hg)
    · exact answerTo_format (g.trans hg) hp
  rw [commandArrives_released h hl, enterCommand_free (by simpa using hi)]
  unfold takeCommand
  rw [e]
  rfl

/-- The gate refuses with BUSY or STATE alone. -/
theorem gate_status {s : State} {c : Cmd} {st : Status} (h : s.gate c = some st) : st = .busy ∨ st = .state := by
  unfold State.gate at h
  cases hs : s.life.state <;> cases hl : s.loader.stage <;> cases c <;>
    simp_all [loadingGate, faultGate, duplicateGate, runningGate, StationState.leaves]

end Sys2Proof.Machine
end

