-- ==== Sys2Proof/Tests/Slice0.lean ====
section
/-! SUPPORT. The model's own tests: ill-formed commands are refused, the spec's worked examples come out, each command does one
thing that its rule states, and every statement's hypotheses are met by a concrete state. -/

namespace Sys2Proof.Tests

set_option Elab.async false

open Sys2Proof.Machine Sys2Proof.Safety Sys2Proof.Claims

/-! ### Small states -/

/-- An image: station 5, feeder-sensing and trimming, min 6.0 A, max 32.0 A, L 90.0 A, F 6.0 A, a window of 16 with threshold 2. -/
def img : List Byte :=
  [0x31, 42, 0, 0, 5, 1, 0, 60, 1, 64, 3, 0, 20, 0, 30, 0, 10, 10, 0, 60, 3] ++
  [232, 7, 208, 16, 2, 1, 3, 132, 0, 0, 0, 60, 10, 4, 0, 120, 5, 30, 1, 112, 182]

/-- Our claim: 10.0 A. -/
def claim : OwnClaim :=
  { priority := 1, min := 60, max := 320, hostDemand := 100, effectiveDemand := 100, serial := 1 }

/-- The claim of the peers below: station state ACTIVE, 6.0 A to 32.0 A, claiming 20.0 A. -/
def peerClaim : ClaimPart :=
  { serial := 7, flags := { state := .active, priority := 2, degraded := false, cut := false, parked := false },
    min := 60, max := 320, demand := 200 }

/-- A LIVE entry of a station, with that claim, which has counted `k` silences. -/
def entry (n : Station) (k : Nat) : Entry :=
  { station := n, cls := .live
    origin := .heard { priority := 2, min := 60, max := 320, demand := 200, serial := 7, grant := 0, state := .active,
                       lastHeard := 4000000 }
    flags := ⟨false, false, false⟩, draw := some 30, estimate := none, digest := some 0, confirmed := false
    silence := k, forget := none }

/-- An entry of hearsay, whose forget timer runs. -/
def heardOf (n : Station) : Entry :=
  { station := n, cls := .quiet, origin := .hearsay, flags := ⟨false, false, false⟩, draw := none, estimate := none,
    digest := none, confirmed := false, silence := 0, forget := some 9000000 }

/-- A station that works in a station state with these entries, before its digest and plan. -/
def rough (st : StationState) (es : List Entry) : State :=
  { State.reset with
    now := 5000000, cutOutput := false
    planner := { claim := claim, plan := none, digest := 0 }
    roster := { RosterUnit.initial with entries := es }
    life := { Lifecycle.initial with
      state := st, cycle := some 5500000, tClean := some 4000000, tAny := some 4500000 }
    meter := { Meter.initial with update := some 5100000 }
    loader := { Loader.initial .power .idle with
      stage := .held, heldCopy := some img, networkDigest := some 0xFE43, reverify := some 8000000 } }

/-- That station with the digest and the plan of its inputs, and its settled flag. -/
def working (st : StationState) (es : List Entry) : State :=
  let s := rough st es
  { s with
    planner := { s.planner with plan := some s.planNow, digest := s.digestNow }
    grantCtl := { s.grantCtl with settled := s.settledCondition } }

/-- Alone on the bus. -/
def alone (st : StationState) : State := working st []

/-- With station 9 LIVE. -/
def withNine (st : StationState) : State := working st [entry 9 0]

/-- A state as an assembly of a peer's frame has begun. -/
def listeningTo (s : State) : State := { s with bus := { s.bus with assembly := .good .peer [] 1 } }

/-- A state on the idle bus. -/
def onIdle (s : State) : State := { s with bus := { s.bus with recessive := 10, idle := true } }

/-- A state with an own attempt of a kind on the line. -/
def sending (k : Kind) (retry : Nat) (s : State) : State :=
  { s with
    bus := { s.bus with
      attempt := some { frame := s.frameFor k { retry := retry, excess := 0 }, startedAt := s.now, first := .nothing } }
    sched := { s.sched with inFlight := some { kind := k, request := { retry := retry, excess := 0 } } } }

/-- That state after another station has finished the frame at its last bit, and it was taken first (R121). -/
def overtaken (s : State) : State :=
  { s with bus := { s.bus with
      attempt := s.bus.attempt.map fun a => { a with first := .broken }, trailer := .refuse } }

/-- A state with the events of the Link Monitor's window. -/
def events (n damaged : Nat) (s : State) : State := { s with link := { s.link with events := n, damaged := damaged } }

/-- A STATUS of station 9 on our network, with a digest, a grant, a quiet set, and a draw. -/
def statusOf (q : BitVec 64) : List Byte :=
  (Frame.status 9 0xFE43 peerClaim
    { rosterDigest := 0x1234, grant := 0, quiet := q, draw := some 30, estimate := none }).bytes

/-- An ANNOUNCE, a LEAVE and a SHED of a station on a network. -/
def announceOf (n : Station) (net : Word16) : List Byte := (Frame.announce n net peerClaim).bytes
def leaveOf (n : Station) : List Byte := (Frame.leave n 0xFE43 7).bytes
def shedOf (n : Station) (net : Word16) : List Byte := (Frame.shed n net 25).bytes

/-- A complete frame that fails its check field. -/
def damagedBytes : List Byte := (leaveOf 9).set 2 0x55

/-- A full roster of 24 entries, station 9 not among them. -/
def full : List Entry := (List.range 24).map (fun k => heardOf (Fin.ofNat 64 (k + 20)))

/-- What one step makes of a command, seen through `f`. -/
def after {α : Type} (c : Instr) (s : State) (f : State → α) : Option α :=
  match step { s with pending := [c] } with
  | .next u => some (f u)
  | .fault _ => none
  | .refused _ => none

/-! ### Ill-formed commands are refused -/

theorem test_wellFormed_image : Instr.wellFormed (.imageRead 0 (List.replicate 39 0)) = false := by decide
theorem test_wellFormed_payload :
    [Instr.state 0, .demand 0, .peer 0, .plan 0, .counts 0, .note 0, .clearCut 0, .leave 0, .join 0, .restart 0,
      .config 0, .unknownCommand 0 0x20].all (fun c => !(c (List.replicate 64 0)).wellFormed) = true := by decide
theorem test_wellFormed_payload_fits : Instr.wellFormed (.config 0 (List.replicate 63 0)) = true := by decide
theorem test_wellFormed_known_code : Instr.wellFormed (.unknownCommand 0 0x0B []) = false := by decide
theorem test_wellFormed_unknown_code : Instr.wellFormed (.unknownCommand 0 0x0C []) = true := by decide
theorem test_wellFormed_good_host_frame : Instr.wellFormed (.hostFrameDiscarded 0 [1, 1, 0xFE]) = false := by decide
theorem test_wellFormed_bad_host_frame : Instr.wellFormed (.hostFrameDiscarded 0 [1, 1, 0xFF]) = true := by decide
theorem test_wellFormed_incomplete :
    [Instr.statusFrame 0 [0xC5, 2, 0, 0] true, .announceFrame 0 [0x85, 2, 0, 0] true, .leaveFrame 0 [0x45, 2, 0, 0] true,
      .shedFrame 0 [0x05, 2, 0, 0] true, .frameDamaged 0 [5, 2, 0, 0], .windowClose 0 (.received [5, 2, 0, 0] true)].all
      (fun c => !c.wellFormed) = true := by decide
theorem test_wellFormed_kind :
    [Instr.statusFrame 0 [0x85, 0, 0, 0] true, .announceFrame 0 [0xC5, 0, 0, 0] true, .leaveFrame 0 [0x05, 0, 0, 0] true,
      .shedFrame 0 [0x45, 0, 0, 0] true].all (fun c => !c.wellFormed) = true := by decide

/-! ### The spec's worked examples -/

/-- 1.7.1. -/
theorem test_first_division :
    ((divide 3140 [claimRow 3 2 60 320, claimRow 5 1 60 160, claimRow 9 1 60 200]).1.map
        (fun r => (r.share, r.outcome)),
      (divide 3140 [claimRow 3 2 60 320, claimRow 5 1 60 160, claimRow 9 1 60 200]).2) =
    ([(320, RowOutcome.full), (160, .full), (200, .full)], 2460) := by decide +kernel

/-- The rows of T 1-8 in the order of T 1-3. -/
def secondRows : List Row :=
  [claimRow 2 3 100 320, claimRow 7 2 60 160, claimRow 11 2 60 250, claimRow 4 1 400 500, claimRow 9 1 60 100,
    claimRow 14 0 60 0, claimRow 16 0 0 80]

/-- 1.7.2, T 1-11. -/
theorem test_second_division :
    ((divide 607 secondRows).1.map (fun r => (r.share, r.outcome)), (divide 607 secondRows).2) =
    ([(172, RowOutcome.partly), (132, .partly), (132, .partly), (0, .parked), (100, .full), (0, .idle), (71, .partly)], 0) := by
  decide +kernel

/-- 1.7.3, T 1-14. -/
theorem test_third_division :
    (divide 767 secondRows).1.map (fun r => (r.share, r.outcome)) =
    [(115, RowOutcome.partly), (75, .partly), (75, .partly), (414, .partly), (74, .partly), (0, .idle), (14, .partly)] := by
  decide +kernel

/-- The claimant order puts these rows as T 1-3 does. -/
theorem test_claimant_order : sortRows secondRows.reverse = secondRows := by decide +kernel

/-- The CRC-16 of 00_scope over the ASCII digits 1 to 9. -/
theorem test_crc16 : crc16 [0x31, 0x32, 0x33, 0x34, 0x35, 0x36, 0x37, 0x38, 0x39] = 0x29B1 := by decide +kernel

/-- T 5-6: the payload sizes, and 33 + 8n bits in the span that carries fill bits. -/
theorem test_frame_sizes :
    [shedOf 9 0, leaveOf 9, announceOf 9 0, statusOf 0].map (fun b => (b.length, 1 + 8 * b.length)) =
    [(8, 65), (7, 57), (14, 113), (29, 233)] := by decide +kernel

/-- T 5-7: station 9 loses arbitration against station 4 at identifier bit 3. -/
theorem test_arbitration :
    (losesAt (.status 9 0 peerClaim ⟨0, 0, 0, none, none⟩) 5,
      ((Frame.status 9 0 peerClaim ⟨0, 0, 0, none, none⟩).lineBits.take 6,
       (Frame.status 4 0 peerClaim ⟨0, 0, 0, none, none⟩).lineBits.take 6)) =
    (true, [false, true, true, false, false, true], [false, true, true, false, false, false]) := by decide +kernel

/-- The image above is valid, and so is the one that names its cycle by default. -/
theorem test_images_valid :
    (judgeImage img, judgeImage (img.set 41 0), judgeImage (img.set 1 41)) = (.none, .check, .format) := by
  decide +kernel

/-! ### One step of each command -/

theorem test_power_on : after (.powerOn 9) (alone .active) (fun u => (u.life.state, u.loader.cause, u.loader.readStep)) =
    some (.loading, .power, .header) := by decide +kernel
theorem test_restart_input_asserted :
    after (.restartInputAsserted 9) (alone .active) (fun u => (u.restartInput, u.life.state, u.loader.readStep)) =
    some (true, .loading, .idle) := by decide +kernel
theorem test_restart_input_release :
    after (.restartInputRelease 9) { State.reset with restartInput := true } (fun u => (u.restartInput, u.loader.cause)) =
    some (false, .pin) := by decide +kernel
theorem test_header_read : after (.headerRead 9 0xFF 0xFF) State.reset (fun u => (u.loader.stage, u.attention)) =
    some (.awaitingHost, true) := by decide +kernel
theorem test_image_read :
    after (.imageRead 9 (img.drop 2)) { State.reset with loader := { State.reset.loader with readStep := .body 0x31 42 } }
      (fun u => (u.life.state, u.loader.networkDigest, u.cutOutput)) = some (.listening, some 0xFE43, false) := by
  decide +kernel
theorem test_reverify_timer_expiry :
    after (.reverifyTimerExpiry .check) (alone .active) (fun u => u.loader.reverify) = some (some 12000000) := by
  decide +kernel
/-- A station whose held copy the storage has changed in its station number. -/
def upset (s : State) : State := { s with loader := { s.loader with heldCopy := some (img.set 4 7) } }
theorem test_reverify_storage_fault :
    after (.reverifyTimerExpiry (.storageFault 6000000 4 7)) (alone .active)
      (fun u => (u.loader.heldCopy, u.ownStation, u.loader.reverify, u.life.state, u.now)) =
    some (some (img.set 4 7), 7, some 8000000, .active, 6000000) := by decide +kernel
theorem test_reverify_changed_copy :
    after (.reverifyTimerExpiry .check) (upset (alone .active)) (fun u => (u.life.state, u.loader.reason, u.cutOutput)) =
    some (.fault, .heldCopy, true) := by decide +kernel
/-- The status byte and the payload of the reply that is being sent. -/
def replied (u : State) : List Byte := (u.host.inProgress.map (fun p => (p.reply.drop 3).dropLast)).getD []
theorem test_state : after (.state 9 []) State.reset replied =
    some [0, 0, 0, 0, 0, 64, 0, 0, 0, 0, 0, 0, 0, 0, 0, 0] := by decide +kernel
theorem test_demand :
    after (.demand 9 [0, 200]) (alone .active) (fun u => (u.planner.claim.effectiveDemand, u.planner.claim.serial, u.ownShare)) =
    some (200, 2, 200) := by decide +kernel
theorem test_demand_range : after (.demand 9 [0, 59]) (alone .active) replied = some [1] := by decide +kernel
theorem test_peer : after (.peer 9 [9]) (withNine .active) (fun u => (replied u).take 6) = some [0, 9, 1, 0, 11, 2] := by
  decide +kernel
theorem test_plan : after (.plan 9 [1]) (withNine .active) (fun u => (replied u).take 7) = some [0, 1, 2, 5, 0, 100, 3] := by
  decide +kernel
theorem test_counts :
    after (.counts 9 []) { alone .active with host := { HostPort.initial with notesLost := 258 } } replied =
    some (List.replicate 23 0 ++ [1, 2]) := by decide +kernel
theorem test_note :
    after (.note 9 []) { alone .active with host := { HostPort.initial with queue := [.grant 258], lostFlag := true } }
      (fun u => (replied u, u.host.queue, u.attention)) = some ([0, 1, 1, 1, 2], [], false) := by decide +kernel
theorem test_clear_cut :
    after (.clearCut 9 []) { alone .active with enf := { EnforcementUnit.initial with state := .cut } }
      (fun u => (u.enf.state, u.enf.recovery)) = some (.cooling, .running 65000000) := by decide +kernel
theorem test_leave : after (.leave 9 []) (alone .active) (fun u => (u.life.state, u.sched.leave)) =
    some (.leaving, some ⟨0, 0⟩) := by decide +kernel
theorem test_join : after (.join 9 []) (alone .dormant) (fun u => (u.life.state, u.life.listen)) =
    some (.listening, some 7000000) := by decide +kernel
theorem test_restart : after (.restart 9 []) (alone .active) (fun u => u.host.inProgress.map InProgress.restarts) =
    some (some true) := by decide +kernel
theorem test_config :
    after (.config 9 img) { State.reset with loader := { State.reset.loader with stage := .awaitingHost } }
      (fun u => (u.life.state, replied u)) = some (.listening, [0, 1, 0]) := by decide +kernel
theorem test_unknown_command : after (.unknownCommand 9 0x0C []) (alone .active) replied = some [4] := by decide +kernel
theorem test_host_frame_discarded :
    after (.hostFrameDiscarded 9 [1, 1, 0xFF]) (alone .active) (fun u => u.host.framesDiscarded) = some 1 := by decide +kernel
theorem test_gap_timer_expiry :
    after .gapTimerExpiry { alone .active with host := { HostPort.initial with rx := .collecting [2], gap := some 5000400 } }
      (fun u => (u.host.rx, u.host.framesDiscarded, u.now)) = some (.hunting, 1, 5000400) := by decide +kernel
theorem test_byte_without_stop_bit :
    after (.byteWithoutStopBit 9) { alone .active with host := { HostPort.initial with rx := .collecting [2] } }
      (fun u => (u.host.rx, u.host.framesDiscarded)) = some (.hunting, 1) := by decide +kernel
theorem test_reply_sent :
    after (.replySent 9) { alone .active with host := { HostPort.initial with
        inProgress := some ⟨⟨1, []⟩, [], false⟩, waiting := some ⟨1, []⟩ } }
      (fun u => (u.host.inProgress.map InProgress.command, u.host.waiting)) = some (some ⟨1, []⟩, none) := by decide +kernel
theorem test_host_byte_received :
    after (.hostByteReceived 9 0xC3) (alone .active) (fun u => (u.host.rx, u.host.gap)) =
    some (.collecting [], some 5020000) := by decide +kernel
theorem test_bus_idle :
    after (.busIdle ⟨9, List.replicate 10 true⟩) (alone .active) (fun u => (u.bus.idle, u.bus.recessive)) =
    some (true, 10) := by decide +kernel
/-- The idle flag and the recessive count after a command and then a BUS_IDLE that brings these bits. -/
def idleAfterwards (c : Instr) (bits : List Bool) (s : State) : Option (Bool × Nat) :=
  match exec c s with
  | .next u => after (.busIdle ⟨9, bits⟩) u (fun v => (v.bus.idle, v.bus.recessive))
  | .fault _ => none
  | .refused _ => none
/-- R100: a STATUS that every receiver takes is followed by eight recessive bits and one more; no bits at once, and eight
alone, leave the bus not idle; a dominant bit in the end field puts it off. -/
theorem test_idle_after_our_frame :
    let c := Instr.attemptOutcomeTaken 9 true false
    let s := sending .status 0 (alone .active)
    (after c s (fun u => (u.bus.recessive, u.bus.endLeft)), idleAfterwards c [] s,
      idleAfterwards c (List.replicate 8 true) s, idleAfterwards c (List.replicate 9 true) s,
      idleAfterwards c ([true, true, false] ++ List.replicate 10 true) s) =
    (some (1, 8), some (false, 1), some (false, 1), some (true, 10), some (true, 10)) := by decide +kernel
/-- R98, R100: our own ACCEPT and REFUSE are dominant bits of the trailer; the bus becomes idle one or two bits after the
end field. -/
theorem test_idle_after_a_peers_frame :
    let accepted := Instr.leaveFrame 9 (leaveOf 9) true
    let refused := Instr.frameDamaged 9 damagedBytes
    let s := listeningTo (alone .active)
    (after accepted s (fun u => u.bus.endLeft), idleAfterwards accepted (List.replicate 10 true) s,
      idleAfterwards accepted (List.replicate 11 true) s, idleAfterwards refused (List.replicate 11 true) s,
      idleAfterwards refused (List.replicate 12 true) s) =
    (some 10, some (false, 4), some (true, 10), some (false, 4), some (true, 10)) := by decide +kernel
theorem test_start_bit : after (.startBit 9) (onIdle (alone .active)) (fun u => (u.bus.idle, u.bus.assembly)) =
    some (false, .good .peer [] 1) := by decide +kernel
theorem test_attempt_start :
    after (.attemptStart 9) (onIdle { alone .active with sched := { Scheduler.initial with
        leave := some ⟨1, 0⟩, status := some ⟨0, 0⟩ } })
      (fun u => (u.sched.inFlight, u.sched.leave, u.bus.attempt.map Attempt.frame)) =
    some (some ⟨.leave, ⟨1, 0⟩⟩, none, some (.leave 5 0xFE43 1)) := by decide +kernel
theorem test_attempt_lost :
    after (.attemptLost 9 1) (sending .status 2 (alone .active)) (fun u => (u.sched.status, u.bus.lost, u.bus.assembly)) =
    some (some ⟨2, 0⟩, 1, .good .afterLost [false] 2) := by decide +kernel
theorem test_attempt_aborted :
    after (.attemptAborted 9 0) (sending .status 2 (alone .active)) (fun u => (u.sched.status, u.bus.aborted, u.link.damaged)) =
    some (some ⟨3, 0⟩, 1, 1) := by decide +kernel
theorem test_attempt_outcome_taken :
    after (.attemptOutcomeTaken 9 true true) (sending .status 2 (alone .active))
      (fun u => (u.sched.status, u.bus.partly, u.bus.framesSent)) = some (some ⟨3, 0⟩, 1, 1) := by decide +kernel
theorem test_request_dropped :
    after (.requestDropped 9 .partly) (sending .status 3 (alone .active)) (fun u => (u.sched.status, u.sched.requestsDropped)) =
    some (none, 1) := by decide +kernel
/-- Our LEAVE with its last check bit inverted, and the place of that bit. -/
def brokenLeave : List Byte := (Frame.leave 5 0xFE43 1).brokenBytes
def lastOfLeave : Nat := (Frame.leave 5 0xFE43 1).lastBit
theorem test_frame_before_its_outcome :
    after (.frameDamaged 9 brokenLeave) (sending .leave 0 (alone .leaving))
      (fun u => (u.bus.trailer, u.bus.damagedReceived, u.link.damaged, u.firstFrame, u.bus.attempt.isSome)) =
    some (.refuse, 1, 1, .broken, true) := by decide +kernel
theorem test_outcome_after_its_frame :
    after (.attemptAborted 9 lastOfLeave) (overtaken (sending .leave 0 (alone .leaving)))
      (fun u => (u.bus.trailer, u.bus.aborted, u.link.damaged, u.bus.assembly, u.sched.leave)) =
    some (.refuse, 1, 1, .empty, some ⟨1, 0⟩) := by decide +kernel
theorem test_status_without_sensing :
    let s := { alone .active with meter := { Meter.initial with estimate := some 7 } }
    (s.statusPart.estimate,
      ({ s with loader := { s.loader with heldCopy := some (img.set 10 2) } } : State).statusPart.estimate) =
    (some 7, none) := by decide +kernel
theorem test_umax_without_sensing :
    let s := { alone .active with meter := { Meter.initial with estimate := some 7 } }
    let t := { s with loader := { s.loader with heldCopy := some (img.set 10 2) } }
    (s.planNow.umax, t.planNow.umax, t.planNow.headroom) = (7, 0, s.planNow.headroom + 7) := by decide +kernel
theorem test_leave_dropped_by_abort :
    after (.requestDropped 9 (.aborted 30)) (sending .leave 3 (withNine .leaving))
      (fun u => (u.life.state, u.sched.requestsDropped, u.roster.entries)) = some (.dormant, 1, []) := by decide +kernel
theorem test_dormant_under_a_changed_number :
    after (.requestDropped 9 (.aborted 30))
      (let s := sending .leave 3 (alone .leaving); { s with loader := { s.loader with heldCopy := some (img.set 4 6) } })
      (fun u => (u.life.state, u.planner.digest)) = some (.dormant, crc16 [6, 1, 1]) := by decide +kernel
theorem test_isolation_limit :
    after (.isolationLimit 9 false)
      (sending .status 0 { alone .active with sched := { Scheduler.initial with isolationCount := 4 } })
      (fun u => (u.life.state, u.life.phase, u.life.fallbackAt, u.life.spentAt)) =
    some (.isolated, .hold, some 9500000, some 123000000) := by decide +kernel
/-- An isolated station in a phase, with its two deadlines. -/
def isolated (p : Phase) (fallbackAt spentAt : Time) : State :=
  { alone .isolated with life := { (alone .isolated).life with
      phase := p, fallbackAt := some fallbackAt, spentAt := some spentAt } }
theorem test_peer_frame_before_an_unheard_outcome :
    let s := sending .status 0 { isolated .hold 9500000 123000000 with sched := { Scheduler.initial with isolationCount := 4 } }
    (after (.announceFrame 5100000 (announceOf 9 0xFE43) false) s (fun u => (u.sched.isolationCount, u.firstFrame)),
      after (.announceFrame 5001000 (announceOf 9 0xFE43) false) s (fun u => (u.sched.isolationCount, u.firstFrame)),
      (match exec (.announceFrame 5100000 (announceOf 9 0xFE43) false) s with
        | .next u => after (.attemptOutcomeTaken 5100000 false false) u
            (fun v => (v.life.state, v.sched.isolationCount, v.bus.trailer))
        | _ => none)) =
    (some (0, .peer), some (4, .nothing), some (.joining, 1, .accept)) := by decide +kernel
theorem test_fallback_deadline :
    after .fallbackDeadline (isolated .hold 6000000 7000000) (fun u => (u.life.phase, u.grantCtl.grant, u.now)) =
    some (.fallback, 60, 6000000) := by decide +kernel
theorem test_spent_deadline :
    after .spentDeadline (isolated .fallback 6000000 7000000) (fun u => (u.life.phase, u.grantCtl.grant)) =
    some (.spent, 0) := by decide +kernel
theorem test_status_frame :
    after (.statusFrame 9 (statusOf 0) true) (listeningTo (alone .active))
      (fun u => (u.roster.entries.map Entry.station, u.grantCtl.settled, u.bus.trailer)) =
    some ([9], false, .accept) := by decide +kernel
theorem test_status_frame_hearsay :
    after (.statusFrame 9 (statusOf (BitVec.ofNat 64 (2 ^ 63))) true) (listeningTo (alone .active))
      (fun u => u.roster.entries.map (fun e => (e.station, e.cls))) = some [(0, .quiet), (9, .live)] := by decide +kernel
theorem test_announce_frame :
    after (.announceFrame 9 (announceOf 9 0x1111) true) (listeningTo (alone .active))
      (fun u => (u.roster.entries.map Entry.cls, u.sched.status)) = some ([.mismatch], some ⟨0, 0⟩) := by decide +kernel
theorem test_leave_frame :
    after (.leaveFrame 9 (leaveOf 9) true) (listeningTo (withNine .active))
      (fun u => (u.roster.entries, u.grantCtl.settled)) = some ([], true) := by decide +kernel
theorem test_shed_frame :
    after (.shedFrame 9 (shedOf 9 0xFE43) true) (listeningTo (withNine .active))
      (fun u => (u.grantCtl.deficit, u.grantCtl.shedHold)) = some (25, some 35000000) := by decide +kernel
theorem test_frame_cut_short :
    after (.frameCutShort ⟨9, true⟩) (listeningTo (alone .active)) (fun u => (u.bus.assembly, u.bus.damagedReceived)) =
    some (.abandoned, 1) := by decide +kernel
theorem test_frame_damaged :
    after (.frameDamaged 9 damagedBytes) (listeningTo (alone .active)) (fun u => (u.bus.trailer, u.link.damaged)) =
    some (.refuse, 1) := by decide +kernel
theorem test_window_close :
    after (.windowClose 9 (.received damagedBytes true)) (events 15 2 (listeningTo (alone .active)))
      (fun u => (u.link.degraded, u.link.events, u.link.damaged)) = some (true, 0, 0) := by decide +kernel
theorem test_cycle_timer_expiry :
    after .cycleTimerExpiry (withNine .active) (fun u => (u.life.cycle, u.roster.entries.map Entry.silence)) =
    some (some 6500000, [1]) := by decide +kernel
theorem test_entry_goes_quiet :
    after (.entryGoesQuiet 9) (working .active [entry 9 3])
      (fun u => u.roster.entries.map (fun e => (e.cls, e.draw, e.forget))) = some [(.quiet, none, some 124000000)] := by
  decide +kernel
/-- A station whose listen ends. -/
def listening : State := { alone .listening with life := { (alone .listening).life with listen := some 6000000 } }
theorem test_listen_timer_expiry :
    after .listenTimerExpiry listening (fun u => (u.life.state, u.sched.announce, u.life.listen)) =
    some (.active, some ⟨0, 0⟩, none) := by decide +kernel
theorem test_forget_timer_expiry :
    after (.forgetTimerExpiry 9) (working .active [heardOf 9]) (fun u => (u.roster.entries, u.roster.forgotten)) =
    some ([], [9]) := by decide +kernel
/-- A station whose raise hold runs. -/
def holding (s : State) : State := { s with grantCtl := { s.grantCtl with raiseHold := .running 6000000 } }
theorem test_raise_hold_expiry :
    after .raiseHoldExpiry (holding (alone .active)) (fun u => (u.grantCtl.grant, u.sched.status)) =
    some (100, some ⟨0, 0⟩) := by decide +kernel
/-- A station with a shed deficit that is held. -/
def shedding (d : Current) (s : State) : State :=
  { s with grantCtl := { s.grantCtl with deficit := d, shedHold := some 6000000 } }
theorem test_shed_hold_expiry :
    after .shedHoldExpiry (shedding 30 (alone .active)) (fun u => (u.grantCtl.deficit, u.grantCtl.shedHold, u.host.queue)) =
    some (0, none, [.shed 0 false]) := by decide +kernel
theorem test_status_spacing_timer_expiry :
    after .statusSpacingTimerExpiry { alone .active with sched := { Scheduler.initial with spacing := some 6000000 } }
      (fun u => u.sched.spacing) = some none := by decide +kernel
theorem test_fast_update :
    after (.fastUpdate (.good 70) (.good 80)) (alone .active)
      (fun u => (u.meter.load.fast, u.meter.feeder.fast, u.meter.update)) = some (some 70, some 80, some 5200000) := by
  decide +kernel
/-- A channel before its update: nine values of 70, and three slow figures behind it. -/
def nine : Channel :=
  { faulted := false, goodRun := 4, fast := some 70, fastSettled := true, history := List.replicate 9 70, slow := some 70,
    slowCount := 3 }
/-- A station at its tenth update of ten. -/
def tenth (s : State) : State := { s with meter := { s.meter with updates := 9, load := nine, feeder := nine } }
theorem test_slow_update :
    after (.slowUpdate (.good 60) (.good 90)) (tenth (alone .active))
      (fun u => (u.meter.load.slow, u.meter.load.slowCount, u.meter.estimate, u.meter.watch)) =
    some (some 69, 4, some 3, some 5100000) := by decide +kernel
/-- A station whose load channel is one good reading short of clearing. -/
def clearing (s : State) : State :=
  { s with meter := { s.meter with load := { nine with faulted := true, goodRun := 3, fast := none, fastSettled := false } } }
theorem test_channel_fault_clears :
    after (.channelFaultClears (.good 60) (.good 60)) (clearing (alone .active))
      (fun u => (u.meter.load.faulted, (u.host.queue.take 1))) = some (false, [.sense false false]) := by decide +kernel
/-- A station whose overload count is 1. -/
def overloading (s : State) : State := { s with meter := { s.meter with overload := 1 } }
theorem test_overload_begins :
    after (.overloadBegins (.good 60) (.good 950)) (overloading (alone .active))
      (fun u => (u.meter.overload, u.grantCtl.deficit, u.sched.shed)) = some (2, 50, some ⟨0, 50⟩) := by decide +kernel
/-- A station in OVER and in COOLING, with the timer of that state. -/
def overdrawn (s : State) : State := { s with enf := { EnforcementUnit.initial with state := .over, overdraw := .running 6000000 } }
def cooling (s : State) : State :=
  { s with cutOutput := true, enf := { EnforcementUnit.initial with state := .cooling, recovery := .running 6000000 } }
theorem test_overdraw_timer_expiry :
    after .overdrawTimerExpiry (overdrawn (alone .active)) (fun u => (u.enf.state, u.cutOutput, u.planner.claim.effectiveDemand)) =
    some (.cut, true, 0) := by decide +kernel
theorem test_recovery_timer_expiry :
    after .recoveryTimerExpiry (cooling (alone .active)) (fun u => (u.enf.state, u.cutOutput)) = some (.clear, false) := by
  decide +kernel

/-! ### The hypotheses of every statement are met, clause by clause, at the ends of their ranges -/

/-- A command in progress. -/
def busy : InProgress := ⟨⟨1, []⟩, [], false⟩
/-- A state with this Host Port. -/
def port (h : HostPort) (s : State) : State := { s with host := h }
/-- A station that has read bytes 0 and 1. -/
def body : State := { State.reset with loader := { State.reset.loader with readStep := .body 0x31 42 } }
/-- A station that waits for its image from the host. -/
def awaiting : State := { State.reset with loader := { State.reset.loader with stage := .awaitingHost, readStep := .idle } }

theorem witness_StepTakesTheFrontCommandAndIdlesOnNone : State.reset.pending = [] := by decide
theorem witness_RestartsBringEveryBlockToItsInitialValues :
    State.reset.restartInput = false ∧ { State.reset with restartInput := true }.restartInput = true := by decide
theorem witness_TimeAlonePassesWhereNoEventComesAbout :
    ({ State.reset with restartInput := true }.restartInput = true ∧ (∀ t, Instr.gapTimerExpiry ≠ .powerOn t) ∧
      ∀ t, Instr.gapTimerExpiry ≠ .restartInputRelease t) ∧
    (let s := State.reset
     s.restartInput = false ∧ s.life.cycle = none ∧ s.meter.update = none ∧ s.entryOf 0 = none ∧ s.bus.attempt = none ∧
      s.life.state.takesFrames = false ∧ s.host.inProgress = none) ∧
    (let s := overtaken (sending .leave 0 (alone .leaving))
     s.restartInput = false ∧ s.bus.attempt.map Attempt.first = some .broken ∧ 30 ≠ lastOfLeave ∧
      s.bus.attempt.map (fun a => a.frame.lastBit) = some lastOfLeave) := by
  refine ⟨⟨rfl, nofun, nofun⟩, by decide, by decide +kernel⟩
theorem witness_HeaderReadLeadsThreeWays :
    let s := State.reset
    s.restartInput = false ∧ s.life.state = .loading ∧ s.loader.stage = .reading ∧ s.loader.readStep = .header ∧
    ¬((0xFF#8) = 0xFF#8 ∧ (0xFE#8) = 0xFF#8) ∧ ¬((0x31#8) = 0x31#8 ∧ (43#8) = 42#8) := by decide
/-- The state of an image read while a reply is on the line. -/
def bodyWithReply : State := port { HostPort.initial with inProgress := some busy } body
theorem witness_ValidImageEndsTheLoadInListening :
    (LoadingLaw body ∧ LoadingLaw bodyWithReply ∧ LoadingLaw awaiting) ∧
    (body.restartInput = false ∧ body.life.state = .loading ∧ body.loader.stage = .reading ∧
      body.loader.readStep = .body 0x31 42 ∧ (img.drop 2).length = 40 ∧ judgeImage (0x31 :: 42 :: img.drop 2) = .none ∧
      body.host.inProgress = none) ∧
    (bodyWithReply.host.inProgress ≠ none ∧ bodyWithReply.restartInput = false ∧ bodyWithReply.life.state = .loading ∧
      bodyWithReply.loader.readStep = .body 0x31 42) ∧
    (PortFree awaiting ∧ awaiting.life.state = .loading ∧ awaiting.loader.stage = .awaitingHost ∧
      img.length = 42 ∧ judgeImage img = .none) := by
  refine ⟨⟨fun _ => ?_, fun _ => ?_, fun _ => ?_⟩, ?_⟩
  · exact ⟨rfl, rfl, rfl, rfl, rfl, rfl, rfl, rfl, rfl⟩
  · exact ⟨rfl, rfl, rfl, rfl, rfl, rfl, rfl, rfl, rfl⟩
  · exact ⟨rfl, rfl, rfl, rfl, rfl, rfl, rfl, rfl, rfl⟩
  · unfold PortFree; decide +kernel
theorem witness_InvalidImageLeadsToFault :
    judgeImage (0x31 :: 42 :: (img.set 41 0).drop 2) ≠ .none ∧ ((img.set 41 0).drop 2).length = 40 ∧
    body.loader.readStep = .body 0x31 42 ∧ body.life.state = .loading ∧ PortFree awaiting ∧
    awaiting.loader.stage = .awaitingHost ∧ judgeImage (img.set 1 41) ≠ .none ∧ (img.set 1 41).length = 42 := by
  unfold PortFree; decide +kernel
theorem witness_ImageIsJudgedAndItsNetworkDigested :
    (img.length = 42 ∧ ∀ i, 9 ≤ i → i ≤ 15 → (256 * (img.getD 2 0).toNat + (img.getD 3 0).toNat).testBit i = false) ∧
    (let p := paramsOf img
     let q := paramsOf ((img.set 2 8).set 33 0)
     [p.feederLimit, p.reserve, p.fallback, p.cycleUnits, p.silenceLimit, p.forgetTime, p.raiseHold, p.shedHold, p.bitRate] =
     [q.feederLimit, q.reserve, q.fallback, q.cycleUnits, q.silenceLimit, q.forgetTime, q.raiseHold, q.shedHold, q.bitRate]) := by
  refine ⟨⟨by decide, fun i _ _ => ?_⟩, by decide +kernel⟩
  exact Nat.zero_testBit i
theorem witness_ReverificationKeepsOrFails :
    let s := alone .active
    s.restartInput = false ∧ s.loader.reverify = some 8000000 ∧ s.loader.heldCopy = some img ∧ s.life.state ≠ .fault ∧
    checkWordOk img = true ∧ checkWordOk (img.set 0 7) = false ∧ checkWordOk (img.set 41 7) = false ∧
    (upset s).loader.heldCopy = some (img.set 4 7) ∧ checkWordOk (img.set 4 7) = false ∧ (upset s).life.state ≠ .fault ∧
    (upset s).loader.reverify = some 8000000 ∧ (upset s).restartInput = false := by decide +kernel
theorem witness_HostBytesAreAssembledOrDiscarded :
    State.reset.host.rx = .hunting ∧ (0xC2#8) ≠ 0xC3#8 ∧
    (port { HostPort.initial with rx := .collecting [] } State.reset).host.rx = .collecting [] ∧
    (64 < (65#8).toNat ∧ (0#8).toNat = 0 ∧ 1 ≤ (1#8).toNat ∧ (64#8).toNat ≤ 64) ∧
    ([] : List Byte).length < (1#8).toNat ∧ [1#8].length = (1#8).toNat ∧ sumOk (1 :: [1] ++ [0xFF]) = false ∧
    hostFrameBad [0] = true ∧ hostFrameBad [65] = true ∧ hostFrameBad [1, 1, 0xFF] = true ∧
    (port { HostPort.initial with rx := .collecting [2], gap := some 4 } State.reset).host.gap = some 4 := by decide +kernel
theorem witness_BytesOfAFrameAreTheCommand :
    State.reset.restartInput = false ∧ State.reset.host.rx = .hunting ∧ ([] : List Byte).length < 64 ∧
    (List.replicate 63 0#8).length < 64 := by decide
theorem witness_CommandBufferHoldsTwo :
    let s := port { HostPort.initial with inProgress := some busy } State.reset
    let u := port { HostPort.initial with inProgress := some busy, waiting := some ⟨1, []⟩ } State.reset
    s.restartInput = false ∧ s.host.inProgress ≠ none ∧ s.host.waiting = none ∧ u.host.inProgress ≠ none ∧
    u.host.waiting ≠ none ∧ (List.replicate 63 0#8).length < 64 := by decide
theorem witness_RestartAndReplySentEndACommand :
    let s (p : InProgress) (w : Option HostCommand) (due : Option LineRate) (rx : HostAssembly) : State :=
      { port { HostPort.initial with inProgress := some p, waiting := w, rx := rx } (alone .active) with
        loader := { (alone .active).loader with rateDue := due } }
    (s { busy with restarts := true } none none .hunting).host.inProgress = some { busy with restarts := true } ∧
    (s busy none none .hunting).loader.rateDue = none ∧
    (s busy none (some .r9600) (.collecting [])).loader.lineRate ≠ .r9600 ∧
    (s busy none (some .r9600) .hunting).host.rx = .hunting ∧
    (s busy none (some .r19200) (.collecting [])).loader.lineRate = .r19200 ∧
    (s busy (some ⟨Cmd.code .state, []⟩) none .hunting).host.waiting = some { code := Cmd.code .state, payload := [] } ∧
    (s busy (some ⟨Cmd.code .state, []⟩) (some .r9600) (.collecting [])).host.waiting =
      some { code := Cmd.code .state, payload := [] } ∧
    after (.replySent 9) (s busy (some ⟨Cmd.code .counts, []⟩) (some .r9600) (.collecting []))
      (fun u => ((replied u).getD 20 0, (replied u).getD 22 0, u.loader.lineRate, u.host.rx)) =
      some (0, 1, .r9600, .hunting) ∧
    (s busy (some ⟨Cmd.code .state, []⟩) none (.collecting [])).host.rx = .collecting [] ∧
    (PortFree (alone .active) ∧ (alone .active).gate .restart = none) := by
  unfold PortFree; decide +kernel
theorem witness_RefusedCommandsChangeOnlyTheReply :
    PortFree State.reset ∧ State.reset.gate .demand = some .busy ∧ State.reset.life.state = .loading ∧
    State.reset.loader.stage = .reading ∧ awaiting.loader.stage = .awaitingHost ∧ PortFree (alone .active) ∧
    (alone .active).gate .join = some .state ∧ (alone .active).gate .demand = none ∧
    ([] : List Byte).length ≠ Cmd.payloadSize .demand ∧ (0#8).toNat = 0 ∧ 11 < (12#8).toNat ∧ 11 < (255#8).toNat := by
  unfold PortFree; decide +kernel
theorem witness_StateAndCountsRepliesShowTheBlocks :
    PortFree State.reset ∧ PortFree (alone .active) ∧ (alone .active).gate .counts = none := by
  unfold PortFree; decide +kernel
theorem witness_PeerAndPlanRepliesReadRosterAndPlan :
    let s := working .active [entry 9 0, heardOf 63]
    PortFree s ∧ s.gate .peer = none ∧ s.gate .plan = none ∧ 63 < (64#8).toNat ∧ (0#8).toNat = (0 : Station).val ∧
    s.entryOf 0 = none ∧ s.entryOf 9 = some (entry 9 0) ∧ s.entryOf 63 = some (heardOf 63) ∧ (63#8).toNat = (63 : Station).val ∧
    24 < (25#8).toNat ∧ (24#8).toNat ≤ 24 ∧ (s.planner.plan.map (fun p => p.rows.length)) = some 2 ∧
    (rough .active []).planner.plan = none := by
  unfold PortFree; decide +kernel
theorem witness_NoteTakesTheOldestNotification :
    (PortFree (alone .active) ∧ (alone .active).gate .note = none ∧ (alone .active).host.queue = [] ∧
      QueueLaw (alone .active)) ∧
    (let s := port { HostPort.initial with queue := [.grant 1, .roster 2] } (alone .active)
     PortFree s ∧ s.gate .note = none ∧ s.host.queue = [.grant 1, .roster 2] ∧ QueueLaw s) := by
  unfold PortFree QueueLaw; decide +kernel
theorem witness_DemandSetsTheClaim :
    PortFree (alone .active) ∧ DemandTaken (alone .active) ∧ SettledLaw (alone .active) ∧
    (word16 0 59).toNat < 60 ∧ 320 < (word16 1 65).toNat ∧ (word16 0 60).toNat = 60 ∧ (word16 1 64).toNat = 320 ∧
    (word16 0 100).toNat = (alone .active).planner.claim.hostDemand ∧ (word16 0 0).toNat = 0 ∧
    (overdrawn (alone .active)).enf.state ≠ .cut ∧
    (let s := { alone .active with enf := { EnforcementUnit.initial with state := .cut },
                                   planner := { (alone .active).planner with claim := { claim with effectiveDemand := 0 } } }
     s.planner.claim.effectiveDemand = 0 ∧ PortFree s ∧ DemandTaken s) := by
  unfold PortFree DemandTaken SettledLaw; decide +kernel
theorem witness_ClearCutCoolsAndRecoveryClears :
    (let s := { alone .active with enf := { EnforcementUnit.initial with state := .cut } }
     PortFree s ∧ s.gate .clearCut = none ∧ s.enf.state = .cut) ∧
    (PortFree (alone .active) ∧ (alone .active).enf.state ≠ .cut) ∧
    (let s := cooling (alone .active)
     s.restartInput = false ∧ s.enf.recovery = .running 6000000 ∧ s.enf.state = .cooling ∧ s.meter.trim = none ∧
      s.life.state.plans = true ∧ s.planner.claim.hostDemand = s.planner.claim.effectiveDemand) ∧
    (let s := { cooling (alone .active) with planner :=
        { (alone .active).planner with claim := { claim with effectiveDemand := 0 } } }
     s.planner.claim.hostDemand ≠ s.planner.claim.effectiveDemand ∧ s.life.state.plans = true) := by
  unfold PortFree; decide +kernel
theorem witness_LeaveEntersLeavingAndJoinListening :
    PortFree (alone .active) ∧ (alone .active).life.state ∈ [StationState.listening, .joining, .active, .isolated] ∧
    (alone .isolated).life.state ∈ [StationState.listening, .joining, .active, .isolated] ∧
    PortFree (alone .dormant) ∧ (alone .dormant).life.state = .dormant ∧ (alone .dormant).grantCtl.grant = 0 := by
  unfold PortFree; decide +kernel
/-- A station that waits for the idle bus: bits of a frame still to come, the slots we drive, and the recessive count. -/
def awaitingIdle (left : Nat) (slots : Trailer) (count : Nat) (s : State) : State :=
  { s with bus := { s.bus with recessive := count, endLeft := left, trailer := slots } }
theorem witness_LineBecomesIdleAndAssembliesBegin :
    (∀ w ∈ [(0, Trailer.neither, 0), (0, .accept, 9), (8, .neither, 1), (8, .refuse, 3), (10, .neither, 2), (10, .accept, 2),
        (10, .refuse, 0)],
      let s := awaitingIdle w.1 w.2.1 w.2.2 (alone .active)
      s.restartInput = false ∧ s.life.state.takesFrames = true ∧ s.bus.attempt = none ∧ s.bus.assembly.isGood = false ∧
      s.bus.idle = false) ∧
    (let s := awaitingIdle 0 .neither 0 (alone .active)
     s.bus.endLeft = 0 ∧ s.bus.recessive + 0 < 10 ∧ s.bus.recessive + 9 < 10 ∧ s.bus.endLeft ≤ 8) ∧
    (let s := awaitingIdle 8 .refuse 3 (alone .active)
     s.bus.endLeft ≤ 8 ∧ [true, false].length < s.bus.endLeft ∧ 7 < max (max 1 s.bus.endLeft) (10 - s.bus.recessive)) ∧
    (let s := awaitingIdle 10 .accept 2 (alone .active)
     s.bus.endLeft = 10 ∧ s.bus.trailer = .accept ∧ ¬(s.bus.trailer = .neither ∨ s.bus.endLeft ≤ 8)) ∧
    (let s := awaitingIdle 10 .refuse 0 (alone .active)
     s.bus.endLeft = 10 ∧ s.bus.trailer = .refuse) ∧
    (let s := onIdle (alone .active)
     s.restartInput = false ∧ s.life.state.takesFrames = true ∧ s.bus.attempt = none ∧ s.bus.idle = true) := by
  decide +kernel
/-- An idle bus and these slots. -/
def offering (sh le an st : Option Request) (spacing : Timer) : State :=
  { onIdle (alone .active) with sched := { Scheduler.initial with
      shed := sh, leave := le, announce := an, status := st, spacing := spacing } }
theorem witness_AttemptStartsWithItsContentFixed :
    let q : Option Request := some ⟨0, 0⟩
    ((offering q q q q none).bus.idle = true ∧ (offering q q q q none).bus.attempt = none ∧
      (offering q q q q none).sched.inFlight = none ∧ (offering q q q q none).restartInput = false ∧
      (offering q q q q none).life.state ∈ [StationState.joining, .active, .isolated, .leaving]) ∧
    ((offering none q q q none).sched.leave = q ∧ (offering none none q q none).sched.announce = q ∧
      (offering none none none q none).sched.status = q ∧ (offering none none none q none).sched.spacing = none) ∧
    (offering none none none q (some 5)).sched.spacing ≠ none ∧
    ((alone .active).loader.networkDigest = some 0xFE43 ∧ (alone .active).life.state = .active ∧
      (alone .joining).loader.networkDigest = some 0xFE43 ∧ (alone .joining).life.state = .joining ∧
      (isolated .hold 6000000 7000000).loader.networkDigest = some 0xFE43 ∧
      (isolated .hold 6000000 7000000).life.state = .isolated) ∧
    ((alone .leaving).loader.networkDigest = some 0xFE43 ∧ (alone .leaving).life.state = .leaving) := by decide +kernel
theorem witness_LostAttemptReturnsItsRequest :
    let s := sending .status 0 (alone .active)
    s.restartInput = false ∧ s.bus.attempt = some ⟨s.frameFor .status ⟨0, 0⟩, 5000000, .nothing⟩ ∧
    s.sched.inFlight = some ⟨.status, ⟨0, 0⟩⟩ ∧ losesAt (s.frameFor .status ⟨0, 0⟩) 1 = true ∧
    losesAt (s.frameFor .status ⟨0, 0⟩) 8 = true ∧ s.life.state.takesFrames = true ∧ s.firstFrame = .nothing := by decide +kernel
theorem witness_FailedAttemptsAreRetriedThenDropped :
    (let s := sending .status 2 (events 14 0 (alone .active))
     OpenWindow s ∧ s.sched.inFlight = some ⟨.status, ⟨2, 0⟩⟩ ∧ abortsAt (s.frameFor .status ⟨2, 0⟩) 0 = true ∧
      s.life.state.takesFrames = true ∧ 2 < 3) ∧
    (let s := sending .status 3 (events 14 0 (alone .joining))
     OpenWindow s ∧ s.sched.inFlight = some ⟨.status, ⟨3, 0⟩⟩ ∧ (s.life.state = .joining ∨ s.life.state = .active) ∧
      abortsAt (s.frameFor .status ⟨3, 0⟩) 30 = true) ∧
    (let s := overtaken (sending .leave 2 (events 14 0 (alone .leaving)))
     OpenWindow s ∧ s.sched.inFlight = some ⟨.leave, ⟨2, 0⟩⟩ ∧ s.bus.attempt.map Attempt.first = some .broken ∧
      abortsAt (s.frameFor .leave ⟨2, 0⟩) lastOfLeave = true ∧ (s.frameFor .leave ⟨2, 0⟩).lastBit = lastOfLeave) ∧
    (let s := sending .shed 3 (events 14 0 (alone .leaving))
     OpenWindow s ∧ s.sched.inFlight = some ⟨.shed, ⟨3, 0⟩⟩ ∧ s.life.state.participates = false ∧
      ¬(s.life.state = .leaving ∧ Kind.shed = .leave) ∧ abortsAt (s.frameFor .shed ⟨3, 0⟩) 30 = true) ∧
    (let s := sending .status 3 (isolated .hold 6000000 7000000)
     OpenWindow s ∧ s.sched.inFlight = some ⟨.status, ⟨3, 0⟩⟩ ∧ s.life.state = .isolated ∧ s.firstFrame = .nothing) := by
  unfold OpenWindow; decide +kernel
theorem witness_OutcomesAreTakenByTable5_5 :
    let s := sending .status 2 (events 14 0 { alone .active with sched := { Scheduler.initial with isolationCount := 3 } })
    OpenWindow s ∧ s.bus.attempt.isSome = true ∧ s.sched.inFlight = some ⟨.status, ⟨2, 0⟩⟩ ∧
    (s.life.state = .joining ∨ s.life.state = .active) ∧ s.sched.isolationCount < 4 := by
  unfold OpenWindow; decide +kernel
theorem witness_IsolationIsEnteredAndEnded :
    (let s := sending .status 0 { alone .joining with sched := { Scheduler.initial with isolationCount := 4 } }
     OpenWindow s ∧ s.bus.attempt.isSome = true ∧ s.sched.inFlight = some ⟨.status, ⟨0, 0⟩⟩ ∧
      (s.life.state = .joining ∨ s.life.state = .active) ∧ s.sched.isolationCount = 4 ∧ s.life.tClean = some 4000000 ∧
      s.life.tAny = some 4500000) ∧
    (let s := sending .status 0 (isolated .hold 6000000 7000000)
     OpenWindow s ∧ s.sched.inFlight = some ⟨.status, ⟨0, 0⟩⟩ ∧ s.life.state = .isolated) ∧
    (let s := listeningTo (isolated .hold 6000000 7000000)
     OpenWindow s ∧ s.canTake (leaveOf 9) = true ∧ judgeFrame (leaveOf 9) = some (.inl (.leave 9 0xFE43 7)) ∧
      (9 : Station) ≠ s.ownStation ∧ s.life.state = .isolated) ∧
    (let s := sending .status 0 (alone .active)
     s.restartInput = false ∧ s.bus.assembly = .empty ∧ s.bus.attempt = some ⟨s.frameFor .status ⟨0, 0⟩, 5000000, .nothing⟩ ∧
      s.sched.inFlight = some ⟨.status, ⟨0, 0⟩⟩ ∧ s.life.state.participates = true ∧
      judgeFrame (leaveOf 9) = some (.inl (.leave 9 0xFE43 7)) ∧ (9 : Station) ≠ s.ownStation ∧
      (s.frameFor .status ⟨0, 0⟩).lastBit + 3 ≤ (5100000 - 5000000) / bitTime s.params) := by
  unfold OpenWindow; decide +kernel
theorem witness_LeaveOutcomeEntersDormant :
    let s := sending .leave 3 (withNine .leaving)
    OpenWindow s ∧ s.bus.attempt.isSome = true ∧ s.sched.inFlight = some ⟨.leave, ⟨3, 0⟩⟩ ∧ s.life.state = .leaving ∧
    s.grantCtl.grant = 0 ∧ s.roster.entries ≠ [] ∧ s.firstFrame = .nothing ∧
    abortsAt (s.frameFor .leave ⟨3, 0⟩) 30 = true ∧ abortsAt (s.frameFor .leave ⟨3, 0⟩) lastOfLeave = true ∧
    (overtaken s).bus.attempt.map (fun a => a.frame.lastBit) = some lastOfLeave := by
  unfold OpenWindow; decide +kernel
theorem witness_CutShortAndDamagedFramesGoNoFurther :
    (let s := listeningTo (events 14 0 (alone .active))
     OpenWindow s ∧ s.life.state.takesFrames = true ∧ s.bus.assembly = .good .peer [] 1 ∧
      AssemblyOrigin.peer ≠ .afterAborted ∧ s.canTake damagedBytes = true ∧
      judgeFrame damagedBytes = some (.inr .checkFailure)) ∧
    (let s := sending .leave 2 (events 13 0 (alone .leaving))
     s.restartInput = false ∧ s.link.events + 2 < s.params.window ∧ s.life.state.takesFrames = true ∧
      s.bus.assembly = .empty ∧ s.bus.attempt = some ⟨.leave 5 0xFE43 1, 5000000, .nothing⟩ ∧
      s.sched.inFlight = some ⟨.leave, ⟨2, 0⟩⟩ ∧ abortsAt (.leave 5 0xFE43 1) lastOfLeave = true ∧
      judgeFrame brokenLeave = some (.inr .checkFailure) ∧
      (assemblyAfter .afterAborted (.leave 5 0xFE43 1) lastOfLeave).goesOnTo brokenLeave = true) := by
  unfold OpenWindow; decide +kernel
/-- A STATUS of station 9 on another network, with station 63 in its quiet set. -/
def otherNetwork : List Byte :=
  (Frame.status 9 0xFE44 peerClaim { rosterDigest := 0x1234, grant := 0, quiet := 1, draw := some 30, estimate := none }).bytes
theorem witness_StatusFrameUpdatesItsSender :
    (let s := listeningTo (working .joining (full.take 23))
     OpenWindow s ∧ s.canTake (statusOf 0) = true ∧
      judgeFrame (statusOf 0) = some (.inl (.status 9 0xFE43 peerClaim ⟨0x1234, 0, 0, some 30, none⟩)) ∧
      (9 : Station) ≠ s.ownStation ∧ s.life.state ≠ .isolated ∧ s.roster.entries.length < 24 ∧
      s.loader.networkDigest = some 0xFE43) ∧
    ((listeningTo (withNine .active)).entryOf 9 ≠ none ∧ (listeningTo (withNine .active)).entryOf 8 = none ∧
      (listeningTo (withNine .active)).loader.networkDigest ≠ some 0xFE44 ∧
      judgeFrame otherNetwork = some (.inl (.status 9 0xFE44 peerClaim ⟨0x1234, 0, 1, some 30, none⟩)) ∧
      (listeningTo (withNine .active)).canTake otherNetwork = true ∧ (BitVec.ofNat 64 1).getMsbD 63 = true) := by
  unfold OpenWindow; decide +kernel
/-- A station on which 9 is LIVE and confirmed, the raise hold expired, as an assembly has begun. -/
def agreeing : State :=
  let s := working .active [{ entry 9 0 with confirmed := true }, entry 10 0]
  listeningTo { s with grantCtl := { s.grantCtl with raiseHold := .expired } }
set_option synthInstance.maxSize 400 in
/-- What an event does to the confirmations of 9 and 10 and to the raise hold, and whether it changes what counts. -/
def changeSeen (c : Instr) (s : State) : Option (Bool × List Bool × HoldTimer) :=
  after c s (fun u => (decide (u.roster.entries.map countedParts ≠ s.roster.entries.map countedParts),
    (u.roster.entries.filter (fun e => decide (e.station ≠ 11))).map Entry.confirmed, u.grantCtl.raiseHold))
set_option synthInstance.maxSize 400 in
/-- Both cases of the digest change: station 10 says again what its entry holds, or leaves, falls silent or comes new. -/
theorem witness_DigestChangeTaken :
    changeSeen (.statusFrame 9 ((Frame.status 10 0xFE43 peerClaim ⟨0x1234, 0, 0, some 30, none⟩).bytes) true) agreeing =
      some (false, [true, false], .expired) ∧
    changeSeen (.statusFrame 9 ((Frame.status 10 0xFE43 { peerClaim with serial := 8 } ⟨0x1234, 0, 0, none, none⟩).bytes) true)
      agreeing = some (true, [false, false], .running 10000000) ∧
    changeSeen (.announceFrame 9 (announceOf 11 0xFE43) true) agreeing = some (true, [false, false], .running 10000000) ∧
    changeSeen (.leaveFrame 9 (leaveOf 10) true) agreeing = some (true, [false], .running 10000000) ∧
    changeSeen (.leaveFrame 9 (leaveOf 12) true) agreeing = some (false, [true, false], .expired) ∧
    changeSeen .cycleTimerExpiry agreeing = some (false, [true, false], .expired) ∧
    changeSeen .cycleTimerExpiry { agreeing with roster := { agreeing.roster with entries :=
      [{ entry 9 0 with confirmed := true }, entry 10 3] } } = some (true, [false, false], .running 10500000) := by
  decide +kernel
theorem witness_AnnounceFrameUpdatesItsSender :
    let s := listeningTo (working .joining (full.take 23))
    OpenWindow s ∧ s.canTake (announceOf 9 0xFE43) = true ∧
    judgeFrame (announceOf 9 0xFE43) = some (.inl (.announce 9 0xFE43 peerClaim)) ∧ (9 : Station) ≠ s.ownStation ∧
    s.life.state ≠ .isolated ∧ s.roster.entries.length < 24 := by
  unfold OpenWindow; decide +kernel
theorem witness_FullRosterRefusesAdmission :
    let s := listeningTo (working .active full)
    OpenWindow s ∧ s.canTake (announceOf 9 0xFE43) = true ∧
    judgeFrame (announceOf 9 0xFE43) = some (.inl (.announce 9 0xFE43 peerClaim)) ∧
    (Frame.announce 9 0xFE43 peerClaim).kind = .announce ∧ (9 : Station) ≠ s.ownStation ∧ s.life.state ≠ .isolated ∧
    s.entryOf 9 = none ∧ 24 ≤ s.roster.entries.length := by
  unfold OpenWindow; decide +kernel
theorem witness_QuietSetIsTakenByHearsay :
    (working .active full).roster.entries.length ≤ 24 ∧ (withNine .active).roster.entries.length ≤ 24 ∧
    (withNine .active).entryOf 9 ≠ none ∧ (BitVec.ofNat 64 (2 ^ 63)).getMsbD 0 = true ∧
    (BitVec.ofNat 64 1).getMsbD 63 = true ∧ (withNine .active).entryOf 63 = none ∧
    (let u := takeQuietSet 3 (working .active (full.take 23))
     u.roster.entries.length = 24 ∧ u.roster.overflow = true ∧ (u.entryOf 62).isSome ∧ u.entryOf 63 = none) ∧
    (let u := takeQuietSet 1 (working .active (full.take 23))
     u.roster.entries.length = 24 ∧ u.roster.overflow = false) := by decide +kernel
theorem witness_LeaveFrameRemovesItsSender :
    let s := listeningTo (withNine .active)
    OpenWindow s ∧ s.canTake (leaveOf 9) = true ∧ judgeFrame (leaveOf 9) = some (.inl (.leave 9 0xFE43 7)) ∧
    (9 : Station) ≠ s.ownStation ∧ s.life.state ≠ .isolated ∧ s.entryOf 9 ≠ none ∧ (alone .active).entryOf 9 = none := by
  unfold OpenWindow; decide +kernel
theorem witness_ShedFrameRaisesTheDeficit :
    let s := listeningTo (working .active [entry 9 0, heardOf 10])
    OpenWindow s ∧ s.canTake (shedOf 9 0xFE43) = true ∧
    judgeFrame (shedOf 9 0xFE43) = some (.inl (.shed 9 0xFE43 25)) ∧ (9 : Station) ≠ s.ownStation ∧
    s.life.state ≠ .isolated ∧ s.loader.networkDigest = some 0xFE43 ∧ s.loader.networkDigest ≠ some 0x1111 ∧
    s.entryOf 9 = some (entry 9 0) ∧ s.entryOf 10 = some (heardOf 10) := by
  unfold OpenWindow; decide +kernel
theorem witness_OwnNumberEntersDuplicate :
    let s := listeningTo (alone .active)
    OpenWindow s ∧ s.canTake (leaveOf 5) = true ∧ judgeFrame (leaveOf 5) = some (.inl (.leave 5 0xFE43 7)) ∧
    (5 : Station) = s.ownStation := by
  unfold OpenWindow; decide +kernel
theorem witness_WindowClosesAtW :
    (events 14 2 (alone .active)).link.events + 1 < (alone .active).params.window ∧
    (events 15 2 (alone .active)).link.events + 1 = (alone .active).params.window ∧
    (events 15 2 (alone .active)).link.degraded = decide ((alone .active).params.threshold < 2) := by decide +kernel
/-- A DEGRADED station whose window closes at the next frame event, within its threshold. -/
def degradedAtTheWindow (s : State) : State :=
  listeningTo { s with
    link := { s.link with events := 15, damaged := 0, degraded := true }
    grantCtl := { s.grantCtl with raiseHold := .expired } }
theorem witness_WindowCloseJudgesTheLink :
    (let s := events 15 2 (listeningTo (alone .active))
     s.restartInput = false ∧ s.params.window ≤ s.link.events + 1 ∧ s.frameEventOccurs (.received (leaveOf 9) true) = true ∧
      s.frameEventOccurs (.received damagedBytes true) = true ∧ s.frameEventOccurs (.cutShort true) = true ∧
      s.link.degraded = false ∧ judgeFrame damagedBytes = some (.inr .checkFailure)) ∧
    (let s := events 15 2 (sending .status 0 (alone .active))
     s.params.window ≤ s.link.events + 1 ∧ s.frameEventOccurs (.outcome true true) = true ∧
      s.frameEventOccurs (.aborted 0) = true) ∧
    (let s := events 15 2 (sending .leave 0 (alone .leaving))
     s.params.window ≤ s.link.events + 1 ∧ s.frameEventOccurs (.received brokenLeave true) = true) ∧
    (let s := degradedAtTheWindow (alone .active)
     s.restartInput = false ∧ s.params.window ≤ s.link.events + 1 ∧ s.frameEventOccurs (.cutShort true) = true ∧
      s.link.degraded = true ∧ s.grantCtl.grant < s.ownShare ∧
      after (.windowClose 9 (.cutShort true)) s
        (fun u => (u.link.degraded, u.permission, u.grantCtl.grant, decide (.link false ∈ u.host.queue))) =
        some (false, true, 100, true)) := by decide +kernel
theorem witness_CycleExpiryCountsSilence :
    (let s := working .active [entry 9 2, entry 10 3, heardOf 11]
     s.restartInput = false ∧ s.life.cycle = some 5500000 ∧ s.life.state.takesFrames = true ∧ s.fallsQuiet 10 = true ∧
      s.entryOf 10 = some (entry 10 3) ∧ s.params.silenceLimit ≤ 3 + 1 ∧ s.entryOf 9 = some (entry 9 2) ∧
      2 + 1 < s.params.silenceLimit ∧ s.entryOf 11 = some (heardOf 11) ∧ s.entryOf 12 = none) ∧
    (alone .dormant).life.state.takesFrames = false := by decide +kernel
theorem witness_ListenExpiryEntersJoining :
    listening.restartInput = false ∧ listening.life.listen = some 6000000 ∧ listening.life.state = .listening ∧
    listening.grantCtl.grant = 0 := by decide +kernel
theorem witness_ForgetExpiryRemovesTheEntry :
    let s := working .active [entry 8 0, heardOf 9]
    s.restartInput = false ∧ s.life.state.takesFrames = true ∧ s.entryOf 9 = some (heardOf 9) ∧
    (heardOf 9).forget = some 9000000 ∧ s.entryOf 8 = some (entry 8 0) ∧ s.roster.forgotten.Nodup := by decide +kernel
theorem witness_RaiseHoldAndSpacingExpiry :
    (let s := holding (alone .active)
     s.restartInput = false ∧ s.grantCtl.raiseHold = .running 6000000 ∧ s.life.state = .active ∧ s.grantCtl.settled = true ∧
      s.link.degraded = false ∧ s.grantCtl.grant < s.ownShare) ∧
    (holding (alone .joining)).life.state ≠ .active ∧
    { alone .active with sched := { Scheduler.initial with spacing := some 6000000 } }.sched.spacing = some 6000000 := by
  decide +kernel
theorem witness_ShedHoldExpiryReturnsTheHeadroom :
    (shedding 0 (alone .active)).grantCtl.deficit = 0 ∧ (shedding 0 (alone .active)).grantCtl.shedHold = some 6000000 ∧
    (shedding 1 (alone .active)).grantCtl.deficit ≠ 0 ∧ (shedding 1 (alone .active)).life.state.plans = true ∧
    (shedding 1 State.reset).life.state.plans = false ∧ (shedding 1 (alone .active)).restartInput = false := by decide +kernel
theorem witness_IsolationDeadlinesSetThePhase :
    (let s := isolated .hold 6000000 6000000
     s.restartInput = false ∧ s.life.state = .isolated ∧ s.life.phase = .hold ∧ s.life.fallbackAt = some 6000000 ∧
      s.life.spentAt = some 6000000) ∧
    (isolated .hold 6000000 6000001).life.spentAt = some 6000001 ∧
    (isolated .fallback 6000000 7000000).life.phase = .fallback ∧
    ((isolated .spent 6000000 7000000).life.phase = .spent ∧
      (isolated .spent 6000000 7000000).life.fallbackAt = some 6000000) := by decide +kernel
/-- A station whose feeder channel is one good reading short of clearing. -/
def feederClearing (s : State) : State :=
  { s with meter := { s.meter with feeder := { nine with faulted := true, goodRun := 3, fast := none, fastSettled := false } } }
theorem witness_FastUpdateChangesTheChannels :
    ((alone .active).restartInput = false ∧ (alone .active).meter.update = some 5100000 ∧ (alone .active).meter.updates ≠ 9) ∧
    (let s := clearing (alone .active)
     s.meter.update = some 5100000 ∧ s.meter.load.faulted = true ∧ s.meter.load.goodRun = 3) ∧
    (let s := feederClearing (alone .active)
     s.restartInput = false ∧ s.meter.update = some 5100000 ∧ s.params.feederSensing = true ∧
      s.meter.feeder.faulted = true ∧ s.meter.feeder.goodRun = 3) ∧
    (∀ v, Reading.openInput ≠ .good v) ∧ (∀ v, Reading.saturated ≠ .good v) ∧
    after (.fastUpdate .openInput .saturated) (alone .active)
      (fun u => (u.meter.load.faulted, u.meter.feeder.faulted, u.host.queue.take 1)) =
      some (true, true, [.sense true true]) := by
  refine ⟨by decide +kernel, by decide +kernel, by decide +kernel, nofun, nofun, by decide +kernel⟩
theorem witness_OverloadIsCountedAndItsExcessApplied :
    let s := overloading (alone .active)
    s.restartInput = false ∧ s.meter.update = some 5100000 ∧ s.params.feederSensing = true ∧
    s.overloadFigure (.good 901) = some 901 ∧ s.params.feederLimit < 901 ∧ s.meter.overload = 1 ∧
    s.grantCtl.deficit < 901 - s.params.feederLimit ∧
    901 - s.params.feederLimit ≤ (shedding 1 s).grantCtl.deficit ∧ s.overloadFigure .saturated = some 2000 ∧
    after (.fastUpdate (.good 60) (.good 930)) (shedding 10 { s with meter := { s.meter with overload := 2 } })
      (fun u => (u.meter.overload, u.grantCtl.deficit)) = some (2, 30) := by
  decide +kernel
/-- That station with another byte of options: 1 for feeder sensing, 2 for trimming. -/
def withOptions (b : Byte) (s : State) : State := { s with loader := { s.loader with heldCopy := some (img.set 10 b) } }
theorem witness_SlowUpdateFormsTheFigures :
    let s := tenth (alone .active)
    s.restartInput = false ∧ s.meter.update = some 5100000 ∧ s.meter.updates = 9 ∧ s.params.feederSensing = true ∧
    (withOptions 2 s).params.feederSensing = false ∧ (withOptions 2 s).restartInput = false ∧
    (withOptions 2 s).meter.update = some 5100000 ∧ (withOptions 2 s).meter.updates = 9 ∧
    after (.slowUpdate (.good 60) (.good 90)) s
      (fun u => (u.meter.load.history.length, u.meter.feeder.history.length, u.meter.feeder.slow, u.meter.feeder.slowCount)) =
      some (10, 10, some 72, 4) ∧
    after (.slowUpdate .openInput .openInput) s
      (fun u => (u.meter.load.history.length, u.meter.feeder.history.length)) = some (0, 0) := by decide +kernel
/-- A tenth update with a trim or a watch, our host demand 300. -/
def trimming (x : Option Current) (b : Option Time) : State :=
  let s := tenth (alone .active)
  { s with
    planner := { s.planner with claim := { claim with hostDemand := 300 } }
    meter := { s.meter with trim := x, watch := b } }
theorem witness_TrimFollowsTheSlowFigure :
    (let s := trimming none none
     s.restartInput = false ∧ s.meter.update = some 5100000 ∧ s.meter.updates = 9 ∧ s.params.trimEnable = true ∧
      s.meter.load.faulted = false ∧ s.enf.state = .clear ∧ 69 + s.params.trimMargin < s.planner.claim.hostDemand) ∧
    after (.slowUpdate (.good 60) (.good 90)) (trimming none none) (fun u => (u.meter.load.slowCount, u.meter.load.slow)) =
      some (4, some 69) ∧
    5100000 < 5000000 + (alone .active).params.trimTime * Config.sec ∧ 0 < (alone .active).params.trimTime ∧
    2 * 69 + (alone .active).params.trimMargin < 2 * 80 ∧ 2 * 79 ≤ 2 * 69 + (alone .active).params.trimMargin ∧
    after (.slowUpdate (.good 60) (.good 90)) (trimming (some 79) none) (fun u => (u.meter.trim, u.meter.watch)) =
      some (none, some 5100000) ∧
    after (.slowUpdate (.good 60) (.good 90)) (trimming (some 80) none) (fun u => (u.meter.trim, u.meter.watch)) =
      some (some 80, none) ∧
    after (.slowUpdate .openInput (.good 90)) (trimming none (some 5000000)) (fun u => (u.meter.load.slowCount, u.meter.watch)) =
      some (0, none) ∧
    (let s := withOptions 1 (alone .active)
     s.restartInput = false ∧ s.meter.update = some 5100000 ∧ s.params.trimEnable = false ∧ s.meter.trim = none ∧
      s.meter.watch = none) ∧
    (let s := withOptions 1 (trimming (some 79) none)
     s.restartInput = false ∧ s.meter.update = some 5100000 ∧ s.meter.updates = 9 ∧ s.params.trimEnable = false ∧
      s.meter.load.faulted = false) := by
  decide +kernel
/-- A trim whose enable a fault of the storage has cleared ends at the slow update of R133, and the host demand is claimed
again; below that figure it stands, and a watch stays as it was. -/
theorem test_trim_ends_with_the_enable_cleared :
    (after (.slowUpdate (.good 60) (.good 90)) (withOptions 1 (trimming (some 79) none))
        (fun u => (u.meter.trim, u.meter.watch, u.planner.claim.effectiveDemand)),
      after (.slowUpdate (.good 60) (.good 90)) (withOptions 1 (trimming (some 80) none))
        (fun u => (u.meter.trim, u.meter.watch)),
      after (.slowUpdate (.good 60) (.good 90)) (withOptions 1 (trimming none (some 5000000)))
        (fun u => (u.meter.trim, u.meter.watch))) =
    (some (none, none, 300), some (some 80, none), some (none, some 5000000)) := by decide +kernel
theorem witness_TrimWatchRunsOut :
    let s := { trimming none (some 5000000) with
      meter := { (trimming none (some 5000000)).meter with update := some 35000000 } }
    s.meter.watch = some 5000000 ∧ 5000000 + s.params.trimTime * Config.sec ≤ 35000000 := by decide +kernel
/-- A station whose load figure is settled, one update on. -/
def drawing (s : State) : State := { s with meter := { s.meter with load := nine } }
theorem witness_LoadIsJudgedAgainstTheStandingGrant :
    (drawing (alone .active)).restartInput = false ∧ (drawing (alone .active)).meter.update = some 5100000 ∧
    after (.fastUpdate (.good 11) (.good 0)) (drawing (alone .active))
      (fun u => (u.meter.load.fast, u.meter.load.fastSettled, u.grantCtl.grant + u.params.tolerance, u.enf.state)) =
      some (some 11, true, 10, .over) ∧
    after (.fastUpdate (.good 10) (.good 0)) (drawing (overdrawn (alone .active)))
      (fun u => (u.meter.load.fast, u.enf.state)) = some (some 10, .clear) ∧
    after (.fastUpdate .openInput (.good 0)) (drawing (cooling (alone .active)))
      (fun u => (u.meter.load.fast, u.enf.recovery)) = some (none, .held 900000) := by decide +kernel
theorem witness_OverdrawExpiryCuts :
    let s := overdrawn (alone .active)
    s.restartInput = false ∧ s.enf.overdraw = .running 6000000 ∧ s.enf.state = .over ∧
    s.planner.claim.effectiveDemand ≠ 0 ∧ s.life.state.plans = true ∧ s.life.state = .active ∧ RosterLaw s := by
  refine ⟨rfl, rfl, rfl, by decide, rfl, rfl, by decide, List.Pairwise.nil, ?_⟩
  intro e he; exact absurd he (by simp [overdrawn, alone, working, rough, RosterUnit.initial])
/-- The pool is the headroom less F for a QUIET entry, of either origin, and the reported max of a MISMATCH one. -/
theorem witness_pool :
    let s := working .active [heardOf 8, { entry 9 0 with cls := .mismatch }, { entry 10 0 with cls := .quiet }, entry 11 0]
    s.params.fallback = 60 ∧ s.planNow.pool + (60 + 320 + 60) = s.planNow.headroom ∧ 0 < s.planNow.pool := by
  decide +kernel
theorem witness_DivisionKeepsItsLaws :
    (∀ c ∈ [((2 : Station), (3 : Fin 4), (100 : Current), (320 : Current)), (14, 0, 60, 0)], c.2.2.2 = 0 ∨ c.2.2.1 ≤ c.2.2.2) ∧
    ReportLaw (alone .active) ∧ (alone .active).planner.claim.min ≤ (alone .active).planner.claim.effectiveDemand := by
  refine ⟨by decide, ?_, by decide +kernel⟩
  intro e he; exact absurd he (by simp [alone, working, rough, RosterUnit.initial])
theorem witness_umax :
    (let s := { alone .active with meter := { Meter.initial with estimate := some 7 } }
     s.params.feederSensing = true ∧ s.meter.estimate = some 7 ∧ s.planNow.umax = 7) ∧
    (let e := { entry 9 0 with estimate := some 20 }
     let s := working .active [e]
     e ∈ s.roster.entries ∧ e.cls = .live ∧ e.estimate = some 20 ∧ s.planNow.umax = 20) := by
  refine ⟨?_, ?_⟩ <;> decide +kernel
theorem witness_PlanRowsStandInOrderWithTheirOutcomes :
    RosterLaw (withNine .active) ∧ 0 < (divide 3140 secondRows).2 ∧
    (((divide 607 secondRows).1.drop 3).head?.map (fun r => (decide (r.demand ≠ 0), r.outcome)) = some (true, .parked) ∧
      ((divide 607 secondRows).1.drop 6).head?.map Row.outcome = some .partly ∧
      ((divide 607 secondRows).1.drop 1).head?.map Row.outcome = some .partly) := by
  refine ⟨?_, by decide +kernel, by decide +kernel⟩
  refine ⟨by decide, by decide, ?_⟩
  intro e he
  have : e = entry 9 0 := by simpa [withNine, working, rough, RosterUnit.initial] using he
  subst this; exact ⟨by decide, trivial⟩
theorem witness_NotificationsEnterByTheirKind :
    QueueLaw (alone .active) ∧
    (let s := port { HostPort.initial with queue := [.grant 1, .duplicate, .fault .check, .link true, .cut .over false,
        .shed 1 true, .overflow true, .roster 3] } (alone .active)
     QueueLaw s ∧ s.host.queue.length = 8 ∧ (∀ m ∈ s.host.queue, m.kindCode ≠ (Notification.sense true true).kindCode) ∧
      s.host.queue = [.grant 1] ++ .duplicate :: s.host.queue.drop 2) := by
  unfold QueueLaw; decide +kernel
theorem witness_FramesAreReadBackFromTheirBytes :
    (Frame.shed 63 0xFFFF 0xFFFF).inRange = true ∧ (Frame.announce 9 0 peerClaim).inRange = true ∧
    (Frame.status 9 0 { peerClaim with max := 10000 } ⟨0, 10000, 0, some 0, some 0xFFFF⟩).inRange = true := by decide +kernel

/-- A station at work with station 9 on its roster, a command waiting: every law holds in it, so the statements that a step
keeps them have a case to be about. -/
def running : State := { withNine .active with pending := [.cycleTimerExpiry] }

theorem witness_running_storageKept : StorageKept running := by
  intro t i b rest h; simp [running] at h
theorem witness_running_has_one_entry (e : Entry) (h : e ∈ running.roster.entries) : e = entry 9 0 := by
  simpa [running, withNine, working, rough, RosterUnit.initial] using h
theorem witness_StepKeepsOutputsQueueAndLoading :
    CutLaw running ∧ AttentionLaw running ∧ QueueLaw running ∧ LoadingLaw running ∧ HeldLaw running ∧
    ∃ u, step running = .next u := by
  refine ⟨by unfold CutLaw; decide +kernel, by unfold AttentionLaw; decide +kernel, ⟨by decide, by decide, fun _ => rfl⟩,
    ?_, ?_, ⟨_, rfl⟩⟩
  · intro h; exact absurd h (by decide)
  · intro h; exact absurd h (by decide)
theorem witness_StepKeepsTheRoster :
    RosterLaw running ∧ ReportLaw running ∧ ForgottenLaw running ∧ StorageKept running := by
  refine ⟨⟨by decide, by decide, ?_⟩, ?_, ⟨by decide, by decide⟩, witness_running_storageKept⟩
  · intro e he; rw [witness_running_has_one_entry e he]; exact ⟨by decide, trivial⟩
  · intro e he r hr
    rw [witness_running_has_one_entry e he] at hr
    simp only [entry, Origin.heard.injEq] at hr
    subst hr; decide
theorem witness_StepKeepsTheGrantWithinItsState : PhaseLaw running ∧ ZeroGrantLaw running ∧ ShareLaw running := by
  unfold PhaseLaw ZeroGrantLaw ShareLaw; decide +kernel
/-- The three ways in which a step raises the grant: the hold expires, the window of the link closes good, and our demand
comes back in FALLBACK. -/
theorem witness_grant_rises :
    after .raiseHoldExpiry (holding (alone .active)) (fun u => decide ((alone .active).grantCtl.grant < u.grantCtl.grant)) =
      some true ∧
    after (.windowClose 9 (.cutShort true)) (degradedAtTheWindow (alone .active))
      (fun u => decide ((alone .active).grantCtl.grant < u.grantCtl.grant)) = some true ∧
    (let s := cooling (isolated .fallback 6000000 7000000)
     after .recoveryTimerExpiry { s with planner := { s.planner with claim := { claim with effectiveDemand := 0 } } }
      (fun u => (s.grantCtl.grant, u.life.phase, u.grantCtl.grant)) = some (0, .fallback, 60)) := by decide +kernel
theorem witness_StepKeepsTheGrantWithinTheDemand :
    PlanLaw running ∧ DemandLaw running ∧ ClaimLaw running ∧ OwnShareLaw running ∧ GrantLaw running ∧
    StorageKept running := by
  refine ⟨⟨?_, fun h => absurd h (by decide)⟩, by unfold DemandLaw; decide +kernel, ⟨by decide +kernel, by decide +kernel, by decide +kernel, ?_⟩,
    by unfold OwnShareLaw; decide +kernel, by unfold GrantLaw; decide +kernel,
    witness_running_storageKept⟩
  · intro p hp
    have : running.planner.plan = some (rough .active [entry 9 0]).planNow := rfl
    rw [this] at hp
    injection hp with hp
    subst hp
    unfold PlanSumLaw; decide +kernel
  · intro v hv; cases hv
theorem witness_StepKeepsDigestAndPlanFresh :
    FreshLaw running ∧ StorageKept running ∧ ∃ u, step running = .next u := by
  exact ⟨by unfold FreshLaw; decide +kernel, witness_running_storageKept, _, rfl⟩
theorem witness_digest_elements :
    (withNine .active).digestNow = crc16 [5, 1, 1, 9, 1, 7] ∧
    (working .active [heardOf 4, { entry 9 0 with cls := .mismatch }]).digestNow = crc16 [4, 2, 0, 5, 1, 1, 9, 3, 0] ∧
    RosterLaw (withNine .active) := by
  refine ⟨by decide +kernel, by decide +kernel, witness_PlanRowsStandInOrderWithTheirOutcomes.1⟩
theorem witness_StepKeepsSettledFlagAndRequestList :
    SettledLaw running ∧ RequestLaw running ∧ AttemptLaw running ∧ IsolationLaw running := by
  refine ⟨fun _ _ => by decide +kernel, ⟨?_, ?_⟩, by unfold AttemptLaw; decide, by unfold IsolationLaw; decide⟩
  · intro k r h; cases k <;> cases h
  · intro a h; cases h
theorem witness_StepKeepsCountersWindowPlanAndStage :
    CounterLaw running ∧ WindowLaw running ∧ StageLaw running ∧ LineLaw running ∧ LineLaw (onIdle running) ∧
    (onIdle running).bus.idle = true ∧ after (.attemptStart 9) (onIdle running) (fun u => u.bus.idle) = some true := by
  unfold CounterLaw WindowLaw StageLaw LineLaw
  exact ⟨by decide +kernel, by decide +kernel, ⟨rfl, rfl, rfl⟩, fun h => absurd h (by decide), fun _ => ⟨by decide, rfl, rfl, rfl⟩,
    rfl, by decide +kernel⟩

end Sys2Proof.Tests
end

