-- ==== Sys2Proof/Proofs/Division.lean ====
section
/-! SUPPORT. The division of the pool (R9 to R13): what each of its stages does to one row, and that none of them loses or
makes a unit of the pool. -/

namespace Sys2Proof.Machine

open Sys2Proof.Safety

/-! ### Row by row through two lists -/

/-- A list related row by row to another has the same values of a field that the relation keeps. -/
theorem map_eq_of_forall₂ {α β : Type} {R : α → α → Prop} {f : α → β} (hf : ∀ ⦃a b⦄, R a b → f a = f b) {xs ys : List α}
    (h : List.Forall₂ R xs ys) : xs.map f = ys.map f := by
  rw [← List.forall₂_eq_eq_eq, List.forall₂_map_left_iff, List.forall₂_map_right_iff]
  exact h.imp fun _ _ => @hf _ _

/-- What the relation makes of a property of each row holds of each row of the related list. -/
theorem forall_mem_of_forall₂ {α : Type} {R : α → α → Prop} {p q : α → Prop} (hq : ∀ ⦃a b⦄, R a b → p a → q b)
    {xs ys : List α} (h : List.Forall₂ R xs ys) (hp : ∀ a ∈ xs, p a) : ∀ b ∈ ys, q b := by
  induction h with
  | nil => simp
  | cons hab _ ih =>
    obtain ⟨ha, hxs⟩ := List.forall_mem_cons.mp hp
    exact List.forall_mem_cons.mpr ⟨hq hab ha, ih hxs⟩

/-- Row-by-row relations compose where the relation of the rows does. -/
theorem forall₂_trans {α : Type} {R : α → α → Prop} (hR : ∀ ⦃a b c⦄, R a b → R b c → R a c) {xs ys zs : List α}
    (hxy : List.Forall₂ R xs ys) (hyz : List.Forall₂ R ys zs) : List.Forall₂ R xs zs := by
  induction hxy generalizing zs with
  | nil => exact hyz
  | cons hab _ ih =>
    obtain ⟨_, _, hbc, hys, rfl⟩ := List.forall₂_cons_left_iff.mp hyz
    exact .cons (hR hab hbc) (ih hys)

/-! ### What a stage can do to a row -/

/-- What the floor walk does to a row: an IDLE one stands, any other is given its min or is PARKED (R9). -/
inductive Row.Walked : Row → Row → Prop
  | idle {r : Row} : r.outcome = .idle → r.Walked r
  | given {r : Row} : r.outcome ≠ .idle → r.Walked { r with share := r.min }
  | parked {r : Row} : r.outcome ≠ .idle → r.Walked { r with outcome := .parked }

/-- What the fill does to a row: its share goes up by some units, up to its demand, and by none where it is no claimant
that takes part in the fill (R10, R11). -/
def Row.RaisedTo (a b : Row) : Prop :=
  ∃ k, b = { a with share := a.share + k } ∧ (k = 0 ∨ (a.outcome = .partly ∧ a.share + k ≤ a.demand))

/-- A row before the division: share 0, and it is IDLE or claims at least its min. -/
def Row.Fresh (r : Row) : Prop := r.share = 0 ∧ (r.outcome = .idle ∨ (r.outcome = .partly ∧ r.min ≤ r.demand))

/-- A row while the pool is being filled in: a claimant that takes part lies between min and demand, any other has 0. -/
def Row.Fits (r : Row) : Prop :=
  if r.outcome = .partly then r.min ≤ r.share ∧ r.share ≤ r.demand else r.share = 0

theorem Row.unfilled_iff (r : Row) : r.unfilled = true ↔ r.outcome = .partly ∧ r.share < r.demand := by
  simp [Row.unfilled]

theorem Row.Walked.station_eq {a b : Row} (h : a.Walked b) : a.station = b.station := by cases h <;> rfl

theorem Row.Walked.fits {a b : Row} (h : a.Walked b) (ha : a.Fresh) : b.Fits := by
  obtain ⟨hshare, houtcome⟩ := ha
  cases h with
  | idle hidle => simpa [Row.Fits, hidle] using hshare
  | given hclaims =>
    obtain ⟨hpartly, hmin⟩ := houtcome.resolve_left hclaims
    simpa [Row.Fits, hpartly] using hmin
  | parked => simpa [Row.Fits] using hshare

theorem Row.RaisedTo.refl (r : Row) : r.RaisedTo r := ⟨0, rfl, .inl rfl⟩

theorem Row.RaisedTo.trans {a b c : Row} (hab : a.RaisedTo b) (hbc : b.RaisedTo c) : a.RaisedTo c := by
  obtain ⟨j, rfl, hj⟩ := hab
  obtain ⟨k, rfl, hk⟩ := hbc
  refine ⟨j + k, by simp [Nat.add_assoc], ?_⟩
  rcases hk with rfl | ⟨hpartly, hle⟩
  · exact hj
  · exact .inr ⟨hpartly, by simpa [Nat.add_assoc] using hle⟩

/-- A member of the unfilled set may be given what it lacks, or less (R10). -/
theorem Row.RaisedTo.of_unfilled {r : Row} (h : r.unfilled = true) {k : Current} (hk : k ≤ r.demand - r.share) :
    r.RaisedTo { r with share := r.share + k } := by
  obtain ⟨hpartly, hlt⟩ := r.unfilled_iff.mp h
  exact ⟨k, rfl, .inr ⟨hpartly, Nat.add_le_of_le_sub' hlt.le hk⟩⟩

theorem Row.RaisedTo.station_eq {a b : Row} (h : a.RaisedTo b) : a.station = b.station := by
  obtain ⟨_, rfl, _⟩ := h; rfl

theorem Row.RaisedTo.fits {a b : Row} (h : a.RaisedTo b) (ha : a.Fits) : b.Fits := by
  obtain ⟨k, rfl, rfl | ⟨hpartly, hle⟩⟩ := h
  · exact ha
  · obtain ⟨hmin, _⟩ : a.min ≤ a.share ∧ a.share ≤ a.demand := by simpa [Row.Fits, hpartly] using ha
    simpa [Row.Fits, hpartly] using ⟨Nat.le_add_right_of_le hmin, hle⟩

/-- Closing a row settles its outcome alone (R12). -/
@[simp] theorem Row.close_frame (r : Row) :
    r.close.station = r.station ∧ r.close.priority = r.priority ∧ r.close.min = r.min ∧ r.close.demand = r.demand ∧
    r.close.share = r.share := by
  unfold Row.close; split <;> simp

theorem Row.Fits.rowLaw_close {r : Row} (h : r.Fits) : RowLaw r.close := by
  unfold Row.Fits at h
  split at h <;> simp [RowLaw, h]

/-! ### The rows that go into a division -/

theorem claimRow_fresh {n : Station} {pr : Fin 4} {mn dm : Current} (h : dm = 0 ∨ mn ≤ dm) : (claimRow n pr mn dm).Fresh := by
  by_cases hdm : dm = 0
  · simp [Row.Fresh, claimRow, hdm]
  · simpa [Row.Fresh, claimRow, hdm] using h

/-- A row put at its place is one row more (R8). -/
theorem insertRow_perm (r : Row) (rows : List Row) : (insertRow r rows).Perm (r :: rows) := by
  induction rows with
  | nil => exact .refl _
  | cons x xs ih =>
    unfold insertRow
    split
    · exact .refl _
    · exact (ih.cons x).trans (.swap r x xs)

/-- Claimant order is an order of the same rows (R8). -/
theorem sortRows_perm (rows : List Row) : (sortRows rows).Perm rows := by
  induction rows with
  | nil => exact .refl _
  | cons r rs ih => exact (insertRow_perm r _).trans (ih.cons r)

/-- An entry with a row is LIVE and heard, and the row is made of its report (R7). -/
theorem Entry.row?_eq_some {e : Entry} {r : Row} (h : e.row? = some r) :
    ∃ p, e.cls = .live ∧ e.origin = .heard p ∧ r = claimRow e.station p.priority p.min p.demand := by
  unfold Entry.row? at h
  split at h
  · next p hlive hheard => exact ⟨p, hlive, hheard, (Option.some.inj h).symm⟩
  · cases h

/-- Each row of a new plan is our own or made of an entry's report (R7). -/
theorem mem_claimRows {s : State} {r : Row} (h : r ∈ s.claimRows) :
    r = s.planner.claim.row s.ownStation ∨
    ∃ e ∈ s.roster.entries, ∃ p, e.cls = .live ∧ e.origin = .heard p ∧
      r = claimRow e.station p.priority p.min p.demand := by
  rcases List.mem_cons.mp ((sortRows_perm _).mem_iff.mp h) with hown | hpeer
  · exact .inl hown
  · obtain ⟨e, he, hr⟩ := List.mem_filterMap.mp hpeer
    exact .inr ⟨e, he, Entry.row?_eq_some hr⟩

/-- The rows of a new plan are fresh where the reports and our own claim are in their ranges (R7, R96). -/
theorem claimRows_fresh {s : State} (hreport : ReportLaw s)
    (hown : s.planner.claim.effectiveDemand = 0 ∨ s.planner.claim.min ≤ s.planner.claim.effectiveDemand) :
    ∀ r ∈ s.claimRows, r.Fresh := by
  intro r hr
  rcases mem_claimRows hr with rfl | ⟨e, he, p, _, hheard, rfl⟩
  · exact claimRow_fresh hown
  · obtain ⟨_, _, _, hdemand, _⟩ := hreport e he p hheard
    exact claimRow_fresh (hdemand.imp_right And.left)

theorem claimRows_share {s : State} : ∀ r ∈ s.claimRows, r.share = 0 := by
  intro r hr
  rcases mem_claimRows hr with rfl | ⟨_, _, _, _, _, rfl⟩ <;> rfl

/-! ### The floor walk (R9) -/

theorem floorWalk_walked (rem : Current) (rows : List Row) : List.Forall₂ Row.Walked rows (floorWalk rem rows).1 := by
  induction rows generalizing rem with
  | nil => exact .nil
  | cons r rs ih =>
    unfold floorWalk
    split
    · next hidle => exact .cons (.idle hidle) (ih rem)
    · next hclaims =>
      split
      · exact .cons (.given hclaims) (ih (rem - r.min))
      · exact .cons (.parked hclaims) (ih rem)

/-- What the walk has not given is what is left. -/
theorem floorWalk_sum {rem : Current} {rows : List Row} (h : ∀ r ∈ rows, r.share = 0) :
    ((floorWalk rem rows).1.map Row.share).sum + (floorWalk rem rows).2 = rem := by
  induction rows generalizing rem with
  | nil => simp [floorWalk]
  | cons r rs ih =>
    obtain ⟨hr, hrs⟩ := List.forall_mem_cons.mp h
    unfold floorWalk
    split
    · simpa [hr] using ih hrs
    · split
      · next hlasts =>
        simp only [List.map_cons, List.sum_cons]
        rw [Nat.add_assoc, ih hrs]
        exact Nat.add_sub_of_le hlasts
      · simpa [hr] using ih hrs

/-! ### The fill (R10, R11) -/

theorem giveRound_raised (q : Current) (rows : List Row) : List.Forall₂ Row.RaisedTo rows (giveRound q rows).1 := by
  induction rows with
  | nil => exact .nil
  | cons r rs ih =>
    unfold giveRound
    dsimp only
    split
    · next hunfilled => exact .cons (.of_unfilled hunfilled (min_le_right _ _)) ih
    · exact .cons (.refl r) ih

theorem giveRound_sum (q : Current) (rows : List Row) :
    ((giveRound q rows).1.map Row.share).sum = (rows.map Row.share).sum + (giveRound q rows).2 := by
  induction rows with
  | nil => rfl
  | cons r rs ih =>
    unfold giveRound
    dsimp only
    split <;> simp only [List.map_cons, List.sum_cons, ih] <;> ring

/-- A round gives each member of the unfilled set at most q. -/
theorem giveRound_given_le (q : Current) (rows : List Row) :
    (giveRound q rows).2 ≤ q * (rows.filter Row.unfilled).length := by
  induction rows with
  | nil => simp [giveRound]
  | cons r rs ih =>
    unfold giveRound
    dsimp only
    split
    · next hunfilled =>
      rw [List.filter_cons_of_pos hunfilled, List.length_cons, Nat.mul_succ]
      exact Nat.add_le_add ih (min_le_left _ _)
    · next hfilled => rwa [List.filter_cons_of_neg hfilled]

theorem leftover_raised (rem : Current) (rows : List Row) : List.Forall₂ Row.RaisedTo rows (leftover rem rows).1 := by
  induction rows generalizing rem with
  | nil => exact .nil
  | cons r rs ih =>
    unfold leftover
    split
    · next hgive =>
      obtain ⟨_, hlt⟩ := r.unfilled_iff.mp hgive.1
      exact .cons (.of_unfilled hgive.1 (Nat.sub_pos_of_lt hlt)) (ih (rem - 1))
    · exact .cons (.refl r) (ih rem)

theorem leftover_sum (rem : Current) (rows : List Row) :
    ((leftover rem rows).1.map Row.share).sum + (leftover rem rows).2 = (rows.map Row.share).sum + rem := by
  induction rows generalizing rem with
  | nil => rfl
  | cons r rs ih =>
    unfold leftover
    split
    · next hgive =>
      simp only [List.map_cons, List.sum_cons]
      rw [Nat.add_assoc, ih (rem - 1)]
      have hone : 1 + (rem - 1) = rem := Nat.add_sub_of_le hgive.2
      calc r.share + 1 + ((rs.map Row.share).sum + (rem - 1))
          = r.share + (rs.map Row.share).sum + (1 + (rem - 1)) := by ring
        _ = r.share + (rs.map Row.share).sum + rem := by rw [hone]
    · simp only [List.map_cons, List.sum_cons]
      rw [Nat.add_assoc, ih rem, Nat.add_assoc]

theorem fillRounds_raised (fuel : Nat) (rem : Current) (rows : List Row) :
    List.Forall₂ Row.RaisedTo rows (fillRounds fuel rem rows).1 := by
  induction fuel generalizing rem rows with
  | zero => exact List.forall₂_same.mpr fun r _ => .refl r
  | succ fuel ih =>
    unfold fillRounds
    dsimp only
    split
    · exact List.forall₂_same.mpr fun r _ => .refl r
    · split
      · exact leftover_raised rem rows
      · exact forall₂_trans (fun _ _ _ => .trans) (giveRound_raised _ rows) (ih _ _)

/-- A round gives no more than there is, since q is the remainder shared out evenly; so the fill moves units from the
remainder to the shares and loses none. -/
theorem fillRounds_sum (fuel : Nat) (rem : Current) (rows : List Row) :
    ((fillRounds fuel rem rows).1.map Row.share).sum + (fillRounds fuel rem rows).2 = (rows.map Row.share).sum + rem := by
  induction fuel generalizing rem rows with
  | zero => rfl
  | succ fuel ih =>
    unfold fillRounds
    dsimp only
    split
    · rfl
    · split
      · exact leftover_sum rem rows
      · have hgiven := (giveRound_given_le (rem / (rows.filter Row.unfilled).length) rows).trans (Nat.div_mul_le_self _ _)
        rw [ih, giveRound_sum, Nat.add_assoc, Nat.add_sub_of_le hgiven]

/-! ### The division whole (R9 to R13) -/

/-- The rows after the floor walk and the fill, before their outcomes are settled, with what is left of the pool. -/
def filledRows (pool : Current) (rows : List Row) : List Row × Current :=
  fillRounds (rows.length + 2) (floorWalk pool rows).2 (floorWalk pool rows).1

theorem divide_eq (pool : Current) (rows : List Row) :
    divide pool rows = ((filledRows pool rows).1.map Row.close, (filledRows pool rows).2) := rfl

theorem divide_sum {pool : Current} {rows : List Row} (h : ∀ r ∈ rows, r.share = 0) :
    ((divide pool rows).1.map Row.share).sum + (divide pool rows).2 = pool := by
  have hclose : Row.share ∘ Row.close = Row.share := funext fun r => by simp
  rw [divide_eq, List.map_map, hclose]
  exact (fillRounds_sum _ _ _).trans (floorWalk_sum h)

theorem divide_station (pool : Current) (rows : List Row) : (divide pool rows).1.map Row.station = rows.map Row.station := by
  have hclose : Row.station ∘ Row.close = Row.station := funext fun r => by simp
  rw [divide_eq, List.map_map, hclose]
  calc (filledRows pool rows).1.map Row.station
      = (floorWalk pool rows).1.map Row.station :=
        (map_eq_of_forall₂ (fun _ _ h => h.station_eq) (fillRounds_raised _ _ _)).symm
    _ = rows.map Row.station := (map_eq_of_forall₂ (fun _ _ h => h.station_eq) (floorWalk_walked _ _)).symm

theorem divide_rowLaw {pool : Current} {rows : List Row} (h : ∀ r ∈ rows, r.Fresh) : ∀ r ∈ (divide pool rows).1, RowLaw r := by
  have hwalked : ∀ r ∈ (floorWalk pool rows).1, r.Fits :=
    forall_mem_of_forall₂ (fun _ _ h => h.fits) (floorWalk_walked pool rows) h
  have hfilled : ∀ r ∈ (filledRows pool rows).1, r.Fits :=
    forall_mem_of_forall₂ (fun _ _ h => h.fits) (fillRounds_raised _ _ _) hwalked
  rw [divide_eq]
  exact List.forall_mem_map.mpr fun r hr => (hfilled r hr).rowLaw_close

/-! ### The pool and the headroom (R5, R6) -/

/-- The reported max of a MISMATCH entry, which such an entry takes from the headroom (R6). -/
def Entry.mismatchMax (e : Entry) : Option Current :=
  match e.cls, e.origin with
  | .mismatch, .heard r => some r.max
  | _, _ => none

/-- The reservation is F for each QUIET entry and the reported max of each MISMATCH entry (R6). -/
theorem reservation_sum (fallback : Current) (es : List Entry) :
    (es.map (Entry.reservation fallback)).sum =
      (es.filter (fun e => decide (e.cls = .quiet))).length * fallback + (es.filterMap Entry.mismatchMax).sum := by
  induction es with
  | nil => simp
  | cons e es ih =>
    rw [List.map_cons, List.sum_cons, ih, List.filter_cons, List.filterMap_cons]
    cases hcls : e.cls with
    | live => simp [Entry.reservation, Entry.mismatchMax, hcls]
    | quiet => simp [Entry.reservation, Entry.mismatchMax, hcls, Nat.add_one_mul, Nat.add_assoc, Nat.add_left_comm]
    | mismatch =>
      cases horigin : e.origin with
      | hearsay => simp [Entry.reservation, Entry.mismatchMax, hcls, horigin]
      | heard r => simp [Entry.reservation, Entry.mismatchMax, hcls, horigin, Nat.add_left_comm]

/-- Umax is at least our own estimate, where it counts, and each LIVE entry's, and is 0 or one of them (R5). -/
theorem umax_spec (s : State) :
    (∀ v, s.ownEstimate = some v → v ≤ s.umax) ∧
    (∀ e ∈ s.roster.entries, e.cls = .live → ∀ v, e.estimate = some v → v ≤ s.umax) ∧
    (s.umax = 0 ∨ s.ownEstimate = some s.umax ∨ ∃ e ∈ s.roster.entries, e.cls = .live ∧ e.estimate = some s.umax) := by
  obtain ⟨hown, hlive, hattained⟩ := liveEstimates_fold s.roster.entries (s.ownEstimate.getD 0)
  change _ ≤ s.umax at hown
  change s.umax = _ ∨ _ at hattained
  refine ⟨fun v hv => by simpa [hv] using hown, hlive, ?_⟩
  rcases hattained with hstart | hentry
  · cases hest : s.ownEstimate with
    | none => exact .inl (by simpa [hest] using hstart)
    | some v => exact .inr (.inl (by rw [hstart, hest, Option.getD_some]))
  · exact .inr (.inr hentry)

/-- Our own estimate is the one that the Meter holds, on a feeder-sensing station (R5). -/
theorem ownEstimate_eq_some_iff (s : State) (v : Current) :
    s.ownEstimate = some v ↔ s.params.feederSensing = true ∧ s.meter.estimate = some v := by
  simp [State.ownEstimate]

/-! ### The laws of a plan -/

/-- Every division keeps the pool whole, its rows within min and demand, and the claimants in their places (R13). -/
theorem divide_claims_laws (pool : Current) (claims : List (Station × Fin 4 × Current × Current)) :
    let rows := claims.map (fun c => claimRow c.1 c.2.1 c.2.2.1 c.2.2.2)
    ((divide pool rows).1.map Row.share).sum + (divide pool rows).2 = pool ∧
    ((∀ c ∈ claims, c.2.2.2 = 0 ∨ c.2.2.1 ≤ c.2.2.2) → ∀ r ∈ (divide pool rows).1, RowLaw r) ∧
    (divide pool rows).1.map Row.station = claims.map (fun c => c.1) := by
  refine ⟨divide_sum (List.forall_mem_map.mpr fun _ _ => rfl), fun h => ?_, ?_⟩
  · exact divide_rowLaw (List.forall_mem_map.mpr fun c hc => claimRow_fresh (h c hc))
  · rw [divide_station, List.map_map]; rfl

/-- In every plan the shares and the remainder add up to P, which is at most H (R13). -/
theorem planNow_planSumLaw (s : State) : PlanSumLaw s.planNow :=
  ⟨divide_sum claimRows_share, Nat.sub_le _ _⟩

/-- H and P of a plan are what their subtrahends leave, never below 0 (R5, R6). -/
theorem planNow_headroom_pool (s : State) :
    s.planNow.headroom = s.params.feederLimit - s.params.reserve - s.planNow.umax - s.grantCtl.deficit ∧
    s.planNow.pool = s.planNow.headroom -
      ((s.roster.entries.filter (fun e => decide (e.cls = .quiet))).length * s.params.fallback +
        (s.roster.entries.filterMap Entry.mismatchMax).sum) :=
  ⟨rfl, congrArg (s.headroom - ·) (reservation_sum _ _)⟩

end Sys2Proof.Machine

section
open Sys2Proof.Machine Sys2Proof.Safety

/-- Settles O49: each stage of the division moves units from the remainder to shares that stay within min and demand;
H, P and Umax are as their definitions give them. -/
theorem divisionKeepsItsLaws : Obligations.DivisionKeepsItsLaws := by
  refine ⟨divide_claims_laws, fun s hreport hown => ?_, fun s => ?_⟩
  · obtain ⟨hsum, hpool⟩ := planNow_planSumLaw s
    exact ⟨hsum ▸ Nat.le_add_right _ _, hpool, hsum, divide_rowLaw (claimRows_fresh hreport hown)⟩
  · obtain ⟨hheadroom, hpool⟩ := planNow_headroom_pool s
    obtain ⟨hown, hlive, hattained⟩ := umax_spec s
    simp only [ownEstimate_eq_some_iff] at hown hattained
    exact ⟨hheadroom, hpool, fun hsensing v hv => hown v ⟨hsensing, hv⟩, hlive, hattained⟩

end
end

section
/-! SUPPORT. The window of the Link Monitor (R117 to R120): a frame event that leaves it open, and one that closes it. -/

namespace Sys2Proof.Machine

/-! ### The close of a window -/

/-- A window that closes restarts both counts and gives the flag its value, whether or not that hands a change on (R119). -/
theorem closeWindow_link (d : Bool) (s : State) : (closeWindow d s).link = { events := 0, damaged := 0, degraded := d } := by
  unfold closeWindow
  by_cases hsame : s.link.degraded = d
  · rw [if_pos hsame]
  · rw [if_neg hsame]
    cases d with
    | true => simp
    | false => simp

/-- A window that closes with the flag as it was hands nothing on (R120). -/
theorem closeWindow_of_degraded_eq {d : Bool} {s : State} (hsame : s.link.degraded = d) :
    closeWindow d s = { s with link := { s.link with events := 0, damaged := 0 } } := by
  subst hsame; exact if_pos rfl

/-! ### One frame event -/

/-- The damaged count with this event's own damage (R118). -/
theorem damaged_counted (damaged : Bool) (n : Nat) :
    (if damaged then n + 1 else n) = n + (if damaged then 1 else 0) := by
  cases damaged with
  | true => rfl
  | false => rfl

/-- The event that leaves the count below W is counted, and nothing else changes (R117, R118). -/
theorem frameEvent_of_lt_window (damaged : Bool) {s : State} (hopen : s.link.events + 1 < s.params.window) :
    frameEvent damaged s = { s with link := { s.link with
      events := s.link.events + 1, damaged := s.link.damaged + (if damaged then 1 else 0) } } := by
  have hdue : ¬ s.windowDue = true := by simpa [State.windowDue] using hopen
  unfold frameEvent; rw [if_neg hdue, damaged_counted]

/-- The event that brings the count to W closes the window, with its own damage in the judgement (R119). -/
theorem frameEvent_of_window_le (damaged : Bool) {s : State} (hlast : s.params.window ≤ s.link.events + 1) :
    frameEvent damaged s =
      closeWindow (decide (s.params.threshold < s.link.damaged + (if damaged then 1 else 0))) s := by
  have hdue : s.windowDue = true := decide_eq_true hlast
  unfold frameEvent; rw [if_pos hdue, damaged_counted]

end Sys2Proof.Machine

section
open Sys2Proof.Machine

/-- Settles O35: an event below W is only counted; the one that brings the count to W is the close of the window, judged
with that event's own damage. -/
theorem windowClosesAtW : Obligations.WindowClosesAtW := by
  refine fun damaged s => ⟨frameEvent_of_lt_window damaged, fun hlast => ?_⟩
  rw [frameEvent_of_window_le damaged hlast.ge, closeWindow_link]
  exact ⟨decide_eq_true_iff, rfl, rfl, closeWindow_of_degraded_eq⟩

end
end

section
/-! SUPPORT. NOTE (R173): the reply that a taken command begins, what NOTE takes from the queue, and what a kind whose
notification has left the queue finds there. -/

namespace Sys2Proof.Machine

open Sys2Proof.Safety Sys2Proof.Claims

/-! ### The reply of a command that is taken (R165, R166) -/

/-- A command that is taken and brings no restart: where its effects beside the frame's own end are those of `u`, the
result is `u` with the reply begun. -/
theorem commandArrives_answered {c : Cmd} {t : Time} {p bytes : List Byte} {st : Status} {s u : State} (hfree : PortFree s)
    (hl : p.length < 64) (hg : s.gate c = none) (hp : p.length = c.payloadSize) (hc : c ≠ .restart)
    (ha : act c p (endHostFrame (s.atTime t)) = { status := st, payload := bytes, after := endHostFrame u }) :
    commandArrives t c.code p s = .next (answered ⟨c.code, p⟩ st bytes u) := by
  obtain ⟨hinput, hidle⟩ := hfree
  have hstays : ∀ a, restartsAfter ⟨c.code, p⟩ a = false := by simp [restartsAfter, hc]
  rw [commandArrives_taken hinput hidle hl hg hp, ha]
  simp only [hstays]
  rfl

/-! ### What NOTE does (R173, R178) -/

/-- The state in which the oldest notification has left the queue for `rest`. -/
def State.noteTaken (s : State) (rest : List Notification) : State :=
  { s with attention := !rest.isEmpty, host := { s.host with queue := rest, lostFlag := false } }

/-- The bytes with which NOTE reports a notification: kind code, lost flag, content (T 11-9, T 11-10). -/
def Notification.replyBytes (n : Notification) (lost : Bool) : List Byte :=
  [BitVec.ofNat 8 n.kindCode, BitVec.ofNat 8 (bitValue lost 1)] ++ n.content

/-- NOTE on an empty queue is refused with ABSENT. -/
theorem actNote_of_queue_nil {s : State} (hq : s.host.queue = []) : actNote s = refuse .absent s := by
  simp [actNote, hq]

/-- NOTE reports the notification in front and leaves the rest. -/
theorem actNote_of_queue_cons {n : Notification} {rest : List Notification} {s : State} (hq : s.host.queue = n :: rest) :
    actNote s = { status := .ok, payload := n.replyBytes s.host.lostFlag, after := s.noteTaken rest } := by
  simp [actNote, hq, Notification.replyBytes, State.noteTaken]

/-- NOTE on an empty queue changes nothing but the reply. -/
theorem exec_note_of_queue_nil {t : Time} {s : State} (hfree : PortFree s) (hg : s.gate .note = none)
    (hq : s.host.queue = []) :
    exec (.note t []) s = .next (answered ⟨Cmd.note.code, []⟩ .absent [] (s.atTime t)) :=
  commandArrives_answered hfree (by decide) hg rfl (by decide) (actNote_of_queue_nil hq)

/-- NOTE on a queue with a notification in front takes that one out and reports it. -/
theorem exec_note_of_queue_cons {t : Time} {n : Notification} {rest : List Notification} {s : State} (hfree : PortFree s)
    (hg : s.gate .note = none) (hq : s.host.queue = n :: rest) :
    exec (.note t []) s =
      .next (answered ⟨Cmd.note.code, []⟩ .ok (n.replyBytes s.host.lostFlag) ((s.atTime t).noteTaken rest)) :=
  commandArrives_answered hfree (by decide) hg rfl (by decide) (actNote_of_queue_cons hq)

/-- A flag that stands alone in a byte. -/
theorem ofNat_bitValue_one (b : Bool) : BitVec.ofNat 8 (bitValue b 1) = if b then 1#8 else 0#8 := by
  cases b with
  | true => rfl
  | false => rfl

/-- Two flags in the low bits of a byte. -/
theorem ofNat_bitValue_pair (a b : Bool) :
    BitVec.ofNat 8 (bitValue a 1 + bitValue b 2) = (if a then 1#8 else 0#8) + (if b then 2#8 else 0#8) := by
  revert a b; decide

/-! ### A kind that the queue does not hold (R176) -/

/-- A notification of a kind that the queue does not hold goes to the tail while there is room. -/
theorem enterNote_of_kind_absent {n : Notification} {q : List Notification} (hkind : ∀ x ∈ q, x.kindCode ≠ n.kindCode)
    (hroom : q.length < Config.queueCapacity) : enterNote n q = q ++ [n] := by
  have hnone : q.any (fun x => x.kindCode == n.kindCode) = false := by simpa using hkind
  simp [enterNote, hnone, hroom]

/-- Behind the oldest notification the queue holds none of its kind, and has room for one. -/
theorem queueLaw_behind_oldest {s : State} {n : Notification} {rest : List Notification} (hlaw : QueueLaw s)
    (hq : s.host.queue = n :: rest) :
    (∀ x ∈ rest, x.kindCode ≠ n.kindCode) ∧ rest.length < Config.queueCapacity := by
  obtain ⟨hlength, hkinds, -⟩ := hlaw
  rw [hq] at hlength hkinds
  refine ⟨fun x hx hsame => (List.nodup_cons.mp hkinds).1 ?_, hlength⟩
  exact hsame ▸ List.mem_map_of_mem hx

end Sys2Proof.Machine

section
open Sys2Proof.Machine Sys2Proof.Safety

/-- Settles O16: NOTE answers from the front of the queue, and the kind that it took out is absent from the rest, which has
room. -/
theorem noteTakesTheOldestNotification : Obligations.NoteTakesTheOldestNotification := by
  intro t s hfree hgate
  refine ⟨exec_note_of_queue_nil hfree hgate, fun ⟨_, _, hclear⟩ => hclear, fun n rest hq => ⟨?_, fun hlaw m hm => ?_⟩⟩
  · -- kind by kind, the reply is the one that T 11-9 lists
    rw [exec_note_of_queue_cons hfree hgate hq]
    cases n <;> simp only [Notification.replyBytes, Notification.content, ofNat_bitValue_one, ofNat_bitValue_pair] <;> rfl
  · obtain ⟨hkind, hroom⟩ := queueLaw_behind_oldest hlaw hq
    exact enterNote_of_kind_absent (by rwa [hm]) hroom

end
end

section
/-! SUPPORT. What an event can do to the state, said once. Every operation of the model is a chain of the changes listed
here, each with the condition under which it comes about; a law that each change keeps is kept by every event. -/

namespace Sys2Proof.Machine

open Sys2Proof.Safety

/-! ### The changes -/

/-- A counter stands or goes one up. -/
def Counted (a b : Nat) : Prop := b = a ∨ b = bump a

/-- The counters of the Bus Interface stand or go one up (R101). -/
structure BusInterface.CountsOn (a b : BusInterface) : Prop where
  framesSent : Counted a.framesSent b.framesSent
  lost : Counted a.lost b.lost
  aborted : Counted a.aborted b.aborted
  partly : Counted a.partly b.partly
  unheard : Counted a.unheard b.unheard
  validReceived : Counted a.validReceived b.validReceived
  damagedReceived : Counted a.damagedReceived b.damagedReceived

/-- Two reports carry the same claim. -/
def Report.SameClaim (a b : Report) : Prop := a.min = b.min ∧ a.max = b.max ∧ a.demand = b.demand ∧ a.grant = b.grant

/-- A report meets the ranges of R96. -/
def Report.InRange (r : Report) : Prop :=
  1 ≤ r.max ∧ r.max ≤ 10000 ∧ r.min ≤ r.max ∧ (r.demand = 0 ∨ (r.min ≤ r.demand ∧ r.demand ≤ r.max)) ∧ r.grant ≤ r.max

/-- An entry that is changed in place keeps its number, its kind in Table 2-2 and the claim it holds. -/
def Entry.KeptAs (e f : Entry) : Prop :=
  f.station = e.station ∧ (EntryLaw e → EntryLaw f) ∧
  ∀ r, f.origin = .heard r → ∃ q, e.origin = .heard q ∧ q.SameClaim r

/-- The bookkeeping at the end of an attempt: it leaves the line and the list, is counted and disposed of (R101, R110). -/
def finishAttempt (o : AttemptOutcome) (a : InFlight) (s : State) : State :=
  startSpacing o a.kind (disposeRequest o a { s with
    bus := { s.bus.count o with attempt := none, trailer := s.trailerAfterAttempt }
    sched := { s.sched with inFlight := none } })

/-- The entry into LEAVING as far as the claims are cancelled (R79, R114). -/
def leaveWithGrantZero (s : State) : State := cancelClaims (setGrant 0 (setStation .leaving .none s))

/-- A restart has been taken (R161). -/
def Restarted (s u : State) : Prop :=
  ∃ cause t input, u = restartWith cause { s.atTime t with restartInput := input }

/-- One change of the state, other than a restart. -/
inductive Change : State → State → Prop
  | time (s : State) (t : Time) : Change s (s.atTime t)
  | note (s : State) (n : Notification) : Change s (raiseNote n s)
  | noteTaken (s : State) (n : Notification) (rest : List Notification) (hq : s.host.queue = n :: rest) :
      Change s (s.noteTaken rest)
  | hostLine (s : State) (h : HostPort) (hq : h.queue = s.host.queue) (hl : h.lostFlag = s.host.lostFlag)
      (hn : h.notesLost = s.host.notesLost) (hd : Counted s.host.framesDiscarded h.framesDiscarded) :
      Change s { s with host := h }
  | loader (s : State) (l : Loader) (hs : l.stage = s.loader.stage) (hc : l.heldCopy = s.loader.heldCopy)
      (hn : l.networkDigest = s.loader.networkDigest) : Change s { s with loader := l }
  | awaitsHost (s : State) (hs : s.life.state = .loading) :
      Change s { s with loader := { s.loader with stage := .awaitingHost, readStep := .idle } }
  | startUp (s : State) (img : List Byte) (hs : s.life.state = .loading) :
      Change s (setStation .listening .none (resetLine (takeStationRecord (paramsOf img) (placeImage img s))))
  | fault (s : State) (r : FaultReason) : Change s (enterFault r s)
  | station (s : State) (st : StationState) (ph : Phase) (hfrom : s.life.state.plans = true) (hto : st.plans = true)
      (hph : ph = .none ↔ st ≠ .isolated) (hkeeps : ∀ k, s.life.state.keeps k = true → st.keeps k = true) :
      Change s (setStation st ph s)
  | leaving (s : State) (hs : s.life.state.leaves = true) : Change s (leaveWithGrantZero s)
  | shut (s : State) (st : StationState) (hfrom : s.life.state.plans = true) (hto : st = .dormant ∨ st = .duplicate) :
      Change s (emptyRequests (silenceBus (setStation st .none s)))
  | life (s : State) (l : Lifecycle) (hs : l.state = s.life.state) (hp : l.phase = s.life.phase) :
      Change s { s with life := l }
  | enforce (s : State) (e : EnfState) : Change s (setEnf e s)
  | enfTimers (s : State) (e : EnforcementUnit) (he : e.state = s.enf.state) : Change s { s with enf := e }
  | grantCtl (s : State) (g : GrantController) : Change s { s with grantCtl := g }
  | meter (s : State) (m : Meter) : Change s { s with meter := m }
  | planner (s : State) (p : SharePlanner) (hp : p.plan = s.planner.plan) : Change s { s with planner := p }
  | plan (s : State) (hs : s.life.state.plans = true) : Change s (replacePlan s)
  | link (s : State) (l : LinkMonitor) (hl : s.link.damaged ≤ s.link.events → l.damaged ≤ l.events) :
      Change s { s with link := l }
  | request (s : State) (k : Kind) (x : Current) : Change s (raiseRequest k x s)
  | isolationCount (s : State) (n : Nat) (hn : n ≤ Config.isolationLimit) :
      Change s { s with sched := { s.sched with isolationCount := n } }
  | spacing (s : State) (d : Timer) : Change s { s with sched := { s.sched with spacing := d } }
  | attempt (s : State) (k : Kind) (r : Request) (hr : s.sched.slot k = some r) : Change s (startAttempt k r s)
  | attemptEnds (s : State) (o : AttemptOutcome) (a : InFlight) (ha : s.sched.inFlight = some a) :
      Change s (finishAttempt o a s)
  | bus (s : State) (b : BusInterface) (hc : s.bus.CountsOn b) (ha : b.attempt.isSome = s.bus.attempt.isSome)
      (hl : LineLaw s → LineLaw { s with bus := b }) : Change s { s with bus := b }
  | entries (s : State) (f : Entry → Entry) (hf : ∀ e : Entry, e.KeptAs (f e)) :
      Change s { s with roster := { s.roster with entries := s.roster.entries.map f } }
  | put (s : State) (e : Entry) (forgotten : List Station) (hs : s.life.state ≠ .loading)
      (hroom : s.canHold e.station = true) (hown : e.station ≠ s.ownStation) (he : EntryLaw e)
      (hr : ∀ r, e.origin = .heard r → r.InRange) (hf : forgotten.Sublist s.roster.forgotten) :
      Change s { s with roster := { s.roster with
        entries := upsertEntry e s.roster.entries, forgotten := forgotten } }
  | drop (s : State) (n : Station) : Change s (dropEntry n s)
  | forget (s : State) (n : Station) (hs : s.life.state ≠ .loading) (hn : hasEntry n s.roster.entries = true)
      (forgotten : List Station)
      (hf : forgotten = if n ∈ s.roster.forgotten then s.roster.forgotten else n :: s.roster.forgotten) :
      Change s { s with roster := { s.roster with
        entries := removeEntry n s.roster.entries, overflow := false, forgotten := forgotten } }
  | clearRoster (s : State) :
      Change s { s with roster := { s.roster with entries := [], overflow := false, forgotten := [] } }
  | rosterMarks (s : State) (overflow : Bool) (refused ignored : Nat)
      (hr : Counted s.roster.admissionsRefused refused) (hi : Counted s.roster.shedIgnored ignored) :
      Change s { s with roster := { s.roster with
        overflow := overflow, admissionsRefused := refused, shedIgnored := ignored } }

/-- A chain of changes. -/
abbrev Changes : State → State → Prop := Relation.ReflTransGen Change

theorem Change.one {s u : State} (h : Change s u) : Changes s u := .single h

/-- A law that each change keeps is kept along a chain. -/
theorem Changes.keep {P : State → Prop} (hP : ∀ s u, Change s u → P s → P u) {s u : State} (h : Changes s u) (hs : P s) :
    P u := by
  induction h with
  | refl => exact hs
  | tail _ hstep ih => exact hP _ _ hstep ih

/-! ### Counters, lines and entries -/

theorem Counted.same (a : Nat) : Counted a a := .inl rfl

theorem Counted.up (a : Nat) : Counted a (bump a) := .inr rfl

theorem Counted.le {a b : Nat} (h : Counted a b) (ha : a ≤ Config.counterMax) : b ≤ Config.counterMax := by
  rcases h with rfl | rfl
  · exact ha
  · unfold bump; split <;> omega

theorem BusInterface.CountsOn.same {a b : BusInterface}
    (h : (b.framesSent, b.lost, b.aborted, b.partly, b.unheard, b.validReceived, b.damagedReceived) =
      (a.framesSent, a.lost, a.aborted, a.partly, a.unheard, a.validReceived, a.damagedReceived)) : a.CountsOn b := by
  simp only [Prod.mk.injEq] at h
  obtain ⟨h1, h2, h3, h4, h5, h6, h7⟩ := h
  exact ⟨.inl h1, .inl h2, .inl h3, .inl h4, .inl h5, .inl h6, .inl h7⟩

/-- An outcome is counted in the counters of R101 alone. -/
theorem BusInterface.count_countsOn (b : BusInterface) (o : AttemptOutcome) : b.CountsOn (b.count o) := by
  cases o <;> constructor <;> simp [BusInterface.count, Counted]

/-- A change of the entry that leaves number, class and origin keeps it as it is. -/
theorem Entry.KeptAs.of_eq {e f : Entry} (hn : f.station = e.station) (hc : f.cls = e.cls) (ho : f.origin = e.origin) :
    e.KeptAs f := by
  refine ⟨hn, fun h => ?_, fun r hr => ⟨r, ho ▸ hr, rfl, rfl, rfl, rfl⟩⟩
  unfold EntryLaw at h ⊢
  rwa [hc, ho]

/-! ### The shared operations as chains -/

theorem raiseNote_changes (n : Notification) (s : State) : Changes s (raiseNote n s) := (Change.note s n).one

theorem noteCut_changes (s : State) : Changes s (noteCut s) := (Change.note s _).one

theorem raiseRequest_changes (k : Kind) (x : Current) (s : State) : Changes s (raiseRequest k x s) :=
  (Change.request s k x).one

theorem setGrant_changes (g : Current) (s : State) : Changes s (setGrant g s) := by
  unfold setGrant
  split
  · exact .refl
  · exact ((Change.grantCtl s _).one.tail (.note _ _)).tail (.request _ _ _)

theorem weighRaise_changes (s : State) : Changes s (weighRaise s) := by
  unfold weighRaise
  split
  · exact setGrant_changes _ s
  · exact .refl

theorem takeShare_changes (s : State) : Changes s (takeShare s) := by
  unfold takeShare
  split
  · exact setGrant_changes _ s
  · exact weighRaise_changes s

theorem restartRaiseHold_changes (s : State) : Changes s (restartRaiseHold s) := (Change.grantCtl s _).one

theorem clearConfirmations_changes (s : State) : Changes s (clearConfirmations s) :=
  (Change.entries s (fun e => { e with confirmed := false }) fun _ => .of_eq rfl rfl rfl).one

theorem takeDigestChange_changes (s : State) : Changes s (takeDigestChange s) :=
  ((clearConfirmations_changes s).trans (restartRaiseHold_changes _)).trans (raiseRequest_changes _ _ _)

theorem recomputeDigest_changes (s : State) : Changes s (recomputeDigest s) :=
  (Change.planner s { s.planner with digest := s.digestNow } rfl).one

theorem formDemand_changes (s : State) : Changes s (formDemand s) := by
  unfold formDemand
  split
  · exact .refl
  · exact (Change.planner s { s.planner with claim := { s.planner.claim with
      effectiveDemand := s.demandFormed, serial := s.planner.claim.serial + 1 } } rfl).one

/-- A chain that comes about only under a condition. -/
theorem Changes.ite {c : Prop} [Decidable c] {s u v : State} (hu : c → Changes s u) (hv : ¬c → Changes s v) :
    Changes s (if c then u else v) := by
  split
  · exact hu ‹_›
  · exact hv ‹_›

theorem handOn_changes (dig pln : Bool) (s : State) : Changes s (handOn dig pln s) := by
  unfold handOn
  have h1 : Changes s (if dig then recomputeDigest s else s) := .ite (fun _ => recomputeDigest_changes s) fun _ => .refl
  generalize (if dig then recomputeDigest s else s) = s1 at h1 ⊢
  dsimp only
  have h2 : Changes s (if (pln && s1.life.state.plans) = true then replacePlan s1 else s1) :=
    .ite (fun h => h1.tail (.plan _ (by simp at h; exact h.2))) fun _ => h1
  generalize (if (pln && s1.life.state.plans) = true then replacePlan s1 else s1) = s2 at h2 ⊢
  have h3 : Changes s (if dig then takeDigestChange s2 else s2) :=
    .ite (fun _ => h2.trans (takeDigestChange_changes _)) fun _ => h2
  generalize (if dig then takeDigestChange s2 else s2) = s3 at h3 ⊢
  generalize (pln && s1.life.state.plans && increases s1.planner.plan s1.planNow) = grown
  have h4 : Changes s (if grown then restartRaiseHold s3 else s3) :=
    .ite (fun _ => h3.trans (restartRaiseHold_changes _)) fun _ => h3
  exact .ite (fun _ => h4.trans (takeShare_changes _)) fun _ => h4

theorem commit_changes (before s : State) : Changes s (commit before s) := handOn_changes _ _ s

theorem followDemand_changes (s : State) : Changes s (followDemand s) := by
  unfold followDemand
  (repeat' split) <;> first | exact .refl | exact setGrant_changes _ s

theorem applyShed_changes (x : Current) (s : State) : Changes s (applyShed x s) := by
  unfold applyShed
  exact .ite (fun _ => (Change.grantCtl s _).one.tail (.note _ _)) fun _ => (Change.grantCtl s _).one

theorem closeWindow_changes (d : Bool) (s : State) : Changes s (closeWindow d s) := by
  have hlink : Changes s { s with link := { events := 0, damaged := 0, degraded := d } } :=
    (Change.link s _ fun _ => Nat.le_refl 0).one
  exact .ite (fun _ => hlink) fun _ =>
    .ite (fun _ => hlink.tail (.note _ _)) fun _ => (hlink.tail (.note _ _)).trans (weighRaise_changes _)

theorem frameEvent_changes (damaged : Bool) (s : State) : Changes s (frameEvent damaged s) := by
  refine .ite (fun _ => closeWindow_changes _ s) fun _ => (Change.link s _ fun h => ?_).one
  cases damaged with
  | true => exact Nat.succ_le_succ h
  | false => exact Nat.le_succ_of_le h

/-! ### The station states as chains -/

theorem enterActive_changes {s : State} (hs : s.life.state = .joining) : Changes s (enterActive s) :=
  (Change.station s .active .none (by simp [hs, StationState.plans]) rfl (by simp)
    (by simp [hs, StationState.keeps, StationState.accepts, StationState.participates])).one.trans (takeShare_changes _)

theorem evalSettled_changes (s : State) : Changes s (evalSettled s) := by
  refine .ite (fun _ => .refl) fun _ => .ite (fun _ => .ite (fun h => ?_) fun _ => ?_) fun _ => (Change.grantCtl s _).one
  · exact (Change.grantCtl s _).one.trans (enterActive_changes h)
  · exact (Change.grantCtl s _).one.trans (weighRaise_changes _)

theorem commitDemand_changes (before s : State) : Changes s (commitDemand before s) := by
  unfold commitDemand
  dsimp only
  have h2 : Changes s (commit before (formDemand s)) := (formDemand_changes s).trans (commit_changes _ _)
  generalize commit before (formDemand s) = s2 at h2 ⊢
  have h3 : Changes s (if before.planner.claim.effectiveDemand = (formDemand s).planner.claim.effectiveDemand then s2
      else followDemand (raiseRequest .status 0 s2)) :=
    .ite (fun _ => h2) fun _ => (h2.trans (raiseRequest_changes _ _ _)).trans (followDemand_changes _)
  exact .ite (fun _ => h3.trans (evalSettled_changes _)) fun _ => h3

/-- From a state of full participation every state of full participation keeps the requests. -/
theorem keeps_of_participates {a b : StationState} (hb : b.participates = true) : ∀ k, a.keeps k = true → b.keeps k = true := by
  intro k _; simp [StationState.keeps, StationState.accepts, hb]

theorem enterJoining_changes {s : State} (hs : s.life.state.plans = true) : Changes s (enterJoining s) := by
  unfold enterJoining
  dsimp only
  have h1 : Changes s (takeShare (setStation .joining .none { s with
      life := { s.life with fallbackAt := none, spentAt := none } })) :=
    ((Change.life s { s.life with fallbackAt := none, spentAt := none } rfl rfl).one.tail (.station _ .joining .none hs rfl (by simp)
      (keeps_of_participates rfl))).trans (takeShare_changes _)
  exact .ite (fun _ => h1.trans (enterActive_changes (by simp))) fun _ => h1

theorem enterIsolated_changes {s : State} (hs : s.life.state.plans = true) : Changes s (enterIsolated s) := by
  unfold enterIsolated
  dsimp only
  refine ((Change.life s { s.life with fallbackAt := some s.fallbackDue, spentAt := some s.spentDue } rfl rfl).one.tail
    (.station _ .isolated _ hs rfl ?_ (keeps_of_participates rfl))).trans (setGrant_changes _ _)
  (repeat' split) <;> simp

theorem enterSpent_changes {s : State} (hs : s.life.state.plans = true) : Changes s (enterSpent s) :=
  (Change.station s .isolated .spent hs rfl (by simp) (keeps_of_participates rfl)).one.trans (setGrant_changes _ _)

theorem enterFallback_changes {s : State} (hs : s.life.state.plans = true) : Changes s (enterFallback s) :=
  (Change.station s .isolated .fallback hs rfl (by simp) (keeps_of_participates rfl)).one.trans (setGrant_changes _ _)

/-- The line begun afresh is not idle. -/
theorem resetLine_changes (s : State) : Changes s (resetLine s) :=
  (Change.bus s { s.bus with recessive := 0, idle := false, endLeft := 0, assembly := .empty } (.same rfl) rfl
    fun _ h => by simp at h).one

/-- What every entry into LISTENING does once the station state is set. -/
theorem listen_changes (s : State) :
    Changes s (setGrant 0 { s with
      life := { s.life with
        listen := some (s.now + Config.listenCycles * s.params.cyclePeriod), tClean := some s.now, tAny := some s.now }
      sched := { s.sched with isolationCount := 0 } }) :=
  ((Change.life s { s.life with
      listen := some (s.now + Config.listenCycles * s.params.cyclePeriod), tClean := some s.now, tAny := some s.now }
      rfl rfl).one.tail (.isolationCount _ 0 (Nat.zero_le _))).trans (setGrant_changes 0 _)

theorem enterListening_changes {s : State} (hs : s.life.state = .dormant) : Changes s (enterListening s) :=
  ((resetLine_changes s).tail (.station _ .listening .none (by simp [hs, StationState.plans]) rfl (by simp)
    (by simp [hs, StationState.keeps, StationState.accepts, StationState.participates]))).trans (listen_changes _)

theorem enterLeaving_changes {s : State} (hs : s.life.state.leaves = true) : Changes s (enterLeaving s) :=
  ((Change.life s { s.life with listen := none, fallbackAt := none, spentAt := none } rfl rfl).one.tail (.leaving _ hs)).trans (raiseRequest_changes .leave 0 _)

theorem noteRoster_changes (before s : State) : Changes s (noteRoster before s) := by
  unfold noteRoster
  dsimp only
  have h1 : Changes s (if before.roster.overflow = s.roster.overflow then s
      else raiseNote (.overflow s.roster.overflow) s) := .ite (fun _ => .refl) fun _ => (Change.note s _).one
  exact .ite (fun _ => h1.tail (.note _ _)) fun _ => h1

theorem enterDormant_changes {s : State} (hs : s.life.state.plans = true) : Changes s (enterDormant s) := by
  unfold enterDormant
  dsimp only
  exact (((((((Change.shut s .dormant hs (.inl rfl)).one.tail (.clearRoster _)).tail
    (.isolationCount _ 0 (Nat.zero_le _))).trans (noteRoster_changes _ _)).trans (recomputeDigest_changes _))).trans
    (handOn_changes _ _ _)).trans (evalSettled_changes _)

theorem holdRoster_changes (s : State) : Changes s (holdRoster s) :=
  (Change.entries s (fun e => { e with forget := none }) fun _ => .of_eq rfl rfl rfl).one

theorem enterDuplicate_changes {s : State} (hs : s.life.state.plans = true) : Changes s (enterDuplicate s) :=
  ((((Change.life s { s.life with listen := none, fallbackAt := none, spentAt := none } rfl rfl).one.tail (.note _ _)).tail (.shut _ .duplicate hs (.inr rfl))).trans
    (holdRoster_changes _)).trans (setGrant_changes 0 _)

end Sys2Proof.Machine
end

section
/-! SUPPORT. The events as chains of changes, block by block, and every command but a fault of the storage with them. -/

namespace Sys2Proof.Machine

open Sys2Proof.Safety

/-! ### The roster's events -/

theorem handRoster_changes (before s : State) : Changes s (handRoster before s) :=
  (noteRoster_changes before s).trans (commit_changes before _)

/-- The trailer alone is answered (R98). -/
theorem answer_changes (s : State) (a : Trailer) : Changes s { s with bus := { s.bus with trailer := a } } :=
  (Change.bus s { s.bus with trailer := a } (.same rfl) rfl fun h => h).one

theorem takeClaim_changes {n : Station} {network : Word16} {c : ClaimPart} {st : Option StatusPart} {s : State}
    (hs : s.life.state ≠ .loading) (hown : n ≠ s.ownStation) (hc : c.inRange = true)
    (hg : ∀ p, st = some p → p.grant.toNat ≤ c.max.toNat) : Changes s (takeClaim n network c st s) := by
  unfold takeClaim
  refine .ite (fun hroom => ?_) fun _ => ?_
  · refine ((Change.put s (s.entryFrom n network c st) (s.roster.forgotten.erase n) hs hroom hown ?_ ?_
      List.erase_sublist).one).trans (answer_changes _ .accept)
    · unfold EntryLaw State.entryFrom State.classFor
      split <;> simp_all
    · rintro r hr
      cases hr
      have hgrant : (st.map (fun p => p.grant.toNat)).getD 0 ≤ c.max.toNat := by
        cases st with
        | none => exact Nat.zero_le _
        | some p => exact hg p rfl
      simpa [Report.InRange, hgrant] using (of_decide_eq_true hc)
  · exact (Change.rosterMarks s true _ _ (.up _) (.same _)).one.trans (answer_changes _ .refuse)

theorem hearNumber_changes {s : State} (n : Station) (hs : s.life.state ≠ .loading) : Changes s (hearNumber s n) := by
  unfold hearNumber
  refine .ite (fun _ => .refl) fun hnew => .ite (fun hroom => ?_) fun _ => ?_
  · simp only [not_or] at hnew
    obtain ⟨hown, -, -⟩ := hnew
    exact (Change.put s (s.hearsayEntry n) s.roster.forgotten hs (by simp [State.canHold, hroom]) hown trivial
      (fun r hr => by cases hr) (.refl _)).one
  · exact (Change.rosterMarks s true _ _ (.same _) (.same _)).one

theorem takeHearsay_changes {s : State} (n : Station) (quiet : BitVec 64) (hs : s.life.state ≠ .loading) :
    Changes s (takeHearsay n quiet s) := by
  refine .ite (fun hlive => ?_) fun _ => .refl
  clear hlive
  unfold takeQuietSet
  generalize (List.finRange 64).filter (inQuiet quiet) = numbers
  induction numbers generalizing s with
  | nil => exact .refl
  | cons m ms ih => exact (hearNumber_changes m hs).trans (ih (by simpa using hs))

theorem confirmSender_changes (n : Station) (digest : Word16) (s : State) : Changes s (confirmSender n digest s) :=
  (Change.entries s (fun e => if e.station = n ∧ e.cls = .live then
      { e with confirmed := decide (digest = s.planner.digest) } else e)
    fun e => by split <;> exact .of_eq rfl rfl rfl).one

theorem takeStatus_changes {n : Station} {network : Word16} {c : ClaimPart} {st : StatusPart} {s : State}
    (hs : s.life.state ≠ .loading) (hown : n ≠ s.ownStation) (hc : c.inRange = true)
    (hg : st.grant.toNat ≤ c.max.toNat) : Changes s (takeStatus n network c st s) := by
  unfold takeStatus
  dsimp only
  have h1 : Changes s (takeClaim n network c (some st) s) :=
    takeClaim_changes hs hown hc fun p hp => by cases hp; exact hg
  refine (((Changes.ite (fun _ => h1.trans (takeHearsay_changes n _ (by simpa using hs))) fun _ => h1).trans
    (handRoster_changes s _)).trans (confirmSender_changes _ _ _)).trans (evalSettled_changes _)

theorem takeAnnounce_changes {n : Station} {network : Word16} {c : ClaimPart} {s : State}
    (hs : s.life.state ≠ .loading) (hown : n ≠ s.ownStation) (hc : c.inRange = true) :
    Changes s (takeAnnounce n network c s) :=
  (((takeClaim_changes hs hown hc fun p hp => by cases hp).trans (handRoster_changes s _)).trans
    (raiseRequest_changes .status 0 _)).trans (evalSettled_changes _)

theorem takeLeave_changes (n : Station) (s : State) : Changes s (takeLeave n s) := by
  have h1 : Changes s (answerAccept s) := answer_changes s .accept
  exact .ite (fun _ => ((h1.tail (.drop _ n)).trans (handRoster_changes s _)).trans (evalSettled_changes _)) fun _ => h1

theorem Entry.refresh_keptAs (e : Entry) (now : Time) (forget : Timer) : e.KeptAs (e.refresh now forget) := by
  unfold Entry.refresh
  split
  · next q horigin hcls =>
    exact ⟨rfl, fun _ => by simp [EntryLaw, hcls],
      fun r hr => by cases hr; exact ⟨q, horigin, rfl, rfl, rfl, rfl⟩⟩
  · next q horigin _ =>
    refine ⟨rfl, fun _ => ?_, fun r hr => by cases hr; exact ⟨q, horigin, rfl, rfl, rfl, rfl⟩⟩
    unfold EntryLaw
    cases e.cls <;> trivial
  · exact .of_eq rfl rfl rfl

theorem refreshSender_changes (n : Station) (s : State) : Changes s (refreshSender n s) :=
  (Change.entries s (fun e => if e.station = n then e.refresh s.now s.forgetAt else e)
    fun e => by split; exacts [e.refresh_keptAs _ _, .of_eq rfl rfl rfl]).one

theorem judgeShed_changes (network : Word16) (excess : Current) (s : State) : Changes s (judgeShed network excess s) :=
  .ite (fun _ => applyShed_changes excess s) fun _ => (Change.rosterMarks s _ _ _ (.same _) (.up _)).one

theorem takeShed_changes (n : Station) (network : Word16) (excess : Current) (s : State) :
    Changes s (takeShed n network excess s) :=
  (((answer_changes s .accept).trans (refreshSender_changes n _)).trans (judgeShed_changes network excess _)).trans
    (commit_changes s _)

theorem takePeerFrame_changes {f : Frame} {s : State} (hs : s.life.state ≠ .loading) (hown : f.station ≠ s.ownStation)
    (hf : f.inRange = true) : Changes s (takePeerFrame f s) := by
  cases f with
  | shed n network excess => exact takeShed_changes n network _ s
  | leave n network serial => exact takeLeave_changes n s
  | announce n network c => exact takeAnnounce_changes hs hown hf
  | status n network c st =>
    simp only [Frame.inRange, Bool.and_eq_true, decide_eq_true_eq] at hf
    exact takeStatus_changes hs hown hf.1 hf.2

theorem reportPeerFrame_changes (s : State) : Changes s (reportPeerFrame s) := by
  have h1 : Changes s { s with sched := { s.sched with isolationCount := 0 } } :=
    (Change.isolationCount s 0 (Nat.zero_le _)).one
  exact .ite (fun h => h1.trans (enterJoining_changes (by simp at h; simp [h, StationState.plans]))) fun _ => h1

theorem Entry.countSilence_keptAs (e : Entry) (limit : Nat) (forget : Time) : e.KeptAs (e.countSilence limit forget) := by
  unfold Entry.countSilence
  split
  · next hlive =>
    split
    · refine ⟨rfl, fun _ => ?_, fun r hr => ⟨r, hr, rfl, rfl, rfl, rfl⟩⟩
      unfold EntryLaw Entry.fallQuiet
      cases e.origin <;> trivial
    · exact .of_eq rfl rfl rfl
  · exact .of_eq rfl rfl rfl

theorem countSilences_changes (s : State) : Changes s (countSilences s) :=
  .ite (fun _ => ((Change.entries s (fun e => e.countSilence s.params.silenceLimit s.params.forgetPeriod)
    fun e => e.countSilence_keptAs _ _).one.trans (handRoster_changes s _)).trans (evalSettled_changes _)) fun _ => .refl

theorem forgetEntry_changes {n : Station} {s : State} (hs : s.life.state ≠ .loading)
    (hn : hasEntry n s.roster.entries = true) : Changes s (forgetEntry n s) :=
  ((Change.forget s n hs hn _ rfl).one.trans (handRoster_changes s _)).trans (evalSettled_changes _)

/-- A forget timer runs only at an entry. -/
theorem hasEntry_of_forgetTimer {n : Station} {d : Time} {s : State} (h : s.forgetTimer n = some d) :
    hasEntry n s.roster.entries = true := by
  unfold State.forgetTimer State.entryOf at h
  unfold hasEntry
  split at h
  · next e he => simp [he]
  · cases h

/-! ### Frames on the bus -/

/-- A state in which the Bus Interface assembles frames is one in which plans are computed. -/
theorem plans_of_takesFrames {st : StationState} (h : st.takesFrames = true) : st.plans = true := by
  cases st <;> first | rfl | cases h

theorem ne_loading_of_plans {st : StationState} (h : st.plans = true) : st ≠ .loading := by
  rintro rfl; cases h

/-- A line with an assembly or an attempt on it is not idle (R88). -/
theorem not_idle_of_busy {s : State} (h : LineLaw s) (hb : s.bus.assembly ≠ .empty ∨ s.bus.attempt ≠ none) :
    s.bus.idle = false := by
  cases hi : s.bus.idle with
  | false => rfl
  | true =>
    obtain ⟨-, -, hassembly, hattempt⟩ := h hi
    rcases hb with hb | hb
    · exact absurd hassembly hb
    · exact absurd hattempt hb

theorem assembly_ne_empty_of_canTake {bytes : List Byte} {s : State} (h : s.canTake bytes = true) :
    s.bus.assembly ≠ .empty := by
  intro he; simp [State.canTake, Assembly.goesOnTo, he] at h

theorem attempt_ne_none_of_outcomeDue {s : State} (h : s.outcomeDue = true) : s.bus.attempt ≠ none := by
  intro he; simp [State.outcomeDue, he] at h

/-- A valid frame is taken only in a state that assembles frames, and only off a busy line. -/
theorem canTakeValid_spec {f : Frame} {bytes : List Byte} {s : State} (h : s.canTakeValid f bytes = true) :
    s.life.state.takesFrames = true ∧ (s.bus.assembly ≠ .empty ∨ s.bus.attempt ≠ none) := by
  rcases Bool.or_eq_true_iff.mp h with hc | hm
  · exact ⟨(Bool.and_eq_true_iff.mp hc).1, .inl (assembly_ne_empty_of_canTake hc)⟩
  · simp only [State.meetsOutcome, Bool.and_eq_true] at hm
    exact ⟨hm.1.1, .inr (attempt_ne_none_of_outcomeDue hm.2)⟩

/-- A damaged frame is taken only off a busy line. -/
theorem canTakeDamaged_busy {bytes : List Byte} {s : State} (h : s.canTakeDamaged bytes = true) :
    s.bus.assembly ≠ .empty ∨ s.bus.attempt ≠ none := by
  rcases Bool.or_eq_true_iff.mp h with hc | hm
  · exact .inl (assembly_ne_empty_of_canTake hc)
  · refine .inr fun he => ?_
    simp [State.overtakenBy, he] at hm

theorem markAttempt_changes (m : FirstFrame) (bytes : List Byte) (s : State) : Changes s (markAttempt m bytes s) := by
  refine .ite (fun _ => .refl) fun _ => (Change.bus s
    { s.bus with attempt := s.bus.attempt.map fun a => { a with first := m } } (.same rfl) Option.isSome_map ?_).one
  intro hline hidle
  obtain ⟨h1, h2, h3, h4⟩ := hline hidle
  exact ⟨h1, h2, h3, congrArg (Option.map _) h4⟩

/-- The end of a frame on a busy line. -/
theorem frameEnds_changes {s : State} (bytes : List Byte) (hb : s.bus.assembly ≠ .empty ∨ s.bus.attempt ≠ none) :
    Changes s (frameEnds bytes s) :=
  (Change.bus s { s.bus with
      recessive := countRecessive 0 (lineBitsOf bytes), endLeft := Config.slotBits + Config.endBits } (.same rfl) rfl
    fun hline hidle => absurd hidle (by simp [not_idle_of_busy hline hb])).one

theorem markAttempt_busy {m : FirstFrame} {bytes : List Byte} {s : State}
    (hb : s.bus.assembly ≠ .empty ∨ s.bus.attempt ≠ none) :
    (markAttempt m bytes s).bus.assembly ≠ .empty ∨ (markAttempt m bytes s).bus.attempt ≠ none := by
  simp only [← Option.isSome_iff_ne_none, markAttempt_isSome, markAttempt_frame] at hb ⊢
  exact hb

theorem countValid_changes (s : State) : Changes s (countValid s) :=
  (Change.bus s { s.bus with assembly := .empty, validReceived := bump s.bus.validReceived }
    ⟨.same _, .same _, .same _, .same _, .same _, .up _, .same _⟩ rfl
    fun hline hidle => by obtain ⟨h1, h2, -, h4⟩ := hline hidle; exact ⟨h1, h2, rfl, h4⟩).one

theorem takeValid_changes {f : Frame} {s : State} (hs : s.life.state.plans = true) (hf : f.inRange = true) :
    Changes s (takeValid f s) := by
  refine .ite (fun _ => ?_) fun hown => ?_
  · exact (answer_changes s .neither).trans (enterDuplicate_changes hs)
  · exact (takePeerFrame_changes (ne_loading_of_plans hs) hown hf).trans (reportPeerFrame_changes _)

theorem receiveValid_changes {f : Frame} {s : State} (linkFirst : Bool) (hs : s.life.state.plans = true)
    (hf : f.inRange = true) : Changes s (receiveValid f linkFirst s) := by
  have h1 := countValid_changes s
  exact .ite (fun _ => (h1.trans (frameEvent_changes false _)).trans (takeValid_changes (by simpa using hs) hf))
    fun _ => (h1.trans (takeValid_changes (by simpa using hs) hf)).trans (frameEvent_changes false _)

/-- A frame that passes every check is in range (R96). -/
theorem inRange_of_judgeFrame {bytes : List Byte} {f : Frame} (h : judgeFrame bytes = some (.inl f)) :
    f.inRange = true := by
  unfold judgeFrame at h
  obtain ⟨⟨ident, payload, check⟩, -, h⟩ := Option.map_eq_some_iff.mp h
  dsimp only at h
  split at h
  · split at h
    · split at h
      · next hf => cases h; exact hf
      · cases h
    · cases h
  · cases h

theorem takeFrame_changes {f : Frame} {bytes : List Byte} (linkFirst : Bool) (s : State) (hf : f.inRange = true) :
    Changes s (takeFrame f bytes linkFirst s) := by
  refine .ite (fun hc => ?_) fun _ => .refl
  obtain ⟨htakes, hbusy⟩ := canTakeValid_spec hc
  exact ((markAttempt_changes .peer bytes s).trans (frameEnds_changes bytes (markAttempt_busy hbusy))).trans
    (receiveValid_changes linkFirst (by simpa using plans_of_takesFrames htakes) hf)

theorem judgeFrame_of_frameOfKind {k : Kind} {bytes : List Byte} {f : Frame} (h : frameOfKind k bytes = some f) :
    judgeFrame bytes = some (.inl f) ∧ f.kind = k := by
  unfold frameOfKind validFrame at h
  split at h
  · next g hg =>
    split at hg
    · split at h
      · next hk =>
        cases hg; cases h
        exact ⟨by assumption, hk⟩
      · cases h
    · cases hg
  · cases h

theorem receiveKind_changes (k : Kind) (bytes : List Byte) (linkFirst : Bool) (s : State) :
    Changes s (receiveKind k bytes linkFirst s) := by
  unfold receiveKind
  split
  · next f hf => exact takeFrame_changes linkFirst s (inRange_of_judgeFrame (judgeFrame_of_frameOfKind hf).1)
  · exact .refl

theorem abandon_changes {s : State} (level : Bool) (hb : s.bus.assembly ≠ .empty) : Changes s (abandon level s) :=
  (Change.bus s { s.bus with
      assembly := .abandoned, trailer := .neither
      recessive := if s.bus.assembly.violationLevel level then 6 else 0 } (.same rfl) rfl
    fun hline hidle => absurd hidle (by simp [not_idle_of_busy hline (.inl hb)])).one

/-- A damaged frame is counted (R101). -/
theorem countDamaged_changes (s : State) :
    Changes s { s with bus := { s.bus with damagedReceived := bump s.bus.damagedReceived } } :=
  (Change.bus s { s.bus with damagedReceived := bump s.bus.damagedReceived }
    ⟨.same _, .same _, .same _, .same _, .same _, .same _, .up _⟩ rfl fun hline => hline).one

theorem cutShort_changes (level : Bool) (s : State) : Changes s (cutShort level s) := by
  unfold cutShort
  split
  · next ha => exact abandon_changes level (by simp [ha])
  · next ha =>
    exact ((abandon_changes level (by simp [ha])).trans (countDamaged_changes _)).trans (frameEvent_changes true _)
  · exact .refl
  · exact .refl

theorem receiveDamaged_changes (s : State) : Changes s (receiveDamaged s) :=
  (Change.bus s { s.bus with
      assembly := .empty, trailer := .refuse, damagedReceived := bump s.bus.damagedReceived }
    ⟨.same _, .same _, .same _, .same _, .same _, .same _, .up _⟩ rfl
    fun hline hidle => by obtain ⟨h1, h2, -, h4⟩ := hline hidle; exact ⟨h1, h2, rfl, h4⟩).one.trans
  (frameEvent_changes true _)

theorem takeDamaged_changes (bytes : List Byte) (s : State) : Changes s (takeDamaged bytes s) :=
  .ite (fun h => ((markAttempt_changes .broken bytes s).trans
      (frameEnds_changes bytes (markAttempt_busy (canTakeDamaged_busy h.2)))).trans (receiveDamaged_changes _))
    fun _ => .refl

theorem becomeIdle_changes {n : Nat} {s : State} (hn : Config.idleCount ≤ n) (ha : s.bus.attempt = none) :
    Changes s (becomeIdle n s) :=
  (Change.bus s { s.bus with recessive := n, idle := true, endLeft := 0, assembly := .empty } (.same rfl) rfl
    fun _ _ => ⟨hn, rfl, rfl, ha⟩).one

theorem carryBits_changes {s : State} (bits : List Bool) (ha : s.bus.attempt = none) : Changes s (carryBits bits s) := by
  unfold carryBits
  split
  · next n hn => exact becomeIdle_changes (idleAfter_count hn) ha
  · exact .refl

theorem beginAssembly_changes (s : State) : Changes s (beginAssembly s) :=
  (Change.bus s { s.bus with
      recessive := 0, idle := false, endLeft := 0, assembly := .good .peer [] 1, trailer := .neither } (.same rfl) rfl
    fun _ hidle => by simp at hidle).one

/-! ### Own attempts -/

theorem startOffered_changes (s : State) : Changes s (startOffered s) := by
  unfold startOffered
  split
  · exact .refl
  · next k r hoffer =>
    unfold State.offer at hoffer
    split at hoffer
    · cases hoffer
    · next k' hk =>
      obtain ⟨q, hq, hpair⟩ := Option.map_eq_some_iff.mp hoffer
      cases hpair
      exact (Change.attempt s _ _ hq).one

theorem reportOutcome_changes (o : AttemptOutcome) (s : State) : Changes s (reportOutcome o s) := by
  cases o with
  | lost => exact .refl
  | accepted | unheard => exact frameEvent_changes false s
  | partly | aborted => exact frameEvent_changes true s

theorem countIsolation_changes (o : AttemptOutcome) (s : State) : Changes s (countIsolation o s) := by
  refine .ite (fun _ => ?_) fun _ => .refl
  cases o with
  | unheard => exact (Change.isolationCount s _ (Nat.min_le_left _ _)).one
  | accepted | partly => exact (Change.isolationCount s 0 (Nat.zero_le _)).one
  | lost | aborted => exact .refl

theorem setMarks_changes (o : AttemptOutcome) (s : State) : Changes s (setMarks o s) := by
  cases o with
  | accepted => exact (Change.life s { s.life with tClean := some s.now, tAny := some s.now } rfl rfl).one
  | partly => exact (Change.life s { s.life with tAny := some s.now } rfl rfl).one
  | unheard | lost | aborted => exact .refl

theorem lifecycleOutcome_changes {o : AttemptOutcome} {k : Kind} {limit dropped : Bool} {s : State}
    (hlimit : limit = true → s.life.state.plans = true) : Changes s (lifecycleOutcome o k limit dropped s) := by
  have h1 := setMarks_changes o s
  refine .ite (fun h => h1.trans (enterIsolated_changes (by simpa using hlimit h))) fun _ =>
    .ite (fun h => h1.trans (enterJoining_changes ?_)) fun _ =>
    .ite (fun h => h1.trans (enterDormant_changes ?_)) fun _ => h1
  · rw [h.1]; rfl
  · rw [h.1]; rfl

theorem limitReached_plans {o : AttemptOutcome} {s : State} (h : s.limitReached o = true) : s.life.state.plans = true := by
  simp only [State.limitReached, Bool.and_eq_true, Bool.or_eq_true, decide_eq_true_eq] at h
  rcases h.1.2 with hs | hs <;> rw [hs] <;> rfl

@[simp] theorem finishAttempt_frame (o : AttemptOutcome) (a : InFlight) (s : State) :
    (finishAttempt o a s).now = s.now ∧ (finishAttempt o a s).pending = s.pending ∧
    (finishAttempt o a s).restartInput = s.restartInput ∧ (finishAttempt o a s).cutOutput = s.cutOutput ∧
    (finishAttempt o a s).attention = s.attention ∧
    (finishAttempt o a s).bus = { s.bus.count o with attempt := none, trailer := s.trailerAfterAttempt } ∧
    (finishAttempt o a s).sched.inFlight = none ∧
    (finishAttempt o a s).sched.isolationCount = s.sched.isolationCount ∧
    (finishAttempt o a s).roster = s.roster ∧ (finishAttempt o a s).planner = s.planner ∧
    (finishAttempt o a s).grantCtl = s.grantCtl ∧ (finishAttempt o a s).life = s.life ∧
    (finishAttempt o a s).meter = s.meter ∧ (finishAttempt o a s).enf = s.enf ∧
    (finishAttempt o a s).link = s.link ∧ (finishAttempt o a s).loader = s.loader ∧
    (finishAttempt o a s).host = s.host := by
  simp [finishAttempt]

/-- The end of an attempt: its bookkeeping, and then its hand-off (R112). -/
theorem endAttempt_eq (o : AttemptOutcome) (a : InFlight) (s : State) :
    endAttempt o a s = lifecycleOutcome o a.kind ((finishAttempt o a s).limitReached o) (o.drops a.request)
      (countIsolation o (reportOutcome o (finishAttempt o a s))) := rfl

theorem endAttempt_changes {o : AttemptOutcome} {a : InFlight} {s : State} (ha : s.sched.inFlight = some a) :
    Changes s (endAttempt o a s) := by
  rw [endAttempt_eq]
  refine (((Change.attemptEnds s o a ha).one.trans (reportOutcome_changes o _)).trans (countIsolation_changes o _)).trans
    (lifecycleOutcome_changes fun h => ?_)
  simpa using limitReached_plans h

/-- An attempt that can end stands on the line and in flight. -/
theorem ownAttempt_eq_some {s : State} {a : Attempt} {r : InFlight} (h : s.ownAttempt = some (a, r)) :
    s.bus.attempt = some a ∧ s.sched.inFlight = some r := by
  unfold State.ownAttempt at h
  split at h
  · next hb hf => cases h; exact ⟨hb, hf⟩
  · cases h

theorem openAttempt_eq_some {s : State} {a : Attempt} {r : InFlight} (h : s.openAttempt = some (a, r)) :
    s.ownAttempt = some (a, r) ∧ s.firstFrame ≠ .broken := by
  unfold State.openAttempt at h
  split at h
  · cases h
  · next hf => exact ⟨h, hf⟩

theorem slotsRead_changes {s : State} (accept refuse : Bool) (f : Frame) (ha : s.bus.attempt ≠ none) :
    Changes s (slotsRead accept refuse f s) :=
  (Change.bus s { s.bus with
      recessive := countRecessive 0 (f.lineBits ++ [!accept, !refuse]), endLeft := Config.endBits } (.same rfl) rfl
    fun hline hidle => absurd hidle (by simp [not_idle_of_busy hline (.inr ha)])).one

theorem takeOutcome_changes (accept refuse : Bool) (s : State) : Changes s (takeOutcome accept refuse s) := by
  unfold takeOutcome
  split
  · exact .refl
  · next a r hopen =>
    obtain ⟨hattempt, hflight⟩ := ownAttempt_eq_some (openAttempt_eq_some hopen).1
    exact (slotsRead_changes accept refuse a.frame (by simp [hattempt])).trans (endAttempt_changes (by simpa using hflight))

theorem keepAssembling_changes {s : State} (o : AssemblyOrigin) (f : Frame) (pos : Nat) (ha : s.bus.attempt ≠ none) :
    Changes s (keepAssembling o f pos s) :=
  (Change.bus s (keepAssembling o f pos s).bus (.same rfl) rfl
    fun hline hidle => absurd hidle (by simp [not_idle_of_busy hline (.inr ha)])).one

theorem loseAt_changes (pos : Nat) (s : State) : Changes s (loseAt pos s) := by
  unfold loseAt
  split
  · exact .refl
  · next a r hown =>
    obtain ⟨hattempt, hflight⟩ := ownAttempt_eq_some hown
    exact .ite (fun _ => (keepAssembling_changes _ _ pos (by simp [hattempt])).trans
      (endAttempt_changes (by simpa using hflight))) fun _ => .refl

theorem abortAt_changes (pos : Nat) (s : State) : Changes s (abortAt pos s) := by
  unfold abortAt
  split
  · exact .refl
  · next a r hown =>
    obtain ⟨hattempt, hflight⟩ := ownAttempt_eq_some hown
    exact .ite (fun _ => (keepAssembling_changes _ _ pos (by simp [hattempt])).trans
      (endAttempt_changes (by simpa using hflight))) fun _ => .refl

theorem takeDrop_changes (cause : DropCause) (s : State) : Changes s (takeDrop cause s) := by
  cases cause with
  | aborted pos => exact abortAt_changes pos s
  | partly => exact takeOutcome_changes true true s

theorem takeFrameEvent_changes (ev : FrameEvent) (s : State) : Changes s (takeFrameEvent ev s) := by
  cases ev with
  | received bytes linkFirst =>
    change Changes s (takeReceived bytes linkFirst s)
    unfold takeReceived
    split
    · next f hf => exact takeFrame_changes linkFirst s (inRange_of_judgeFrame hf)
    · exact takeDamaged_changes bytes s
    · exact .refl
  | cutShort level => exact cutShort_changes level s
  | outcome accept refuse => exact takeOutcome_changes accept refuse s
  | aborted pos => exact abortAt_changes pos s

/-! ### The Meter and the Enforcement Unit -/

theorem noteSense_changes (before s : State) : Changes s (noteSense before s) :=
  .ite (fun _ => .refl) fun _ => (Change.note s _).one

theorem endTrim_changes (s : State) : Changes s (endTrim s) := .ite (fun _ => (Change.meter s _).one) fun _ => .refl

theorem judgeWatch_changes (d : Time) (s : State) : Changes s (judgeWatch d s) := by
  unfold judgeWatch
  (repeat' split) <;> first | exact .refl | exact (Change.meter s _).one

theorem judgeTrim_changes (d : Time) (s : State) : Changes s (judgeTrim d s) :=
  .ite (fun _ => (endTrim_changes s).trans (judgeWatch_changes d _)) fun _ => endTrim_changes s

theorem slowPart_changes (d : Time) (s : State) : Changes s (slowPart d s) :=
  ((Change.meter s _).one.trans (judgeTrim_changes d (formSlowFigures s))).tail (.meter _ _)

theorem applyExcess_changes (feeder : Reading) (s : State) : Changes s (applyExcess feeder s) := by
  unfold applyExcess
  split
  · exact (applyShed_changes _ s).trans (raiseRequest_changes .shed _ _)
  · exact .refl

theorem takeUpdate_changes (load feeder : Reading) (d : Time) (s : State) : Changes s (takeUpdate load feeder d s) := by
  unfold takeUpdate
  dsimp only
  have h1 : Changes s (noteSense s (judgeOverload feeder (withdrawFigures (takeReadings load feeder s)))) :=
    (Change.meter s (judgeOverload feeder (withdrawFigures (takeReadings load feeder s))).meter).one.trans
      (noteSense_changes s _)
  exact ((Changes.ite (fun _ => h1.trans (slowPart_changes d _)) fun _ => h1).tail (.meter _ _)).trans
    (applyExcess_changes feeder _)

theorem holdEnforcement_changes (s : State) : Changes s (holdEnforcement s) :=
  (Change.enfTimers s { s.enf with overdraw := s.enf.overdraw.hold s.now, recovery := s.enf.recovery.hold s.now } rfl).one

theorem resumeEnforcement_changes (s : State) : Changes s (resumeEnforcement s) :=
  (Change.enfTimers s { s.enf with
    overdraw := s.enf.overdraw.resume s.now, recovery := s.enf.recovery.resume s.now } rfl).one

theorem enterOver_changes (s : State) : Changes s (enterOver s) :=
  ((Change.enfTimers s { s.enf with overdraw := .running (s.now + s.params.overdrawTime * Config.sec) } rfl).one.tail
    (.enforce _ .over)).trans (noteCut_changes _)

theorem leaveOver_changes (s : State) : Changes s (leaveOver s) :=
  ((Change.enfTimers s { s.enf with overdraw := .stopped } rfl).one.tail (.enforce _ .clear)).trans (noteCut_changes _)

theorem judgeFigure_changes (v : Current) (s : State) : Changes s (judgeFigure v s) := by
  unfold judgeFigure
  split
  · exact .ite (fun _ => enterOver_changes s) fun _ => .refl
  · exact .ite (fun _ => resumeEnforcement_changes s) fun _ => leaveOver_changes s
  · exact .refl
  · exact resumeEnforcement_changes s

theorem judgeLoad_changes (s : State) : Changes s (judgeLoad s) := by
  unfold judgeLoad
  split
  · exact judgeFigure_changes _ s
  · exact holdEnforcement_changes s

theorem meterUpdate_changes (load feeder : Reading) (d : Time) (s : State) : Changes s (meterUpdate load feeder d s) :=
  ((takeUpdate_changes load feeder d s).trans (commitDemand_changes s _)).trans (judgeLoad_changes _)

theorem enterCut_changes (s : State) : Changes s (enterCut s) :=
  ((((Change.enfTimers s { s.enf with overdraw := .stopped } rfl).one.tail (.enforce _ .cut)).tail (.meter _ _)).trans
    (commitDemand_changes s _)).trans (noteCut_changes _)

theorem leaveCooling_changes (s : State) : Changes s (leaveCooling s) :=
  (((Change.enfTimers s { s.enf with recovery := .stopped } rfl).one.tail (.enforce _ .clear)).trans
    (commitDemand_changes s _)).trans (noteCut_changes _)

/-! ### Timers -/

theorem cycleExpires_changes (d : Time) (s : State) : Changes s (cycleExpires d s) :=
  ((Change.life s { s.life with cycle := some (d + s.params.cyclePeriod) } rfl rfl).one.trans
    (countSilences_changes _)).trans (raiseRequest_changes .status 0 _)

theorem listenEnds_changes {s : State} (hs : s.life.state = .listening) : Changes s (listenEnds s) :=
  ((Change.life s { s.life with listen := none } rfl rfl).one.trans
    (enterJoining_changes (by simp [hs, StationState.plans]))).trans (raiseRequest_changes .announce 0 _)

theorem shedHoldEnds_changes (s : State) : Changes s (shedHoldEnds s) :=
  ((Change.grantCtl s _).one.tail (.note _ _)).trans (commit_changes s _)

theorem fallbackReached_changes {s : State} (hs : s.life.state = .isolated) : Changes s (fallbackReached s) :=
  .ite (fun _ => enterSpent_changes (by simp [hs, StationState.plans]))
    fun _ => enterFallback_changes (by simp [hs, StationState.plans])

/-! ### The host line and the end of a load -/

theorem discardHostFrame_changes (s : State) : Changes s (discardHostFrame s) := by
  unfold discardHostFrame
  split
  · exact .refl
  · exact (Change.hostLine s { s.host with rx := .hunting, gap := none, framesDiscarded := bump s.host.framesDiscarded }
      rfl rfl rfl (.up _)).one

theorem setRate_changes (r : LineRate) (s : State) : Changes s (setRate r s) := by
  unfold setRate
  dsimp only
  exact (Changes.ite (fun _ => .refl) fun _ => discardHostFrame_changes s).tail (.loader _ _ rfl rfl rfl)

theorem applyRateDue_changes (s : State) : Changes s (applyRateDue s) := by
  unfold applyRateDue
  split
  · exact .refl
  · exact setRate_changes _ s

/-- The image and the rate go to different fields. -/
theorem setRate_placeImage (r : LineRate) (img : List Byte) (s : State) :
    setRate r (placeImage img s) = placeImage img (setRate r s) := by
  unfold setRate placeImage discardHostFrame
  dsimp only
  split <;> [rfl; (split <;> rfl)]

theorem startTimers_changes (s : State) : Changes s (startTimers s) :=
  (Change.life s { s.life with cycle := some (s.now + s.params.cyclePeriod) } rfl rfl).one.tail (.meter _ _)

theorem imageHeld_changes {s : State} (img : List Byte) (replyFollows : Bool) (hs : s.life.state = .loading) :
    Changes s (imageHeld img replyFollows s) := by
  have load : ∀ v : State, v.life.state = .loading →
      Changes v (evalSettled (handOn true true (startTimers (enterListening
        (takeStationRecord (paramsOf img) (placeImage img v)))))) := fun v hv =>
    ((((Change.startUp v img hv).one.trans (listen_changes _)).trans (startTimers_changes _)).trans
      (handOn_changes true true _)).trans (evalSettled_changes _)
  unfold imageHeld
  cases replyFollows with
  | true =>
    exact (Change.loader s { s.loader with rateDue := some (lineRateOf (paramsOf img).lineRate) } rfl rfl rfl).one.trans
      (load _ hs)
  | false =>
    simp only [Bool.false_eq_true, if_false, setRate_placeImage]
    exact (setRate_changes _ s).trans (load _ (by simpa using hs))

theorem endLoad_changes {s : State} (img : List Byte) (replyFollows : Bool) (hs : s.life.state = .loading) :
    Changes s (endLoad img replyFollows s) := by
  unfold endLoad
  split
  · exact imageHeld_changes img replyFollows hs
  all_goals exact (Change.fault s _).one

theorem takeHeader_changes {s : State} (b0 b1 : Byte) (hs : s.life.state = .loading) : Changes s (takeHeader b0 b1 s) :=
  .ite (fun _ => (Change.awaitsHost s hs).one.tail (.note _ _)) fun _ =>
    .ite (fun _ => (Change.loader s { s.loader with readStep := .body b0 b1 } rfl rfl rfl).one)
      fun _ => (Change.fault s .format).one

theorem takeBody_changes {s : State} (rest : List Byte) (hs : s.life.state = .loading) : Changes s (takeBody rest s) := by
  unfold takeBody
  split
  · exact endLoad_changes _ _ hs
  · exact .refl
  · exact .refl

theorem reverify_changes (d : Time) (s : State) : Changes s (reverify d s) :=
  .ite (fun _ => (Change.loader s { s.loader with reverify := some (d + Config.reverifyPeriod) } rfl rfl rfl).one)
    fun _ => (Change.fault s .heldCopy).one

/-! ### Host commands -/

/-- The states in which LEAVE is taken (R79). -/
theorem leaves_of_gate {s : State} (h : s.gate .leave = none) : s.life.state.leaves = true := by
  unfold State.gate at h
  cases hs : s.life.state <;>
    simp_all [loadingGate, faultGate, duplicateGate, runningGate, StationState.leaves]

/-- JOIN is taken in DORMANT alone (R81). -/
theorem dormant_of_gate {s : State} (h : s.gate .join = none) : s.life.state = .dormant := by
  unfold State.gate at h
  cases hs : s.life.state <;> simp_all [loadingGate, faultGate, duplicateGate, runningGate]

/-- CONFIG is taken in LOADING alone, while the Loader awaits the host (R153). -/
theorem loading_of_gate {s : State} (h : s.gate .config = none) :
    s.life.state = .loading ∧ s.loader.stage = .awaitingHost := by
  unfold State.gate at h
  cases hs : s.life.state <;> simp_all [loadingGate, faultGate, duplicateGate, runningGate]

theorem setHostDemand_changes (v : Current) (s : State) : Changes s (setHostDemand v s) :=
  .ite (fun _ => .refl) fun _ =>
    ((Change.planner s { s.planner with claim := { s.planner.claim with hostDemand := v } } rfl).one.tail
      (.meter _ _)).trans (commitDemand_changes s _)

theorem actDemand_changes (v : Current) (s : State) : Changes s (actDemand v s).after := by
  unfold actDemand
  split
  · exact setHostDemand_changes v s
  · exact .refl

theorem actPeer_after (n : Byte) (s : State) : (actPeer n s).after = s := by
  unfold actPeer; (repeat' split) <;> rfl

theorem actPlan_after (k : Byte) (s : State) : (actPlan k s).after = s := by
  unfold actPlan; (repeat' split) <;> rfl

theorem actNote_changes (s : State) : Changes s (actNote s).after := by
  unfold actNote
  split
  · exact .refl
  · next n rest hq => exact (Change.noteTaken s n rest hq).one

theorem actClearCut_changes (s : State) : Changes s (actClearCut s).after := by
  unfold actClearCut
  split
  · exact ((Change.enfTimers s { s.enf with recovery := .running (s.now + s.params.recoveryHold * Config.sec) } rfl).one.tail
      (.enforce _ .cooling)).trans (noteCut_changes _)
  all_goals exact .refl

theorem restartWindow_changes (s : State) : Changes s (restartWindow s) :=
  (Change.link s { s.link with events := 0, damaged := 0 } fun _ => Nat.le_refl 0).one

theorem act_changes {c : Cmd} {s : State} (payload : List Byte) (hg : s.gate c = none) :
    Changes s (act c payload s).after := by
  unfold act
  split
  · exact .refl
  · exact actDemand_changes _ s
  · rw [actPeer_after]
  · rw [actPlan_after]
  · exact .refl
  · exact actNote_changes s
  · exact actClearCut_changes s
  · exact enterLeaving_changes (leaves_of_gate hg)
  · exact (enterListening_changes (dormant_of_gate hg)).trans (restartWindow_changes _)
  · exact .refl
  · exact endLoad_changes payload true (loading_of_gate hg).1
  all_goals exact .refl

theorem answerTo_changes (cmd : HostCommand) (s : State) : Changes s (answerTo cmd s).after := by
  unfold answerTo
  split
  · exact .refl
  · split
    · exact .refl
    · next hg =>
      split
      · exact act_changes _ hg
      · exact .refl

theorem takeCommand_changes (cmd : HostCommand) (s : State) : Changes s (takeCommand cmd s) :=
  (answerTo_changes cmd s).tail (.hostLine _ _ rfl rfl rfl (.same _))

theorem enterCommand_changes (cmd : HostCommand) (s : State) : Changes s (enterCommand cmd s) := by
  unfold enterCommand
  split
  · exact takeCommand_changes cmd s
  · exact (Change.hostLine s { s.host with waiting := some cmd } rfl rfl rfl (.same _)).one
  · exact (Change.hostLine s { s.host with overrun := true, framesDiscarded := bump s.host.framesDiscarded }
      rfl rfl rfl (.up _)).one

theorem endHostFrame_changes (s : State) : Changes s (endHostFrame s) :=
  (Change.hostLine s { s.host with rx := .hunting, gap := none } rfl rfl rfl (.same _)).one

theorem takeWaiting_changes (s : State) : Changes s (takeWaiting s) := by
  unfold takeWaiting
  split
  · exact .refl
  · exact (Change.hostLine s { s.host with waiting := none } rfl rfl rfl (.same _)).one.trans (takeCommand_changes _ _)

theorem takeHostByte_changes (b : Byte) (s : State) : Changes s (takeHostByte b s) := by
  have collects : ∀ bytes, Changes s (collect bytes s) := fun bytes =>
    (Change.hostLine s { s.host with rx := .collecting bytes, gap := some (s.now + Config.gapLimit) }
      rfl rfl rfl (.same _)).one
  unfold takeHostByte
  split
  · exact .ite (fun _ => collects []) fun _ => .refl
  · exact .ite (fun _ => discardHostFrame_changes s) fun _ =>
      .ite (fun _ => .ite (fun _ => (endHostFrame_changes s).trans (enterCommand_changes _ _))
        fun _ => discardHostFrame_changes s) fun _ => collects _

end Sys2Proof.Machine
end

section
/-! SUPPORT. Every command but a fault of the storage is a chain of changes. -/

namespace Sys2Proof.Machine

open Sys2Proof.Safety

theorem onlyIf_changes {c : State → Bool} {f : State → State} {s : State} (hf : c s = true → Changes s (f s)) :
    Changes s (onlyIf c f s) := .ite hf fun _ => .refl

theorem arrive_changes {t : Time} {s u : State} {f : State → State} (hf : Changes (s.atTime t) (f (s.atTime t)))
    (h : arrive t s f = .next u) : Changes s u :=
  arrive_inv (P := Changes s) (Change.time s t).one (fun _ => (Change.time s t).one.trans hf) h

theorem expire_changes {timer : Timer} {s u : State} {f : Time → State → State}
    (hf : ∀ d, timer = some d → Changes (s.atTime d) (f d (s.atTime d))) (h : expire timer s f = .next u) : Changes s u :=
  expire_inv (P := Changes s) .refl (fun d hd _ => (Change.time s d).one.trans (hf d hd)) h

theorem commandArrives_changes {t : Time} {code : Byte} {p : List Byte} {s u : State}
    (h : commandArrives t code p s = .next u) : Changes s u :=
  arrive_changes (onlyIf_changes fun _ => (endHostFrame_changes _).trans (enterCommand_changes _ _)) h

/-- The end of a reply takes the host's restart, or frees the port for the waiting command (R161, R165). -/
theorem replyEnds_changes (s : State) : Changes s (replyEnds s) ∨ replyEnds s = restartWith .host s := by
  unfold replyEnds finishReply
  split
  · exact .inl .refl
  · split
    · exact .inr rfl
    · exact .inl (((Change.hostLine s { s.host with inProgress := none } rfl rfl rfl (.same _)).one.trans
        (applyRateDue_changes _)).trans (takeWaiting_changes _))

/-- The effect of every command but a fault of the storage is a chain of changes, or a restart. -/
theorem exec_changes {c : Instr} {s u : State} (hc : ∀ t i b, c ≠ .reverifyTimerExpiry (.storageFault t i b))
    (h : exec c s = .next u) : Changes s u ∨ Restarted s u := by
  cases c with
  | powerOn t => cases h; exact .inr ⟨.power, t, s.restartInput, rfl⟩
  | restartInputAsserted t =>
    simp only [exec, execRestartInputAsserted, Host.Outcome.next.injEq] at h
    split at h
    · exact .inl (h ▸ (Change.time s t).one)
    · exact .inr ⟨s.loader.cause, t, true, h.symm⟩
  | restartInputRelease t =>
    simp only [exec, execRestartInputRelease, Host.Outcome.next.injEq] at h
    split at h
    · exact .inr ⟨.pin, t, false, h.symm⟩
    · exact .inl (h ▸ (Change.time s t).one)
  | headerRead t b0 b1 =>
    refine .inl (arrive_changes (onlyIf_changes fun hc => takeHeader_changes b0 b1 ?_) h)
    simp only [State.reads, Bool.and_eq_true, decide_eq_true_eq] at hc
    exact hc.1.1
  | imageRead t rest =>
    refine .inl (arrive_changes (onlyIf_changes fun hc => takeBody_changes rest ?_) h)
    simp only [State.reads, Bool.and_eq_true, decide_eq_true_eq] at hc
    exact hc.1.1
  | reverifyTimerExpiry ev =>
    cases ev with
    | check => exact .inl (expire_changes (fun d _ => reverify_changes d _) h)
    | storageFault t i b => exact absurd rfl (hc t i b)
  | state t p | demand t p | peer t p | plan t p | counts t p | note t p | clearCut t p | leave t p | join t p
  | restart t p | config t p => exact .inl (commandArrives_changes h)
  | unknownCommand t code p =>
    simp only [exec, execUnknownCommand] at h
    split at h
    · exact .inl (commandArrives_changes h)
    · exact .inl (arrive_changes .refl h)
  | hostFrameDiscarded t bytes =>
    refine .inl (arrive_changes (onlyIf_changes ?_) h)
    exact fun _ => (Change.hostLine _ { (s.atTime t).host with
      rx := .hunting, gap := none, framesDiscarded := bump s.host.framesDiscarded } rfl rfl rfl (.up _)).one
  | gapTimerExpiry => exact .inl (expire_changes (fun _ _ => discardHostFrame_changes _) h)
  | byteWithoutStopBit t => exact .inl (arrive_changes (discardHostFrame_changes _) h)
  | replySent t =>
    refine arrive_inv (P := fun v => Changes s v ∨ Restarted s v) (.inl (Change.time s t).one) (fun _ => ?_) h
    exact (replyEnds_changes (s.atTime t)).imp (Change.time s t).one.trans fun he => ⟨.host, t, s.restartInput, he⟩
  | busIdle line =>
    refine .inl (arrive_changes (onlyIf_changes fun hc => carryBits_changes _ ?_) h)
    simp only [State.lineFree, Bool.and_eq_true, Option.isNone_iff_eq_none] at hc
    exact hc.1.1.2
  | attemptStart t => exact .inl (arrive_changes (onlyIf_changes fun _ => startOffered_changes _) h)
  | attemptLost t pos => exact .inl (arrive_changes (loseAt_changes pos _) h)
  | attemptAborted t pos => exact .inl (arrive_changes (abortAt_changes pos _) h)
  | attemptOutcomeTaken t a r => exact .inl (arrive_changes (takeOutcome_changes a r _) h)
  | requestDropped t cause => exact .inl (arrive_changes (onlyIf_changes fun _ => takeDrop_changes cause _) h)
  | isolationLimit t r => exact .inl (arrive_changes (onlyIf_changes fun _ => takeOutcome_changes false r _) h)
  | fallbackDeadline =>
    refine .inl (expire_changes (fun _ _ => onlyIf_changes fun hc => fallbackReached_changes ?_) h)
    simp only [Bool.and_eq_true, decide_eq_true_eq] at hc
    exact hc.1
  | spentDeadline =>
    refine .inl (expire_changes (fun _ _ => onlyIf_changes fun hc => enterSpent_changes ?_) h)
    simp only [Bool.and_eq_true, decide_eq_true_eq] at hc
    rw [hc.1]; rfl
  | statusFrame t b l | announceFrame t b l | leaveFrame t b l | shedFrame t b l =>
    exact .inl (arrive_changes (receiveKind_changes _ b l _) h)
  | frameCutShort v => exact .inl (arrive_changes (onlyIf_changes fun _ => cutShort_changes _ _) h)
  | frameDamaged t b => exact .inl (arrive_changes (takeDamaged_changes b _) h)
  | cycleTimerExpiry => exact .inl (expire_changes (fun d _ => cycleExpires_changes d _) h)
  | entryGoesQuiet n => exact .inl (expire_changes (fun d _ => onlyIf_changes fun _ => cycleExpires_changes d _) h)
  | listenTimerExpiry =>
    exact .inl (expire_changes (fun _ _ => onlyIf_changes fun hc => listenEnds_changes (of_decide_eq_true hc)) h)
  | forgetTimerExpiry n =>
    exact .inl (expire_changes (fun d hd => onlyIf_changes fun hc => forgetEntry_changes
      (ne_loading_of_plans (plans_of_takesFrames hc)) (hasEntry_of_forgetTimer hd)) h)
  | raiseHoldExpiry =>
    simp only [exec, execRaiseHoldExpiry] at h
    refine .inl (expire_changes ?_ h)
    exact fun _ _ => (Change.grantCtl _ { s.grantCtl with raiseHold := .expired }).one.trans (weighRaise_changes _)
  | shedHoldExpiry => exact .inl (expire_changes (fun _ _ => shedHoldEnds_changes _) h)
  | statusSpacingTimerExpiry =>
    simp only [exec, execStatusSpacingTimerExpiry] at h
    refine .inl (expire_changes ?_ h)
    exact fun _ _ => (Change.spacing _ none).one
  | windowClose t ev => exact .inl (arrive_changes (onlyIf_changes fun _ => takeFrameEvent_changes ev _) h)
  | fastUpdate l f => exact .inl (expire_changes (fun d _ => meterUpdate_changes l f d _) h)
  | slowUpdate l f | channelFaultClears l f | overloadBegins l f =>
    exact .inl (expire_changes (fun d _ => onlyIf_changes fun _ => meterUpdate_changes l f d _) h)
  | overdrawTimerExpiry => exact .inl (expire_changes (fun _ _ => onlyIf_changes fun _ => enterCut_changes _) h)
  | recoveryTimerExpiry => exact .inl (expire_changes (fun _ _ => onlyIf_changes fun _ => leaveCooling_changes _) h)
  | startBit t => exact .inl (arrive_changes (onlyIf_changes fun _ => beginAssembly_changes _) h)
  | hostByteReceived t b => exact .inl (arrive_changes (takeHostByte_changes b _) h)

/-! ### Laws along a step -/

/-- A law that every change keeps, a restart brings and a fault of the storage keeps too, is kept by every step. -/
theorem step_keeps {P : State → Prop} (hqueue : ∀ s rest, P s → P { s with pending := rest })
    (hP : ∀ s u, Change s u → P s → P u) (hrestart : ∀ cause s, P (restartWith cause s)) {s u : State}
    (hfault : (∀ s i b, P s → P (upsetCopy i b s)) ∨ Claims.StorageKept s) (h : step s = .next u) (hs : P s) : P u := by
  unfold step at h
  split at h
  · cases h; exact hs
  · next c rest hpending =>
    have hs' := hqueue s rest hs
    by_cases hc : ∃ t i b, c = .reverifyTimerExpiry (.storageFault t i b)
    · obtain ⟨t, i, b, rfl⟩ := hc
      rcases hfault with hfault | hkept
      · exact arrive_inv (hP _ _ (.time _ t) hs') (fun _ => hfault _ _ _ (hP _ _ (.time _ t) hs')) h
      · exact absurd hpending (hkept t i b rest)
    · rcases exec_changes (fun t i b he => hc ⟨t, i, b, he⟩) h with hchain | ⟨cause, t, input, rfl⟩
      · exact hchain.keep hP hs'
      · exact hrestart _ _

end Sys2Proof.Machine
end

section
/-! SUPPORT. The laws that every single change keeps: outputs, queue, requests, line, counters, window, plan, stage,
phase. -/

namespace Sys2Proof.Machine

open Sys2Proof.Safety

/-! ### What FAULT writes (R83, R102, R114) -/

/-- The fields that FAULT writes. -/
theorem enterFault_writes (r : FaultReason) (s : State) :
    (enterFault r s).life =
      { s.life with state := .fault, phase := .none, listen := none, fallbackAt := none, spentAt := none } ∧
    (enterFault r s).grantCtl = { s.grantCtl with grant := 0 } ∧
    (enterFault r s).sched = { s.sched with
      shed := none, leave := none, announce := none, status := none, inFlight := none, spacing := none } ∧
    (enterFault r s).bus = { s.bus with assembly := .empty, attempt := none, trailer := .neither } ∧
    (enterFault r s).planner = { s.planner with plan := none } ∧
    (enterFault r s).roster =
      { s.roster with entries := s.roster.entries.map (fun e => { e with forget := none }) } ∧
    (enterFault r s).meter = { s.meter with update := none, watch := none } ∧
    (enterFault r s).enf =
      { s.enf with overdraw := s.enf.overdraw.hold s.now, recovery := s.enf.recovery.hold s.now } ∧
    (enterFault r s).loader = { s.loader with stage := .failed, readStep := .idle, reason := r, reverify := none } := by
  have hsched : ∀ v : State, v.life.state = .fault → (setGrant 0 v).sched = v.sched := fun v hv =>
    setGrant_sched_discarded (by rw [hv]; rfl)
  refine ⟨by simp [enterFault], by simp [enterFault], ?_, ?_, ?_, ?_, ?_, ?_, by simp [enterFault]⟩
  · unfold enterFault; rw [hsched _ (by simp)]; simp [emptyRequests]
  · simp [enterFault, silenceBus]
  · simp [enterFault]
  · simp [enterFault, holdRoster]
  · simp [enterFault]
  · simp [enterFault, holdEnforcement]

/-- The first part of the entry into FAULT: the two notifications, the stage and the station state (R83, R158). -/
def faultAnnounced (r : FaultReason) (s : State) : State :=
  setStation .fault .none { raiseNote (.fault r) { s with
      loader := { s.loader with stage := .failed, readStep := .idle, reason := r, reverify := none } } with
    life := { s.life with listen := none, fallbackAt := none, spentAt := none } }

/-- The second part: every block is held, and an attempt on the line broken off (R102, R114, R124, R140). -/
def withdrawnForFault (s : State) : State :=
  { holdEnforcement (holdRoster (emptyRequests (silenceBus s))) with
    bus := { (silenceBus s).bus with attempt := none }
    sched := { (emptyRequests s).sched with inFlight := none }
    planner := { s.planner with plan := none }
    meter := { s.meter with update := none, watch := none } }

/-- FAULT is entered in these two parts, and last with a grant of 0. -/
theorem enterFault_eq (r : FaultReason) (s : State) :
    enterFault r s = setGrant 0 (withdrawnForFault (faultAnnounced r s)) := rfl

/-- What the second part leaves as it was. -/
@[simp] theorem withdrawnForFault_frame (s : State) :
    (withdrawnForFault s).cutOutput = s.cutOutput ∧ (withdrawnForFault s).attention = s.attention ∧
    (withdrawnForFault s).life = s.life ∧ (withdrawnForFault s).enf.state = s.enf.state ∧
    (withdrawnForFault s).bus.framesSent = s.bus.framesSent ∧ (withdrawnForFault s).bus.lost = s.bus.lost ∧
    (withdrawnForFault s).bus.aborted = s.bus.aborted ∧ (withdrawnForFault s).bus.partly = s.bus.partly ∧
    (withdrawnForFault s).bus.unheard = s.bus.unheard ∧
    (withdrawnForFault s).bus.validReceived = s.bus.validReceived ∧
    (withdrawnForFault s).bus.damagedReceived = s.bus.damagedReceived ∧
    (withdrawnForFault s).sched.requestsDropped = s.sched.requestsDropped ∧
    (withdrawnForFault s).roster.admissionsRefused = s.roster.admissionsRefused ∧
    (withdrawnForFault s).roster.shedIgnored = s.roster.shedIgnored ∧
    (withdrawnForFault s).grantCtl = s.grantCtl ∧ (withdrawnForFault s).host = s.host := by
  repeat (first | exact rfl | refine ⟨rfl, ?_⟩)

/-- FAULT drives the CUT output (R147). -/
theorem enterFault_cutLaw (r : FaultReason) {s : State} (h : CutLaw s) : CutLaw (enterFault r s) := by
  have hset : CutLaw (faultAnnounced r s) := setStation_cutLaw _ _ _ h
  rw [enterFault_eq]
  simpa [CutLaw, State.cutCondition, State.cutFlag] using hset

/-! ### The CUT output (R147) -/

theorem cutLaw_congr {s u : State} (h : CutLaw s) (hc : u.cutOutput = s.cutOutput) (hl : u.life.state = s.life.state)
    (he : u.enf.state = s.enf.state) : CutLaw u := by
  unfold CutLaw State.cutCondition State.cutFlag at h ⊢
  rw [hc, hl, he, h]

theorem Change.cutLaw {s u : State} (h : Change s u) (hs : CutLaw s) : CutLaw u := by
  cases h with
  | fault r => exact enterFault_cutLaw r hs
  | startUp img => exact setStation_cutLaw _ _ _ (by simpa [CutLaw, State.cutCondition, State.cutFlag] using hs)
  | station st ph => exact setStation_cutLaw st ph s hs
  | leaving =>
    have hset := setStation_cutLaw .leaving .none s hs
    exact cutLaw_congr hset (by simp [leaveWithGrantZero]) (by simp [leaveWithGrantZero]) (by simp [leaveWithGrantZero])
  | shut st => exact cutLaw_congr (setStation_cutLaw st .none s hs) (by simp) (by simp) (by simp)
  | life l hst => exact cutLaw_congr hs rfl hst rfl
  | enforce e => rfl
  | enfTimers e he => exact cutLaw_congr hs rfl rfl he
  | request k x => exact cutLaw_congr hs (by simp) (by simp) (by simp)
  | attemptEnds o a => exact cutLaw_congr hs (by simp) (by simp) (by simp)
  | _ => exact hs

/-! ### The notification queue and ATTENTION (R176, R178) -/

/-- The queue and ATTENTION of the Host Port, as two laws on one pair. -/
def NotesLaw (s : State) : Prop := AttentionLaw s ∧ QueueLaw s

theorem enterNote_ne_nil (n : Notification) (q : List Notification) : enterNote n q ≠ [] := by
  unfold enterNote
  split
  · next h => cases q with
    | nil => cases h
    | cons m rest => simp
  · split <;> simp

/-- A queue that holds a notification of the kind keeps its length and its kinds (R176). -/
theorem enterNote_kinds_of_present {n : Notification} {q : List Notification}
    (h : q.any (fun m => m.kindCode == n.kindCode) = true) :
    (enterNote n q).map Notification.kindCode = q.map Notification.kindCode := by
  unfold enterNote
  rw [if_pos h, List.map_map]
  refine List.map_congr_left fun m _ => ?_
  by_cases hm : m.kindCode = n.kindCode
  · simp [hm]
  · simp [hm]

/-- A notification that enters the queue keeps it at most 8, one of each kind (R176). -/
theorem enterNote_law (n : Notification) {q : List Notification} (hl : q.length ≤ Config.queueCapacity)
    (hk : (q.map Notification.kindCode).Nodup) :
    (enterNote n q).length ≤ Config.queueCapacity ∧ ((enterNote n q).map Notification.kindCode).Nodup := by
  by_cases hany : q.any (fun m => m.kindCode == n.kindCode) = true
  · have hkinds := enterNote_kinds_of_present hany
    have hlength := congrArg List.length hkinds
    simp only [List.length_map] at hlength
    exact ⟨hlength ▸ hl, hkinds ▸ hk⟩
  · have habsent : ∀ m ∈ q, m.kindCode ≠ n.kindCode := by simpa using hany
    have hnew : ∀ l : List Notification, l.Sublist q → ((l ++ [n]).map Notification.kindCode).Nodup := by
      intro l hsub
      rw [List.map_append, List.map_singleton, List.nodup_append]
      refine ⟨hk.sublist (hsub.map _), List.nodup_singleton _, ?_⟩
      intro k hkl m hm he
      obtain ⟨x, hx, rfl⟩ := List.mem_map.mp hkl
      exact habsent x (hsub.subset hx) (he.trans (List.mem_singleton.mp hm))
    unfold enterNote
    rw [if_neg hany]
    split
    · next hroom => exact ⟨by simpa using hroom, hnew q (.refl _)⟩
    · next hfull =>
      have hlen : (q.tail ++ [n]).length ≤ Config.queueCapacity := by
        have hpos : 0 < q.length := lt_of_lt_of_le (by decide) (not_lt.mp hfull)
        rw [List.length_append, List.length_tail, List.length_singleton, Nat.sub_add_cancel hpos]
        exact hl
      exact ⟨hlen, hnew q.tail (List.tail_sublist q)⟩

theorem raiseNote_notesLaw (n : Notification) {s : State} (h : QueueLaw s) : NotesLaw (raiseNote n s) := by
  obtain ⟨hl, hk, -⟩ := h
  obtain ⟨hl', hk'⟩ := enterNote_law n hl hk
  have hne := enterNote_ne_nil n s.host.queue
  exact ⟨by simp [AttentionLaw, hne], hl', hk', fun h => absurd h hne⟩

theorem notesLaw_congr {s u : State} (h : NotesLaw s) (ha : u.attention = s.attention) (hq : u.host.queue = s.host.queue)
    (hl : u.host.lostFlag = s.host.lostFlag) : NotesLaw u := by
  unfold NotesLaw AttentionLaw QueueLaw at h ⊢
  rw [ha, hq, hl]
  exact h

theorem setStation_notesLaw (st : StationState) (ph : Phase) {s : State} (h : NotesLaw s) :
    NotesLaw (setStation st ph s) := by
  unfold setStation
  split
  · exact h
  · exact raiseNote_notesLaw _ h.2

theorem setGrant_notesLaw (g : Current) {s : State} (h : NotesLaw s) : NotesLaw (setGrant g s) := by
  unfold setGrant
  split
  · exact h
  · exact notesLaw_congr (raiseNote_notesLaw (.grant g) (s := { s with
      grantCtl := { s.grantCtl with grant := g } }) h.2) (by simp) (by simp) (by simp)

theorem enterFault_notesLaw (r : FaultReason) {s : State} (h : NotesLaw s) : NotesLaw (enterFault r s) := by
  have hraised := raiseNote_notesLaw (.fault r) (s := { s with
    loader := { s.loader with stage := .failed, readStep := .idle, reason := r, reverify := none } }) h.2
  have hset : NotesLaw (faultAnnounced r s) := setStation_notesLaw _ _ (notesLaw_congr hraised rfl rfl rfl)
  rw [enterFault_eq]
  exact setGrant_notesLaw 0 (notesLaw_congr hset (by simp) (by simp) (by simp))

theorem Change.notesLaw {s u : State} (h : Change s u) (hs : NotesLaw s) : NotesLaw u := by
  cases h with
  | note n => exact raiseNote_notesLaw n hs.2
  | noteTaken n rest hq =>
    obtain ⟨-, hl, hk, -⟩ := hs
    rw [hq] at hl hk
    exact ⟨rfl, Nat.le_of_succ_le hl, (List.nodup_cons.mp hk).2, fun _ => rfl⟩
  | hostLine h hq hl => exact notesLaw_congr hs rfl hq hl
  | fault r => exact enterFault_notesLaw r hs
  | startUp img => exact setStation_notesLaw _ _ (notesLaw_congr hs (by simp) (by simp) (by simp))
  | station st ph => exact setStation_notesLaw st ph hs
  | leaving => exact notesLaw_congr (setGrant_notesLaw 0 (setStation_notesLaw .leaving .none hs)) rfl rfl rfl
  | shut st => exact notesLaw_congr (setStation_notesLaw st .none hs) rfl rfl rfl
  | request k x => exact notesLaw_congr hs (by simp) (by simp) (by simp)
  | attemptEnds o a => exact notesLaw_congr hs (by simp) (by simp) (by simp)
  | _ => exact hs

/-! ### The isolation phase (R66, R74) -/

theorem Change.phaseLaw {s u : State} (h : Change s u) (hs : PhaseLaw s) : PhaseLaw u := by
  cases h with
  | fault r => simp [PhaseLaw, enterFault_writes]
  | startUp img => simp [PhaseLaw]
  | station st ph _ _ hph => simpa [PhaseLaw] using hph
  | leaving => simp [PhaseLaw, leaveWithGrantZero]
  | shut st _ hto => rcases hto with rfl | rfl <;> simp [PhaseLaw]
  | life l hst hph => simpa [PhaseLaw, hst, hph] using hs
  | request k x => simpa [PhaseLaw] using hs
  | attemptEnds o a => simpa [PhaseLaw] using hs
  | _ => exact hs

/-! ### The loader stage (T 10-3) -/

theorem stageLaw_congr {s u : State} (h : StageLaw s) (hst : u.life.state = s.life.state) (hs : u.loader.stage = s.loader.stage)
    (hc : u.loader.heldCopy.isSome = s.loader.heldCopy.isSome)
    (hn : u.loader.networkDigest = s.loader.networkDigest) : StageLaw u := by
  have hcopy : s.loader.heldCopy = none → u.loader.heldCopy = none := by
    simp only [← Option.isNone_iff_eq_none, ← Option.not_isSome]; rw [hc]; exact id
  unfold StageLaw RunsOnImage at h ⊢
  rw [hst, hs, hc, hn]
  cases hl : s.life.state <;> simp only [hl] at h ⊢ <;> first | exact h | exact ⟨h.1, hcopy h.2.1, h.2.2⟩

/-- Outside LOADING and FAULT the law says that the Loader runs on a valid image. -/
theorem stageLaw_iff_of_plans {s : State} (h : s.life.state.plans = true) : StageLaw s ↔ RunsOnImage s := by
  unfold StageLaw
  cases hl : s.life.state <;> simp_all [StationState.plans]

theorem Change.stageLaw {s u : State} (h : Change s u) (hs : StageLaw s) : StageLaw u := by
  have stays : ∀ v : State, s.life.state.plans = true → v.life.state.plans = true → v.loader = s.loader →
      StageLaw v := by
    intro v hp hv hl
    have hrun := (stageLaw_iff_of_plans hp).mp hs
    rw [stageLaw_iff_of_plans hv]
    unfold RunsOnImage at hrun ⊢
    rwa [hl]
  cases h with
  | loader l hst hc hn => exact stageLaw_congr hs rfl hst (congrArg _ hc) hn
  | awaitsHost hl =>
    unfold StageLaw at hs ⊢
    rw [hl] at hs
    simp only [hl]
    exact ⟨.inr trivial, hs.2⟩
  | startUp img hl => rw [stageLaw_iff_of_plans (by simp [StationState.plans])]; simp [RunsOnImage, placeImage]
  | fault r => simp [StageLaw, enterFault_writes]
  | station st ph hfrom hto => exact stays _ hfrom (by simpa using hto) (by simp)
  | leaving hl =>
    refine stays _ ?_ (by simp [leaveWithGrantZero, StationState.plans]) (by simp [leaveWithGrantZero])
    cases hst : s.life.state <;> simp_all [StationState.leaves, StationState.plans]
  | shut st hfrom hto => exact stays _ hfrom (by rcases hto with rfl | rfl <;> simp [StationState.plans]) (by simp)
  | life l hst => exact stageLaw_congr hs hst rfl rfl rfl
  | request k x => exact stageLaw_congr hs (by simp) (by simp) (by simp) (by simp)
  | attemptEnds o a => exact stageLaw_congr hs (by simp) (by simp) (by simp) (by simp)
  | _ => exact hs

/-! ### The plan table (R13, R14) -/

theorem planLaw_congr {s u : State} (h : PlanLaw s) (hst : u.life.state.plans = s.life.state.plans) (hp : u.planner.plan = s.planner.plan) : PlanLaw u := by
  unfold PlanLaw at h ⊢
  rwa [hst, hp]

/-- A state outside LOADING and FAULT keeps the law of a plan that stands. -/
theorem planLaw_of_plans {s u : State} (h : PlanLaw s) (hst : u.life.state.plans = true) (hp : u.planner.plan = s.planner.plan) : PlanLaw u :=
  ⟨fun p hq => h.1 p (hp ▸ hq), fun hn => absurd hst (by simp [hn])⟩

theorem Change.planLaw {s u : State} (h : Change s u) (hs : PlanLaw s) : PlanLaw u := by
  cases h with
  | startUp img => exact planLaw_of_plans hs (by simp [StationState.plans]) (by simp)
  | fault r => exact ⟨fun p hp => by simp [enterFault_writes] at hp, fun _ => by simp [enterFault_writes]⟩
  | station st ph _ hto => exact planLaw_of_plans hs (by simpa using hto) (by simp)
  | leaving => exact planLaw_of_plans hs (by simp [leaveWithGrantZero, StationState.plans]) (by simp [leaveWithGrantZero])
  | shut st _ hto =>
    exact planLaw_of_plans hs (by rcases hto with rfl | rfl <;> simp [StationState.plans]) (by simp)
  | life l hst => exact planLaw_congr hs (congrArg _ hst) rfl
  | planner p hp => exact planLaw_congr hs rfl hp
  | plan hst =>
    exact ⟨fun p hp => by cases hp; exact planNow_planSumLaw s, fun hn => absurd hst (by simpa using hn)⟩
  | request k x => exact planLaw_congr hs (by simp) (by simp)
  | attemptEnds o a => exact planLaw_congr hs (by simp) (by simp)
  | _ => exact hs

/-! ### The window and the line (R88, R116) -/

theorem Change.windowLaw {s u : State} (h : Change s u) (hs : WindowLaw s) : WindowLaw u := by
  cases h with
  | link l hl => exact hl hs
  | fault r => simpa [WindowLaw] using hs
  | startUp img => simpa [WindowLaw] using hs
  | station st ph => simpa [WindowLaw] using hs
  | leaving => simpa [WindowLaw, leaveWithGrantZero] using hs
  | shut st => simpa [WindowLaw] using hs
  | request k x => simpa [WindowLaw] using hs
  | attemptEnds o a => simpa [WindowLaw] using hs
  | _ => exact hs

/-- Where the bus is not idle the law says nothing. -/
theorem lineLaw_of_not_idle {s : State} (h : s.bus.idle = false) : LineLaw s := fun hi => by simp [h] at hi

theorem lineLaw_congr {s u : State} (h : u.bus = s.bus) (hs : LineLaw s) : LineLaw u := by
  unfold LineLaw at hs ⊢
  rwa [h]

theorem Change.lineLaw {s u : State} (h : Change s u) (hs : LineLaw s) : LineLaw u := by
  cases h with
  | startUp img => exact lineLaw_of_not_idle (by simp)
  | fault r =>
    intro hi
    obtain ⟨h1, h2, -, -⟩ := hs (by simpa [enterFault_writes] using hi)
    simp [enterFault_writes, h1, h2]
  | station st ph => exact lineLaw_congr (by simp) hs
  | leaving => exact lineLaw_congr (by simp [leaveWithGrantZero]) hs
  | shut st =>
    intro hi
    obtain ⟨h1, h2, -, h4⟩ := hs (by simpa using hi)
    simp [h1, h2, h4]
  | request k x => exact lineLaw_congr (by simp) hs
  | attempt k r => exact lineLaw_of_not_idle rfl
  | attemptEnds o a =>
    intro hi
    simp only [finishAttempt_frame] at hi ⊢
    cases o <;> exact ⟨(hs hi).1, (hs hi).2.1, (hs hi).2.2.1, trivial⟩
  | bus b _ _ hl => exact hl hs
  | _ => exact hs

/-! ### The request list (R72, R104, R105, R110, R111, R114) -/

theorem attemptLaw_congr {s u : State} (h : AttemptLaw s) (hf : u.sched.inFlight = s.sched.inFlight)
    (ha : u.bus.attempt.isSome = s.bus.attempt.isSome) : AttemptLaw u := by
  unfold AttemptLaw at h ⊢
  rw [hf, ha, h]

theorem Change.attemptLaw {s u : State} (h : Change s u) (hs : AttemptLaw s) : AttemptLaw u := by
  cases h with
  | startUp img => exact attemptLaw_congr hs (by simp) (by simp)
  | fault r => simp [AttemptLaw, enterFault_writes]
  | station st ph => exact attemptLaw_congr hs (by simp) (by simp)
  | leaving => exact attemptLaw_congr hs (by simp [leaveWithGrantZero]) (by simp [leaveWithGrantZero])
  | shut st => exact attemptLaw_congr hs (by simp) (by simp)
  | request k x => exact attemptLaw_congr hs (by simp) (by simp)
  | attempt k r => rfl
  | attemptEnds o a => simp [AttemptLaw]
  | bus b _ ha => exact attemptLaw_congr hs rfl ha
  | _ => exact hs

theorem Change.isolationLaw {s u : State} (h : Change s u) (hs : IsolationLaw s) : IsolationLaw u := by
  cases h with
  | isolationCount n hn => exact hn
  | startUp img => simpa [IsolationLaw] using hs
  | fault r => simpa [IsolationLaw] using hs
  | station st ph => simpa [IsolationLaw] using hs
  | leaving => simpa [IsolationLaw, leaveWithGrantZero] using hs
  | shut st => simpa [IsolationLaw] using hs
  | request k x => simpa [IsolationLaw] using hs
  | attempt k r => cases k <;> simpa [IsolationLaw, startAttempt, Scheduler.setSlot] using hs
  | attemptEnds o a => simpa [IsolationLaw] using hs
  | _ => exact hs

@[simp] theorem slot_setSlot (c : Scheduler) (k j : Kind) (r : Option Request) :
    (c.setSlot k r).slot j = if j = k then r else c.slot j := by
  cases k <;> cases j <;> rfl

@[simp] theorem inFlight_setSlot (c : Scheduler) (k : Kind) (r : Option Request) :
    (c.setSlot k r).inFlight = c.inFlight := by cases k <;> rfl

theorem keeps_of_accepts {st : StationState} {k : Kind} (h : st.accepts k = true) : st.keeps k = true := by
  simp [StationState.keeps, h]

theorem requestLaw_congr {s u : State} (h : RequestLaw s) (hsl : u.sched.slot = s.sched.slot) (hf : u.sched.inFlight = s.sched.inFlight)
    (hk : ∀ k, s.life.state.keeps k = true → u.life.state.keeps k = true) : RequestLaw u := by
  unfold RequestLaw at h ⊢
  rw [hsl, hf]
  exact ⟨fun k r hr => ⟨hk k (h.1 k r hr).1, (h.1 k r hr).2⟩, h.2⟩

/-- A slot that is written anew with a request of at most 3 retries, where the state keeps its kind. -/
theorem requestLaw_setSlot {s : State} {k : Kind} {r : Request} (hk : s.life.state.keeps k = true)
    (hr : r.retry ≤ Config.retryLimit) (h : RequestLaw s) :
    RequestLaw { s with sched := s.sched.setSlot k (some r) } := by
  refine ⟨fun j q hq => ?_, by simpa using h.2⟩
  rw [slot_setSlot] at hq
  split at hq
  · next hj => cases hq; subst hj; exact ⟨hk, hr⟩
  · exact h.1 j q hq

theorem raiseRequest_requestLaw (k : Kind) (x : Current) {s : State} (h : RequestLaw s) :
    RequestLaw (raiseRequest k x s) := by
  unfold raiseRequest
  split
  · next ha =>
    split
    · exact requestLaw_setSlot (keeps_of_accepts ha) (Nat.zero_le _) h
    · next r hr => exact requestLaw_setSlot (keeps_of_accepts ha) (h.1 k r hr).2 h
  · exact h

theorem returnRequest_requestLaw {k : Kind} {r : Request} (hr : r.retry ≤ Config.retryLimit) {s : State}
    (h : RequestLaw s) : RequestLaw (returnRequest k r s) := by
  unfold returnRequest
  split
  · next hk =>
    split
    · exact requestLaw_setSlot hk hr h
    · next q hq => exact requestLaw_setSlot hk (Nat.max_le.mpr ⟨hr, (h.1 k q hq).2⟩) h
  · exact h

/-- An empty list with nothing in flight. -/
theorem requestLaw_of_empty {s : State} (hs : ∀ k, s.sched.slot k = none)
    (hf : ∀ a, s.sched.inFlight = some a → a.request.retry ≤ Config.retryLimit) : RequestLaw s :=
  ⟨fun k _ hr => (nomatch (hs k).symm.trans hr), hf⟩

theorem finishAttempt_requestLaw {o : AttemptOutcome} {a : InFlight} {s : State} (ha : s.sched.inFlight = some a)
    (h : RequestLaw s) : RequestLaw (finishAttempt o a s) := by
  unfold finishAttempt
  have hretry := h.2 a ha
  generalize hv : ({ s with
      bus := { s.bus.count o with attempt := none, trailer := s.trailerAfterAttempt }
      sched := { s.sched with inFlight := none } } : State) = v
  have hlaw : RequestLaw v := by
    subst hv
    exact ⟨fun k r hr => h.1 k r (by revert hr; cases k <;> exact id), fun b hb => (nomatch hb)⟩
  have hdisposed : RequestLaw (disposeRequest o a v) := by
    unfold disposeRequest
    split
    · exact hlaw
    · exact hlaw
    · exact returnRequest_requestLaw hretry hlaw
    all_goals
      split
      · exact requestLaw_congr hlaw rfl rfl (fun _ => id)
      · next hd =>
        refine returnRequest_requestLaw ?_ hlaw
        simp only [AttemptOutcome.drops, AttemptOutcome.retried, Bool.true_and, decide_eq_true_eq, not_le] at hd
        exact hd
  unfold startSpacing
  split
  · exact requestLaw_congr hdisposed rfl rfl (fun _ => id)
  · exact hdisposed

theorem Change.requestLaw {s u : State} (h : Change s u) (hs : RequestLaw s) : RequestLaw u := by
  have ofSched : ∀ v : State, v.sched = s.sched → (∀ k, s.life.state.keeps k = true → v.life.state.keeps k = true) →
      RequestLaw v := fun v hv hk => requestLaw_congr hs (by rw [hv]) (by rw [hv]) hk
  have noAttempt : ∀ b, s.sched.inFlight = some b → b.request.retry ≤ Config.retryLimit := hs.2
  cases h with
  | startUp img hl => exact ofSched _ (by simp) (by simp [hl, StationState.keeps, StationState.accepts,
      StationState.participates])
  | fault r =>
    refine requestLaw_of_empty (fun k => ?_) (fun a ha => ?_)
    · cases k <;> simp [enterFault_writes, Scheduler.slot]
    · simp [enterFault_writes] at ha
  | station st ph _ _ _ hkeeps => exact ofSched _ (by simp) (by simpa using hkeeps)
  | leaving =>
    refine ⟨fun k r hr => ?_, by simpa [leaveWithGrantZero] using hs.2⟩
    cases k with
    | announce | status => cases hr
    | shed =>
      have hr' : s.sched.slot .shed = some r := by simpa [leaveWithGrantZero, Scheduler.slot] using hr
      exact ⟨by simp [leaveWithGrantZero, StationState.keeps], (hs.1 .shed r hr').2⟩
    | leave =>
      have hr' : s.sched.slot .leave = some r := by simpa [leaveWithGrantZero, Scheduler.slot] using hr
      exact ⟨by simp [leaveWithGrantZero, StationState.keeps, StationState.accepts], (hs.1 .leave r hr').2⟩
  | shut st => exact requestLaw_of_empty (fun k => by cases k <;> simp [Scheduler.slot]) (by simpa using noAttempt)
  | life l hst => exact ofSched _ rfl (by simp [hst])
  | request k x => exact raiseRequest_requestLaw k x hs
  | isolationCount n => exact requestLaw_congr hs rfl rfl (fun _ => id)
  | spacing d => exact requestLaw_congr hs rfl rfl (fun _ => id)
  | attempt k r hr =>
    refine ⟨fun j q hq => ?_, fun a ha => by cases ha; exact (hs.1 k r hr).2⟩
    have hq' : (s.sched.setSlot k none).slot j = some q := hq
    rw [slot_setSlot] at hq'
    split at hq'
    · cases hq'
    · exact hs.1 j q hq'
  | attemptEnds o a ha => exact finishAttempt_requestLaw ha hs
  | _ => exact ofSched _ rfl fun _ => id

/-! ### The counters (00_scope, Counters) -/

/-- The counters of the bus stand within their width. -/
def BusInterface.Bounded (b : BusInterface) : Prop :=
  b.framesSent ≤ Config.counterMax ∧ b.lost ≤ Config.counterMax ∧ b.aborted ≤ Config.counterMax ∧
  b.partly ≤ Config.counterMax ∧ b.unheard ≤ Config.counterMax ∧ b.validReceived ≤ Config.counterMax ∧
  b.damagedReceived ≤ Config.counterMax

/-- The twelve counters, block by block. -/
theorem counterLaw_iff (s : State) : CounterLaw s ↔ s.bus.Bounded ∧ s.roster.admissionsRefused ≤ Config.counterMax ∧
    s.sched.requestsDropped ≤ Config.counterMax ∧ s.roster.shedIgnored ≤ Config.counterMax ∧
    s.host.framesDiscarded ≤ Config.counterMax ∧ s.host.notesLost ≤ Config.counterMax := by
  simp only [CounterLaw, BusInterface.Bounded, and_assoc]

theorem BusInterface.CountsOn.bounded {a b : BusInterface} (h : a.CountsOn b) (ha : a.Bounded) : b.Bounded := by
  obtain ⟨h1, h2, h3, h4, h5, h6, h7⟩ := ha
  exact ⟨h.framesSent.le h1, h.lost.le h2, h.aborted.le h3, h.partly.le h4, h.unheard.le h5, h.validReceived.le h6,
    h.damagedReceived.le h7⟩

theorem counterLaw_congr {s u : State} (h : CounterLaw s) (hb : s.bus.CountsOn u.bus)
    (ha : Counted s.roster.admissionsRefused u.roster.admissionsRefused)
    (hd : Counted s.sched.requestsDropped u.sched.requestsDropped)
    (hi : Counted s.roster.shedIgnored u.roster.shedIgnored)
    (hf : Counted s.host.framesDiscarded u.host.framesDiscarded) (hn : Counted s.host.notesLost u.host.notesLost) : CounterLaw u := by
  rw [counterLaw_iff] at h ⊢
  obtain ⟨h1, h2, h3, h4, h5, h6⟩ := h
  exact ⟨hb.bounded h1, ha.le h2, hd.le h3, hi.le h4, hf.le h5, hn.le h6⟩

theorem raiseNote_counterLaw (n : Notification) {s : State} (h : CounterLaw s) : CounterLaw (raiseNote n s) := by
  refine counterLaw_congr h (.same rfl) (.same _) (.same _) (.same _) (.same _) ?_
  change Counted s.host.notesLost (if discardsOldest n s.host.queue then bump s.host.notesLost else s.host.notesLost)
  split
  · exact .up _
  · exact .same _

/-- The counters of two states are the same. -/
theorem counterLaw_of_eq {s u : State} (h : CounterLaw s) (hb : (u.bus.framesSent, u.bus.lost, u.bus.aborted, u.bus.partly, u.bus.unheard, u.bus.validReceived,
      u.bus.damagedReceived) = (s.bus.framesSent, s.bus.lost, s.bus.aborted, s.bus.partly, s.bus.unheard,
      s.bus.validReceived, s.bus.damagedReceived))
    (hr : (u.roster.admissionsRefused, u.roster.shedIgnored) = (s.roster.admissionsRefused, s.roster.shedIgnored))
    (hd : u.sched.requestsDropped = s.sched.requestsDropped) (hf : u.host.framesDiscarded = s.host.framesDiscarded)
    (hn : u.host.notesLost = s.host.notesLost) : CounterLaw u := by
  simp only [Prod.mk.injEq] at hr
  exact counterLaw_congr h (.same hb) (.inl hr.1) (.inl hd) (.inl hr.2) (.inl hf) (.inl hn)

theorem setStation_counterLaw (st : StationState) (ph : Phase) {s : State} (h : CounterLaw s) :
    CounterLaw (setStation st ph s) := by
  unfold setStation
  split
  · exact h
  · exact raiseNote_counterLaw _ h

theorem setGrant_counterLaw (g : Current) {s : State} (h : CounterLaw s) : CounterLaw (setGrant g s) := by
  unfold setGrant
  split
  · exact h
  · exact counterLaw_of_eq (raiseNote_counterLaw (.grant g) (s := { s with
      grantCtl := { s.grantCtl with grant := g } }) h) (by simp) (by simp) (by simp) (by simp) (by simp)

theorem enterFault_counterLaw (r : FaultReason) {s : State} (h : CounterLaw s) : CounterLaw (enterFault r s) := by
  have hraised := raiseNote_counterLaw (.fault r) (s := { s with
    loader := { s.loader with stage := .failed, readStep := .idle, reason := r, reverify := none } }) h
  have hset : CounterLaw (faultAnnounced r s) := setStation_counterLaw _ _ (counterLaw_of_eq hraised rfl rfl rfl rfl rfl)
  rw [enterFault_eq]
  exact setGrant_counterLaw 0 (counterLaw_of_eq hset (by simp) (by simp) (by simp) (by simp) (by simp))

theorem disposeRequest_dropped (o : AttemptOutcome) (a : InFlight) (s : State) :
    Counted s.sched.requestsDropped (disposeRequest o a s).sched.requestsDropped := by
  unfold disposeRequest
  split
  · exact .same _
  · exact .same _
  · exact .inl (by simp)
  all_goals
    split
    · exact .up _
    · exact .inl (by simp)

theorem Change.counterLaw {s u : State} (h : Change s u) (hs : CounterLaw s) : CounterLaw u := by
  cases h with
  | note n => exact raiseNote_counterLaw n hs
  | hostLine h _ _ hn hd =>
    exact counterLaw_congr hs (.same rfl) (.same _) (.same _) (.same _) hd (.inl hn)
  | startUp img => exact setStation_counterLaw _ _ (counterLaw_of_eq hs (by simp) (by simp) (by simp) (by simp) (by simp))
  | fault r => exact enterFault_counterLaw r hs
  | station st ph => exact setStation_counterLaw st ph hs
  | leaving =>
    exact counterLaw_of_eq (setGrant_counterLaw 0 (setStation_counterLaw .leaving .none hs)) rfl rfl rfl rfl rfl
  | shut st => exact counterLaw_of_eq (setStation_counterLaw st .none hs) rfl rfl rfl rfl rfl
  | request k x => exact counterLaw_of_eq hs (by simp) (by simp) (by simp) (by simp) (by simp)
  | attempt k r => exact counterLaw_of_eq hs rfl rfl (by cases k <;> rfl) rfl rfl
  | attemptEnds o a =>
    refine counterLaw_congr hs ?_ (.inl (by simp)) ?_ (.inl (by simp)) (.inl (by simp)) (.inl (by simp))
    · have hc := s.bus.count_countsOn o
      simpa using (⟨hc.framesSent, hc.lost, hc.aborted, hc.partly, hc.unheard, hc.validReceived, hc.damagedReceived⟩ :
        s.bus.CountsOn { s.bus.count o with attempt := none, trailer := s.trailerAfterAttempt })
    · unfold finishAttempt
      rw [(startSpacing_frame _ _ _).2.2.2.2.2.2.2.2.2.2.2.2.1]
      exact disposeRequest_dropped o a _
  | bus b hc => exact counterLaw_congr hs hc (.same _) (.same _) (.same _) (.same _) (.same _)
  | rosterMarks o r i hr hi => exact counterLaw_congr hs (.same rfl) hr (.same _) hi (.same _) (.same _)
  | _ => exact hs

end Sys2Proof.Machine
end

section
/-! The settling of O60, and of what the other laws of single blocks give along a step. -/

namespace Sys2Proof.Machine

open Sys2Proof.Safety

/-! ### Laws that a step keeps, block by block -/

theorem stageLaw_upsetCopy {s : State} (i : Fin 42) (b : Byte) (h : StageLaw s) : StageLaw (upsetCopy i b s) :=
  stageLaw_congr h (by simp) (by simp) (by simp [upsetCopy]) (by simp)

theorem restartWith_counterLaw (cause : RestartCause) (s : State) : CounterLaw (restartWith cause s) :=
  (counterLaw_iff _).mpr (by simp [restartWith, State.reset, BusInterface.Bounded,
    BusInterface.initial, RosterUnit.initial, Scheduler.initial, HostPort.initial])

theorem step_cutLaw {s u : State} (h : step s = .next u) : CutLaw s → CutLaw u :=
  step_keeps (fun _ _ hs => hs) (fun _ _ hc => hc.cutLaw)
    (fun _ _ => rfl) (.inl fun _ _ _ hs => hs) h

theorem step_notesLaw {s u : State} (h : step s = .next u) : NotesLaw s → NotesLaw u :=
  step_keeps (fun _ _ hs => hs) (fun _ _ hc => hc.notesLaw)
    (fun _ _ => ⟨rfl, Nat.zero_le _, List.nodup_nil, fun _ => rfl⟩) (.inl fun _ _ _ hs => hs) h

theorem step_phaseLaw {s u : State} (h : step s = .next u) : PhaseLaw s → PhaseLaw u :=
  step_keeps (fun _ _ hs => hs) (fun _ _ hc => hc.phaseLaw)
    (fun _ _ => ⟨fun _ => by simp [restartWith, State.reset, Lifecycle.initial], fun _ => rfl⟩) (.inl fun _ _ _ hs => hs) h

theorem step_stageLaw {s u : State} (h : step s = .next u) : StageLaw s → StageLaw u :=
  step_keeps (fun _ _ hs => hs) (fun _ _ hc => hc.stageLaw)
    (fun _ _ => ⟨.inl rfl, rfl, rfl⟩) (.inl fun _ i b hs => stageLaw_upsetCopy i b hs) h

theorem step_planLaw {s u : State} (h : step s = .next u) : PlanLaw s → PlanLaw u :=
  step_keeps (fun _ _ hs => hs) (fun _ _ hc => hc.planLaw)
    (fun _ _ => ⟨fun p hp => (nomatch hp), fun _ => rfl⟩) (.inl fun _ _ _ hs => hs) h

theorem step_windowLaw {s u : State} (h : step s = .next u) : WindowLaw s → WindowLaw u :=
  step_keeps (fun _ _ hs => hs) (fun _ _ hc => hc.windowLaw)
    (fun _ _ => Nat.le_refl 0) (.inl fun _ _ _ hs => hs) h

theorem step_lineLaw {s u : State} (h : step s = .next u) : LineLaw s → LineLaw u :=
  step_keeps (fun _ _ hs => hs) (fun _ _ hc => hc.lineLaw)
    (fun _ _ => lineLaw_of_not_idle rfl) (.inl fun _ _ _ hs => hs) h

theorem step_attemptLaw {s u : State} (h : step s = .next u) : AttemptLaw s → AttemptLaw u :=
  step_keeps (fun _ _ hs => hs) (fun _ _ hc => hc.attemptLaw)
    (fun _ _ => rfl) (.inl fun _ _ _ hs => hs) h

theorem step_isolationLaw {s u : State} (h : step s = .next u) : IsolationLaw s → IsolationLaw u :=
  step_keeps (fun _ _ hs => hs) (fun _ _ hc => hc.isolationLaw)
    (fun _ _ => Nat.zero_le _) (.inl fun _ _ _ hs => hs) h

theorem step_requestLaw {s u : State} (h : step s = .next u) : RequestLaw s → RequestLaw u :=
  step_keeps (fun _ _ hs => hs) (fun _ _ hc => hc.requestLaw)
    (fun _ _ => requestLaw_of_empty (fun k => by cases k <;> rfl) (fun a ha => (nomatch ha))) (.inl fun _ _ _ hs => hs) h

theorem step_counterLaw {s u : State} (h : step s = .next u) : CounterLaw s → CounterLaw u :=
  step_keeps (fun _ _ hs => hs) (fun _ _ hc => hc.counterLaw)
    restartWith_counterLaw (.inl fun _ _ _ hs => hs) h

end Sys2Proof.Machine

section
open Sys2Proof.Machine Sys2Proof.Safety

/-- Settles O60: each of the five laws is kept by every single change of the state, and a step is a chain of changes. -/
theorem stepKeepsCountersWindowPlanAndStage : Obligations.StepKeepsCountersWindowPlanAndStage :=
  ⟨fun _ _ hcount hwindow hplan hstage h =>
    ⟨step_counterLaw h hcount, step_windowLaw h hwindow, step_planLaw h hplan, step_stageLaw h hstage⟩,
   fun _ _ hline h => step_lineLaw h hline⟩

end
end

section
/-! SUPPORT and the settling of O55. The roster's list of entries, and the laws that rest on it. -/

namespace Sys2Proof.Machine

open Sys2Proof.Safety

/-! ### A list of entries in ascending number (R23) -/

/-- The entries stand in ascending station number. -/
def Ascending (es : List Entry) : Prop := (es.map Entry.station).Pairwise (· < ·)

@[simp] theorem ascending_nil : Ascending [] := List.Pairwise.nil

theorem ascending_cons {x : Entry} {xs : List Entry} :
    Ascending (x :: xs) ↔ (∀ y ∈ xs, x.station < y.station) ∧ Ascending xs := by
  simp [Ascending]

theorem Ascending.sublist {es ds : List Entry} (h : Ascending es) (hd : ds.Sublist es) : Ascending ds :=
  List.Pairwise.sublist (hd.map _) h

/-- An entry that is put stands in the list, before or after those that stood there. -/
theorem mem_upsertEntry {e x : Entry} {es : List Entry} (h : x ∈ upsertEntry e es) : x = e ∨ x ∈ es := by
  induction es with
  | nil => exact .inl (List.mem_singleton.mp h)
  | cons y ys ih =>
    unfold upsertEntry at h
    split at h
    · exact List.mem_cons.mp h
    · split at h
      · exact (List.mem_cons.mp h).imp_right (List.mem_cons_of_mem y)
      · rcases List.mem_cons.mp h with rfl | hx
        · exact .inr List.mem_cons_self
        · exact (ih hx).imp_right (List.mem_cons_of_mem y)

theorem ascending_upsertEntry (e : Entry) {es : List Entry} (h : Ascending es) : Ascending (upsertEntry e es) := by
  induction es with
  | nil => simp [upsertEntry, Ascending]
  | cons y ys ih =>
    obtain ⟨hy, hys⟩ := ascending_cons.mp h
    unfold upsertEntry
    split
    · next hlt =>
      refine ascending_cons.mpr ⟨fun x hx => ?_, h⟩
      rcases List.mem_cons.mp hx with rfl | hx
      · exact hlt
      · exact hlt.trans (hy x hx)
    · split
      · next heq => exact ascending_cons.mpr ⟨fun x hx => heq ▸ hy x hx, hys⟩
      · next hge hne =>
        refine ascending_cons.mpr ⟨fun x hx => ?_, ih hys⟩
        rcases mem_upsertEntry hx with rfl | hx
        · exact lt_of_le_of_ne (not_lt.mp hge) (Ne.symm hne)
        · exact hy x hx

theorem hasEntry_iff {n : Station} {es : List Entry} : hasEntry n es = true ↔ ∃ e ∈ es, e.station = n := by
  simp [hasEntry, findEntry]

theorem length_upsertEntry_le (e : Entry) (es : List Entry) : (upsertEntry e es).length ≤ es.length + 1 := by
  induction es with
  | nil => exact Nat.le_refl 1
  | cons y ys ih => unfold upsertEntry; (repeat' split) <;> simp <;> omega

/-- An entry that is put in place of one of its number leaves the list as long as it was. -/
theorem length_upsertEntry_of_mem {e : Entry} {es : List Entry} (h : Ascending es) (hm : ∃ x ∈ es, x.station = e.station) :
    (upsertEntry e es).length = es.length := by
  induction es with
  | nil => obtain ⟨x, hx, -⟩ := hm; cases hx
  | cons y ys ih =>
    obtain ⟨hy, hys⟩ := ascending_cons.mp h
    obtain ⟨x, hx, hxe⟩ := hm
    have hin : x.station = y.station ∨ (x ∈ ys ∧ y.station < x.station) :=
      (List.mem_cons.mp hx).imp (congrArg _) fun hx => ⟨hx, hy x hx⟩
    unfold upsertEntry
    rw [← hxe]
    split
    · next hlt => rcases hin with heq | ⟨-, hgt⟩ <;> order
    · split
      · rfl
      · next hne =>
        obtain ⟨hx, -⟩ := hin.resolve_left hne
        exact congrArg (· + 1) (ih hys ⟨x, hx, hxe⟩)

/-! ### What the roster holds of claims (R96) -/

theorem reportLaw_congr {s u : State} (h : ReportLaw s) (he : u.roster.entries = s.roster.entries) : ReportLaw u := by
  unfold ReportLaw at h ⊢
  rwa [he]

theorem reportLaw_sublist {s u : State} (h : ReportLaw s) (he : u.roster.entries.Sublist s.roster.entries) : ReportLaw u :=
  fun e hm => h e (he.subset hm)

theorem reportLaw_map {s u : State} {f : Entry → Entry} (h : ReportLaw s) (hf : ∀ e : Entry, e.KeptAs (f e))
    (he : u.roster.entries = s.roster.entries.map f) : ReportLaw u := by
  intro e hm r hr
  rw [he] at hm
  obtain ⟨e', hm', rfl⟩ := List.mem_map.mp hm
  obtain ⟨q, hq, hmin, hmax, hdemand, hgrant⟩ := (hf e').2.2 r hr
  rw [← hmin, ← hmax, ← hdemand, ← hgrant]
  exact h e' hm' q hq

theorem forget_none_keptAs (e : Entry) : e.KeptAs { e with forget := none } := .of_eq rfl rfl rfl

theorem Change.reportLaw {s u : State} (h : Change s u) (hs : ReportLaw s) : ReportLaw u := by
  cases h with
  | startUp img => exact reportLaw_congr hs (by simp)
  | fault r => exact reportLaw_map hs forget_none_keptAs (by simp [enterFault_writes])
  | station st ph => exact reportLaw_congr hs (by simp)
  | leaving => exact reportLaw_congr hs (by simp [leaveWithGrantZero])
  | shut st => exact reportLaw_congr hs (by simp)
  | request k x => exact reportLaw_congr hs (by simp)
  | attempt k r => exact reportLaw_congr hs rfl
  | attemptEnds o a => exact reportLaw_congr hs (by simp)
  | entries f hf => exact reportLaw_map hs hf rfl
  | put e forgotten _ _ _ _ hr =>
    intro x hx r hxr
    rcases mem_upsertEntry hx with rfl | hx
    · exact hr r hxr
    · exact hs x hx r hxr
  | drop n => exact reportLaw_sublist hs List.filter_sublist
  | forget n => exact reportLaw_sublist hs List.filter_sublist
  | clearRoster => exact reportLaw_sublist hs (List.nil_sublist _)
  | _ => exact hs

/-! ### Which numbers the roster holds (R23, R24, R37) -/

/-- The law of the entries, which in LOADING are none. -/
structure EntriesLaw (s : State) : Prop where
  roster : RosterLaw s
  loading : s.life.state = .loading → s.roster.entries = []

theorem rosterLaw_of_empty {s : State} (he : s.roster.entries = []) : RosterLaw s :=
  ⟨by simp [he], by simp [he], by simp [he]⟩

theorem rosterLaw_congr {s u : State} (h : RosterLaw s) (he : u.roster.entries = s.roster.entries)
    (ho : u.ownStation = s.ownStation) : RosterLaw u := by
  unfold RosterLaw at h ⊢
  rwa [he, ho]

theorem entriesLaw_of_empty {s : State} (he : s.roster.entries = []) : EntriesLaw s := ⟨rosterLaw_of_empty he, fun _ => he⟩

theorem entriesLaw_congr {s u : State} (h : EntriesLaw s) (he : u.roster.entries = s.roster.entries)
    (ho : u.ownStation = s.ownStation) (hl : u.life.state = .loading → s.life.state = .loading) : EntriesLaw u :=
  ⟨rosterLaw_congr h.roster he ho, fun hu => he.trans (h.loading (hl hu))⟩

/-- Entries changed in place keep the law. -/
theorem entriesLaw_map {s u : State} {f : Entry → Entry} (h : EntriesLaw s) (hkept : ∀ e : Entry, e.KeptAs (f e))
    (he : u.roster.entries = s.roster.entries.map f)
    (ho : u.ownStation = s.ownStation) (hl : u.life.state = .loading → s.life.state = .loading) : EntriesLaw u := by
  obtain ⟨⟨hlen, hasc, hall⟩, hloading⟩ := h
  refine ⟨⟨?_, ?_, fun e hm => ?_⟩, fun hu => ?_⟩
  · rw [he, List.length_map]; exact hlen
  · rw [he, List.map_map, List.map_congr_left (f := Entry.station ∘ f) (g := Entry.station) fun e _ => (hkept e).1]
    exact hasc
  · rw [he] at hm
    obtain ⟨x, hx, rfl⟩ := List.mem_map.mp hm
    obtain ⟨hown, hlaw⟩ := hall x hx
    rw [(hkept x).1, ho]
    exact ⟨hown, (hkept x).2.1 hlaw⟩
  · rw [he, hloading (hl hu)]; rfl

theorem rosterLaw_upsertEntry {s u : State} {e : Entry} (h : RosterLaw s) (hroom : s.canHold e.station = true)
    (hown : e.station ≠ s.ownStation) (he : EntryLaw e) (hu : u.roster.entries = upsertEntry e s.roster.entries)
    (ho : u.ownStation = s.ownStation) : RosterLaw u := by
  obtain ⟨hlen, hasc, hall⟩ := h
  refine ⟨?_, hu ▸ ascending_upsertEntry e hasc, fun x hx => ?_⟩
  · rw [hu]
    rcases Bool.or_eq_true_iff.mp hroom with hhas | hfree
    · rw [length_upsertEntry_of_mem hasc (hasEntry_iff.mp hhas)]; exact hlen
    · exact (length_upsertEntry_le e _).trans (of_decide_eq_true hfree)
  · rw [ho]
    rcases mem_upsertEntry (hu ▸ hx) with rfl | hx
    · exact ⟨hown, he⟩
    · exact hall x hx

theorem rosterLaw_removeEntry {s u : State} {n : Station} (h : RosterLaw s)
    (hu : u.roster.entries = removeEntry n s.roster.entries) (ho : u.ownStation = s.ownStation) : RosterLaw u := by
  obtain ⟨hlen, hasc, hall⟩ := h
  have hsub : u.roster.entries.Sublist s.roster.entries := hu ▸ List.filter_sublist
  exact ⟨hsub.length_le.trans hlen, Ascending.sublist hasc hsub, fun x hx => ho ▸ hall x (hsub.subset hx)⟩

theorem entriesLaw_of_loadingLaw {s : State} (hloading : LoadingLaw s) (hroster : RosterLaw s) : EntriesLaw s :=
  ⟨hroster, fun hl => by obtain ⟨-, -, hr, -⟩ := hloading hl; rw [hr]; rfl⟩

theorem Change.entriesLaw {s u : State} (h : Change s u) (hs : EntriesLaw s) : EntriesLaw u := by
  cases h with
  | loader l _ hc => exact entriesLaw_congr hs rfl (ownStation_congr hc) id
  | startUp img hl => exact entriesLaw_of_empty (by simpa using hs.loading hl)
  | fault r =>
    exact entriesLaw_map hs forget_none_keptAs (by simp [enterFault_writes])
      (ownStation_congr (by simp [enterFault_writes])) (by simp [enterFault_writes])
  | station st ph hfrom hto =>
    exact entriesLaw_congr hs (by simp) (ownStation_congr (by simp))
      (fun hu => absurd (by simpa using hu) (ne_loading_of_plans hto))
  | leaving =>
    exact entriesLaw_congr hs (by simp [leaveWithGrantZero]) (ownStation_congr (by simp [leaveWithGrantZero]))
      (by simp [leaveWithGrantZero])
  | shut st _ hto =>
    exact entriesLaw_congr hs (by simp) (ownStation_congr (by simp)) (by rcases hto with rfl | rfl <;> simp)
  | life l hst => exact entriesLaw_congr hs rfl rfl (fun hu => hst.symm.trans hu)
  | request k x => exact entriesLaw_congr hs (by simp) (ownStation_congr (by simp)) (by simp)
  | attempt k r => exact entriesLaw_congr hs rfl rfl id
  | attemptEnds o a => exact entriesLaw_congr hs (by simp) (ownStation_congr (by simp)) (by simp)
  | entries f hf => exact entriesLaw_map hs hf rfl rfl id
  | put e forgotten hl hroom hown he =>
    exact ⟨rosterLaw_upsertEntry hs.roster hroom hown he rfl rfl, fun hu => absurd hu hl⟩
  | drop n =>
    exact ⟨rosterLaw_removeEntry hs.roster rfl rfl, fun hu => by simp [dropEntry, hs.loading hu, removeEntry]⟩
  | forget n hl => exact ⟨rosterLaw_removeEntry hs.roster rfl rfl, fun hu => absurd hu hl⟩
  | clearRoster => exact entriesLaw_of_empty rfl
  | _ => exact ⟨hs.roster, hs.loading⟩

/-- The entries and the forgotten set, neither of which holds a number in LOADING. -/
structure NumbersLaw (s : State) : Prop where
  entries : EntriesLaw s
  forgotten : ForgottenLaw s
  loading : s.life.state = .loading → s.roster.forgotten = []

theorem forgottenLaw_congr {s u : State} (h : ForgottenLaw s) (hf : u.roster.forgotten = s.roster.forgotten)
    (ho : u.ownStation = s.ownStation) : ForgottenLaw u := by
  unfold ForgottenLaw at h ⊢
  rwa [hf, ho]

theorem forgottenLaw_of_empty {s : State} (hf : s.roster.forgotten = []) : ForgottenLaw s := ⟨by simp [hf], by simp [hf]⟩

/-- A number that an entry bears is not our own, so it may join the forgotten set. -/
theorem forgottenLaw_add {s : State} {n : Station} (h : NumbersLaw s) (hn : hasEntry n s.roster.entries = true)
    (hnew : n ∉ s.roster.forgotten) : (n :: s.roster.forgotten).Nodup ∧ s.ownStation ∉ n :: s.roster.forgotten := by
  obtain ⟨x, hx, rfl⟩ := hasEntry_iff.mp hn
  refine ⟨List.nodup_cons.mpr ⟨hnew, h.forgotten.1⟩, fun hm => ?_⟩
  rcases List.mem_cons.mp hm with ho | hm
  · exact (h.entries.roster.2.2 x hx).1 ho.symm
  · exact h.forgotten.2 hm

theorem Change.numbersLaw {s u : State} (h : Change s u) (hs : NumbersLaw s) : NumbersLaw u := by
  suffices hset : ForgottenLaw u ∧ (u.life.state = .loading → u.roster.forgotten = []) from
    ⟨h.entriesLaw hs.entries, hset.1, hset.2⟩
  have kept : ∀ v : State, v.roster.forgotten = s.roster.forgotten → v.loader.heldCopy = s.loader.heldCopy →
      (v.life.state = .loading → s.life.state = .loading) →
      ForgottenLaw v ∧ (v.life.state = .loading → v.roster.forgotten = []) := fun v hf hc hl =>
    ⟨forgottenLaw_congr hs.forgotten hf (ownStation_congr hc), fun hv => hf.trans (hs.loading (hl hv))⟩
  cases h with
  | loader l _ hc => exact kept _ rfl hc id
  | startUp img hl =>
    have hempty := hs.loading hl
    exact ⟨forgottenLaw_of_empty (by simpa using hempty), by simp⟩
  | fault r => exact kept _ (by simp [enterFault_writes]) (by simp [enterFault_writes]) (by simp [enterFault_writes])
  | station st ph hfrom hto =>
    exact kept _ (by simp) (by simp) (fun hu => absurd (by simpa using hu) (ne_loading_of_plans hto))
  | leaving =>
    exact kept _ (by simp [leaveWithGrantZero]) (by simp [leaveWithGrantZero]) (by simp [leaveWithGrantZero])
  | shut st _ hto => exact kept _ (by simp) (by simp) (by rcases hto with rfl | rfl <;> simp)
  | life l hst => exact kept _ rfl rfl (fun hu => hst.symm.trans hu)
  | request k x => exact kept _ (by simp) (by simp) (by simp)
  | attempt k r => exact kept _ rfl rfl id
  | attemptEnds o a => exact kept _ (by simp) (by simp) (by simp)
  | put e forgotten hl _ _ _ _ hf =>
    exact ⟨⟨hs.forgotten.1.sublist hf, fun hm => hs.forgotten.2 (hf.subset hm)⟩, fun hu => absurd hu hl⟩
  | forget n hl hn forgotten hf =>
    refine ⟨?_, fun hu => absurd hu hl⟩
    subst hf
    by_cases hm : n ∈ s.roster.forgotten
    · rw [if_pos hm]; exact hs.forgotten
    · rw [if_neg hm]; exact forgottenLaw_add hs hn hm
  | clearRoster => exact ⟨forgottenLaw_of_empty rfl, fun _ => rfl⟩
  | _ => exact ⟨hs.forgotten, hs.loading⟩

theorem step_reportLaw {s u : State} (h : step s = .next u) : ReportLaw s → ReportLaw u :=
  step_keeps (fun _ _ hs => hs) (fun _ _ hc => hc.reportLaw)
    (fun _ _ e hm => (nomatch hm)) (.inl fun _ _ _ hs => hs) h

theorem step_numbersLaw {s u : State} (hkept : Claims.StorageKept s) (h : step s = .next u) : NumbersLaw s → NumbersLaw u :=
  step_keeps (fun _ _ hs => ⟨⟨hs.entries.roster, hs.entries.loading⟩, hs.forgotten, hs.loading⟩)
    (fun _ _ hc => hc.numbersLaw) (fun _ _ => ⟨entriesLaw_of_empty rfl, forgottenLaw_of_empty rfl, fun _ => rfl⟩)
    (.inr hkept) h

end Sys2Proof.Machine

section
open Sys2Proof.Machine Sys2Proof.Safety

/-- Settles O55: the list of entries stays in order through every change of it, and LOADING holds no entry. -/
theorem stepKeepsTheRoster : Obligations.StepKeepsTheRoster := by
  intro s u hloading hroster hreport hforgotten h
  refine ⟨step_reportLaw h hreport, fun hkept => ?_⟩
  have hu := step_numbersLaw hkept h ⟨entriesLaw_of_loadingLaw hloading hroster, hforgotten, fun hl => by
    obtain ⟨-, -, hr, -⟩ := hloading hl
    rw [hr]; rfl⟩
  exact ⟨hu.entries.roster, hu.forgotten⟩

end
end

section
/-! The settling of O54. In LOADING nothing but the Loader, the Host Port and the clock moves; an asserted RESTART input
holds all of it. -/

namespace Sys2Proof.Machine

open Sys2Proof.Safety

/-! ### LOADING is entered by a restart alone -/

/-- An effect that changes nothing changes nothing under a condition. -/
theorem onlyIf_same {c : State → Bool} {f : State → State} {s : State} (hf : f s = s) : onlyIf c f s = s := by
  unfold onlyIf; split
  · exact hf
  · rfl

theorem Change.ne_loading {s u : State} (h : Change s u) (hs : s.life.state ≠ .loading) : u.life.state ≠ .loading := by
  cases h with
  | startUp img hl => exact absurd hl hs
  | fault r => simp [enterFault_writes]
  | station st ph _ hto => simpa using ne_loading_of_plans hto
  | leaving => simp [leaveWithGrantZero]
  | shut st _ hto => rcases hto with rfl | rfl <;> simp
  | life l hst => exact fun hl => hs (hst.symm.trans hl)
  | request k x => simpa using hs
  | attemptEnds o a => simpa using hs
  | _ => exact hs

theorem Changes.ne_loading {s u : State} (h : Changes s u) : s.life.state ≠ .loading → u.life.state ≠ .loading :=
  h.keep fun _ _ hc => hc.ne_loading

/-! ### What LOADING keeps at the values of a restart (R151) -/

/-- The blocks that take no event in LOADING stand at their values of a restart. -/
def Resting (s : State) : Prop :=
  s.bus = State.reset.bus ∧ s.sched = State.reset.sched ∧ s.roster = State.reset.roster ∧
  s.planner = State.reset.planner ∧ s.grantCtl = State.reset.grantCtl ∧ s.life = State.reset.life ∧
  s.meter = State.reset.meter ∧ s.enf = State.reset.enf ∧ s.link = State.reset.link

theorem Resting.law {s : State} (h : Resting s) : LoadingLaw s := fun _ => h

theorem loadingLaw_of_ne {s : State} (h : s.life.state ≠ .loading) : LoadingLaw s := fun hl => absurd hl h

theorem restartWith_resting (cause : RestartCause) (s : State) : Resting (restartWith cause s) := by simp [Resting, restartWith]

theorem Resting.congr {s u : State} (h : Resting s) (hu : (u.bus, u.sched, u.roster, u.planner, u.grantCtl, u.life, u.meter, u.enf, u.link) =
      (s.bus, s.sched, s.roster, s.planner, s.grantCtl, s.life, s.meter, s.enf, s.link)) : Resting u := by
  simp only [Prod.mk.injEq] at hu
  obtain ⟨h1, h2, h3, h4, h5, h6, h7, h8, h9⟩ := hu
  unfold Resting at h ⊢
  rwa [h1, h2, h3, h4, h5, h6, h7, h8, h9]

/-- The end of a load leads to LISTENING or to FAULT. -/
theorem endLoad_ne_loading (img : List Byte) (replyFollows : Bool) (s : State) :
    (endLoad img replyFollows s).life.state ≠ .loading := by
  have hheld : (imageHeld img replyFollows s).life.state ≠ .loading := by
    have hlistens : ∀ v : State, (enterListening v).life.state ≠ .loading := fun v => by simp [enterListening]
    exact Changes.ne_loading
      (((startTimers_changes _).trans (handOn_changes true true _)).trans (evalSettled_changes _)) (hlistens _)
  unfold endLoad
  split
  · exact hheld
  all_goals simp [enterFault_writes]

section
variable {s : State} (hs : Resting s)
include hs

theorem Resting.loading : s.life.state = .loading := by
  obtain ⟨-, -, -, -, -, hlife, -⟩ := hs
  rw [hlife]; rfl

theorem Resting.takesFrames : s.life.state.takesFrames = false := by rw [hs.loading]; rfl

theorem Resting.assembly : s.bus.assembly = .empty := by rw [hs.1]; rfl

theorem Resting.attempt : s.bus.attempt = none := by rw [hs.1]; rfl

theorem Resting.ownAttempt : s.ownAttempt = none := by simp [State.ownAttempt, hs.attempt]

theorem Resting.takeOutcome (a r : Bool) : takeOutcome a r s = s := by
  have h : s.openAttempt = none := by unfold State.openAttempt; rw [hs.ownAttempt]; split <;> rfl
  simp [Machine.takeOutcome, h]

theorem Resting.abortAt (pos : Nat) : abortAt pos s = s := by simp [Machine.abortAt, hs.ownAttempt]

theorem Resting.cutShort (level : Bool) : cutShort level s = s := by simp [Machine.cutShort, hs.assembly]

theorem Resting.canTake (bytes : List Byte) : s.canTake bytes = false := by
  simp [State.canTake, hs.assembly, Assembly.goesOnTo]

theorem Resting.takeFrame (f : Frame) (bytes : List Byte) (l : Bool) : takeFrame f bytes l s = s := by
  simp [Machine.takeFrame, State.canTakeValid, State.meetsOutcome, hs.canTake, hs.takesFrames]

theorem Resting.takeDamaged (bytes : List Byte) : takeDamaged bytes s = s := by
  simp [Machine.takeDamaged, State.canTakeDamaged, State.overtakenBy, hs.canTake, hs.takesFrames]

theorem Resting.receiveKind (k : Kind) (bytes : List Byte) (l : Bool) : receiveKind k bytes l s = s := by
  unfold Machine.receiveKind
  split
  · exact hs.takeFrame _ _ _
  · rfl

theorem Resting.takeFrameEvent (ev : FrameEvent) : takeFrameEvent ev s = s := by
  cases ev with
  | received bytes l =>
    change takeReceived bytes l s = s
    unfold takeReceived
    split
    · exact hs.takeFrame _ _ _
    · exact hs.takeDamaged _
    · rfl
  | cutShort level => exact hs.cutShort level
  | outcome a r => exact hs.takeOutcome a r
  | aborted pos => exact hs.abortAt pos

theorem Resting.takeDrop (cause : DropCause) : takeDrop cause s = s := by
  cases cause with
  | aborted pos => exact hs.abortAt pos
  | partly => exact hs.takeOutcome true true

/-! ### The Loader and the Host Port in LOADING -/

theorem Resting.discardHostFrame : Resting (discardHostFrame s) := by
  unfold Machine.discardHostFrame
  split <;> exact hs

theorem Resting.setRate (r : LineRate) : Resting (setRate r s) := by
  unfold Machine.setRate
  dsimp only
  split
  · exact hs
  · exact hs.discardHostFrame

theorem Resting.applyRateDue : Resting (applyRateDue s) := by
  unfold Machine.applyRateDue
  split
  · exact hs
  · exact hs.setRate _

/-- What a command in LOADING does: it leaves the blocks at rest, or ends LOADING. -/
theorem Resting.answerTo (cmd : HostCommand) :
    Resting (answerTo cmd s).after ∨ (answerTo cmd s).after.life.state ≠ .loading := by
  unfold Machine.answerTo
  split
  · exact .inl hs
  · next c _ =>
    have hgate : s.gate c = loadingGate s.loader.stage c := by unfold State.gate; rw [hs.loading]
    split
    · exact .inl hs
    · next hg =>
      split
      · rw [hgate] at hg
        cases c with
        | state => exact .inl hs
        | restart => exact .inl hs
        | config => exact .inr (endLoad_ne_loading _ true s)
        | note =>
          left
          change Resting (actNote s).after
          unfold actNote
          split <;> exact hs
        | demand | peer | plan | counts | clearCut | leave | join => cases hg
      · exact .inl hs

theorem Resting.enterCommand (cmd : HostCommand) : LoadingLaw (enterCommand cmd s) := by
  unfold Machine.enterCommand
  split
  · rcases hs.answerTo cmd with h | h
    · exact Resting.law (h.congr rfl)
    · exact loadingLaw_of_ne h
  · exact (hs.congr rfl).law
  · exact (hs.congr rfl).law

theorem Resting.takeWaiting : LoadingLaw (takeWaiting s) := by
  unfold Machine.takeWaiting
  split
  · exact hs.law
  · next cmd _ =>
    have hs' : Resting { s with host := { s.host with waiting := none } } := hs
    rcases hs'.answerTo cmd with h | h
    · exact Resting.law (h.congr rfl)
    · exact loadingLaw_of_ne h

theorem Resting.replyEnds : LoadingLaw (replyEnds s) := by
  unfold Machine.replyEnds finishReply
  split
  · exact hs.law
  · split
    · exact (restartWith_resting _ _).law
    · have hs' : ∀ p, Resting { s with host := { s.host with inProgress := p } } := fun _ => hs
      exact (hs' none).applyRateDue.takeWaiting

theorem Resting.takeHostByte (b : Byte) : LoadingLaw (takeHostByte b s) := by
  have hended : Resting (endHostFrame s) := hs
  unfold Machine.takeHostByte takeFrameByte
  (repeat' split) <;>
    first | exact hs.law | exact hs.discardHostFrame.law | exact hended.enterCommand _

theorem Resting.takeHeader (b0 b1 : Byte) : LoadingLaw (takeHeader b0 b1 s) := by
  unfold Machine.takeHeader
  split
  · exact (hs.congr rfl).law
  · split
    · exact (hs.congr rfl).law
    · exact loadingLaw_of_ne (by simp [enterFault_writes])

theorem Resting.takeBody (rest : List Byte) : LoadingLaw (takeBody rest s) := by
  unfold Machine.takeBody
  split
  · exact loadingLaw_of_ne (endLoad_ne_loading _ _ s)
  · exact hs.law
  · exact hs.law

theorem Resting.reverify (d : Time) : LoadingLaw (reverify d s) := by
  unfold Machine.reverify
  split
  · exact (hs.congr rfl).law
  · exact loadingLaw_of_ne (by simp [enterFault_writes])

/-! ### Every command in LOADING -/

theorem Resting.atTime (t : Time) : Resting (s.atTime t) := hs

theorem Resting.arrive {t : Time} {u : State} {f : State → State} (hf : LoadingLaw (f (s.atTime t)))
    (h : arrive t s f = .next u) : LoadingLaw u := arrive_inv (hs.atTime t).law (fun _ => hf) h

theorem Resting.arrive_same {t : Time} {u : State} {f : State → State} (hf : f (s.atTime t) = s.atTime t)
    (h : Machine.arrive t s f = .next u) : LoadingLaw u := hs.arrive (by rw [hf]; exact (hs.atTime t).law) h

/-- A timer that does not run brings nothing. -/
theorem Resting.expire_stopped {timer : Timer} {u : State} {f : Time → State → State} (hstopped : timer = none)
    (h : expire timer s f = .next u) : LoadingLaw u := by subst hstopped; cases h; exact hs.law

theorem Resting.commandArrives {t : Time} {code : Byte} {p : List Byte} {u : State}
    (h : commandArrives t code p s = .next u) : LoadingLaw u := by
  have hended : Resting (endHostFrame (s.atTime t)) := hs
  refine hs.arrive ?_ h
  unfold onlyIf
  split
  · exact hended.enterCommand _
  · exact (hs.atTime t).law

theorem Resting.timers : s.life.cycle = none ∧ s.life.listen = none ∧ s.life.fallbackAt = none ∧ s.life.spentAt = none ∧
    s.grantCtl.raiseHold.due = none ∧ s.grantCtl.shedHold = none ∧ s.sched.spacing = none ∧ s.meter.update = none ∧
    s.enf.overdraw.due = none ∧ s.enf.recovery.due = none ∧ ∀ n, s.forgetTimer n = none := by
  obtain ⟨-, hsched, hroster, -, hgrant, hlife, hmeter, henf, -⟩ := hs
  simp only [hsched, hgrant, hlife, hmeter, henf]
  refine ⟨rfl, rfl, rfl, rfl, rfl, rfl, rfl, rfl, rfl, rfl, fun n => ?_⟩
  unfold State.forgetTimer State.entryOf
  rw [hroster]; rfl

/-- No command moves a block that rests in LOADING, unless it ends LOADING. -/
theorem Resting.exec {c : Instr} {u : State} (h : exec c s = .next u) : LoadingLaw u := by
  obtain ⟨hcycle, hlisten, hfallback, hspent, hraise, hshed, hspacing, hupdate, hover, hrecovery, hforget⟩ := hs.timers
  cases c with
  | powerOn t => cases h; exact (restartWith_resting _ _).law
  | restartInputAsserted t | restartInputRelease t =>
    simp only [Machine.exec, execRestartInputAsserted, execRestartInputRelease, Host.Outcome.next.injEq] at h
    split at h <;> subst h
    all_goals first | exact (restartWith_resting _ _).law | exact (hs.atTime _).law
  | headerRead t b0 b1 => exact hs.arrive (onlyIf_inv (hs.atTime t).law fun _ => (hs.atTime t).takeHeader b0 b1) h
  | imageRead t rest => exact hs.arrive (onlyIf_inv (hs.atTime t).law fun _ => (hs.atTime t).takeBody rest) h
  | reverifyTimerExpiry ev =>
    cases ev with
    | check => exact expire_inv hs.law (fun d _ _ => (hs.atTime d).reverify d) h
    | storageFault t i b => exact hs.arrive (hs.congr rfl).law h
  | state t p | demand t p | peer t p | plan t p | counts t p | note t p | clearCut t p | leave t p | join t p
  | restart t p | config t p => exact hs.commandArrives h
  | unknownCommand t code p =>
    simp only [Machine.exec, execUnknownCommand] at h
    split at h
    · exact hs.commandArrives h
    · exact hs.arrive_same rfl h
  | hostFrameDiscarded t bytes =>
    exact hs.arrive (onlyIf_inv (hs.atTime t).law fun _ => (hs.congr rfl).law) h
  | gapTimerExpiry => exact expire_inv hs.law (fun d _ _ => (hs.atTime d).discardHostFrame.law) h
  | byteWithoutStopBit t => exact hs.arrive (hs.atTime t).discardHostFrame.law h
  | replySent t => exact hs.arrive (hs.atTime t).replyEnds h
  | hostByteReceived t b => exact hs.arrive ((hs.atTime t).takeHostByte b) h
  | busIdle line => exact hs.arrive_same (onlyIf_fails (by simp [State.lineFree, hs.takesFrames])) h
  | startBit t => exact hs.arrive_same (onlyIf_fails (by simp [State.awaitsStart, hs.takesFrames])) h
  | attemptStart t => exact hs.arrive_same (onlyIf_fails (by simp [State.mayStart, hs.1, BusInterface.initial, State.reset])) h
  | attemptLost t pos => exact hs.arrive_same (by simp [loseAt, (hs.atTime t).ownAttempt]) h
  | attemptAborted t pos => exact hs.arrive_same ((hs.atTime t).abortAt pos) h
  | attemptOutcomeTaken t a r => exact hs.arrive_same ((hs.atTime t).takeOutcome a r) h
  | requestDropped t cause => exact hs.arrive_same (onlyIf_same ((hs.atTime t).takeDrop cause)) h
  | isolationLimit t r => exact hs.arrive_same (onlyIf_same ((hs.atTime t).takeOutcome false r)) h
  | statusFrame t b l | announceFrame t b l | leaveFrame t b l | shedFrame t b l =>
    exact hs.arrive_same ((hs.atTime t).receiveKind _ b l) h
  | frameCutShort v => exact hs.arrive_same (onlyIf_same ((hs.atTime v.t).cutShort v.recessive)) h
  | frameDamaged t b => exact hs.arrive_same ((hs.atTime t).takeDamaged b) h
  | windowClose t ev => exact hs.arrive_same (onlyIf_same ((hs.atTime t).takeFrameEvent ev)) h
  | fallbackDeadline => exact hs.expire_stopped hfallback h
  | spentDeadline => exact hs.expire_stopped hspent h
  | cycleTimerExpiry => exact hs.expire_stopped hcycle h
  | entryGoesQuiet n => exact hs.expire_stopped hcycle h
  | listenTimerExpiry => exact hs.expire_stopped hlisten h
  | forgetTimerExpiry n => exact hs.expire_stopped (hforget n) h
  | raiseHoldExpiry => simp only [Machine.exec, execRaiseHoldExpiry] at h; exact hs.expire_stopped hraise h
  | shedHoldExpiry => exact hs.expire_stopped hshed h
  | statusSpacingTimerExpiry =>
    simp only [Machine.exec, execStatusSpacingTimerExpiry] at h; exact hs.expire_stopped hspacing h
  | fastUpdate l f | slowUpdate l f | channelFaultClears l f | overloadBegins l f => exact hs.expire_stopped hupdate h
  | overdrawTimerExpiry => exact hs.expire_stopped hover h
  | recoveryTimerExpiry => exact hs.expire_stopped hrecovery h

end

/-- Outside LOADING a command leads there by a restart alone. -/
theorem exec_loadingLaw_of_ne {c : Instr} {s u : State} (hs : s.life.state ≠ .loading) (h : exec c s = .next u) :
    LoadingLaw u := by
  by_cases hc : ∃ t i b, c = .reverifyTimerExpiry (.storageFault t i b)
  · obtain ⟨t, i, b, rfl⟩ := hc
    exact arrive_inv (loadingLaw_of_ne hs) (fun _ => loadingLaw_of_ne hs) h
  · rcases exec_changes (fun t i b he => hc ⟨t, i, b, he⟩) h with hchain | ⟨cause, t, input, rfl⟩
    · exact loadingLaw_of_ne (hchain.ne_loading hs)
    · exact (restartWith_resting _ _).law

theorem step_loadingLaw {s u : State} (h : step s = .next u) (hs : LoadingLaw s) : LoadingLaw u := by
  unfold step at h
  split at h
  · cases h; exact hs
  · by_cases hl : s.life.state = .loading
    · have hrest : ∀ p, Resting { s with pending := p } := fun _ => hs hl
      exact (hrest _).exec h
    · exact exec_loadingLaw_of_ne (by exact hl) h

/-! ### The RESTART input (R161) -/

theorem Change.restartInput {s u : State} (h : Change s u) : u.restartInput = s.restartInput := by
  cases h <;> first | rfl | simp [leaveWithGrantZero]

theorem Changes.restartInput {s u : State} (h : Changes s u) : u.restartInput = s.restartInput :=
  h.keep (P := fun v => v.restartInput = s.restartInput) (fun _ _ hc hv => hc.restartInput.trans hv) rfl

theorem restartWith_heldLaw (cause : RestartCause) (s : State) : HeldLaw (restartWith cause s) := by
  intro hr
  have hr' : s.restartInput = true := hr
  simp [restartWith, hr', Loader.initial]

theorem heldLaw_of_released {s : State} (h : s.restartInput = false) : HeldLaw s := fun hr => by simp [h] at hr

theorem heldLaw_atTime {s : State} (h : HeldLaw s) (t : Time) : HeldLaw (s.atTime t) := by
  exact fun hr => congrArg (fun v => v.atTime t) (h hr)

theorem heldLaw_pending {s : State} (h : HeldLaw s) (rest : List Instr) : HeldLaw { s with pending := rest } := by
  exact fun hr => congrArg (fun v => { v with pending := rest }) (h hr)

theorem arrive_held {t : Time} {s : State} {f : State → State} (hr : s.restartInput = true) :
    ∃ d, arrive t s f = .next (s.atTime d) := ⟨t, by simp [arrive, hr]⟩

theorem atTime_self (s : State) : s.atTime s.now = s := by simp [State.atTime]

theorem expire_held {timer : Timer} {s : State} {f : Time → State → State} (hr : s.restartInput = true) :
    ∃ d, expire timer s f = .next (s.atTime d) :=
  ⟨s.now, by rw [atTime_self]; cases timer <;> simp [expire, hr]⟩

/-- While the RESTART input is asserted a command other than a power-on and the release moves the clock at most. -/
theorem exec_passedOver {c : Instr} {s : State} (hr : s.restartInput = true) (hp : ∀ t, c ≠ .powerOn t)
    (hl : ∀ t, c ≠ .restartInputRelease t) : ∃ t, exec c s = .next (s.atTime t) := by
  cases c with
  | powerOn t => exact absurd rfl (hp t)
  | restartInputAsserted t => exact ⟨t, by simp [exec, execRestartInputAsserted, hr]⟩
  | restartInputRelease t => exact absurd rfl (hl t)
  | reverifyTimerExpiry ev => cases ev <;> [exact expire_held hr; exact arrive_held hr]
  | unknownCommand t code p =>
    simp only [exec, execUnknownCommand]
    split <;> exact arrive_held hr
  | gapTimerExpiry | fallbackDeadline | spentDeadline | cycleTimerExpiry | entryGoesQuiet | listenTimerExpiry
  | forgetTimerExpiry | shedHoldExpiry | fastUpdate | slowUpdate
  | channelFaultClears | overloadBegins | overdrawTimerExpiry | recoveryTimerExpiry => exact expire_held hr
  | raiseHoldExpiry => simp only [exec, execRaiseHoldExpiry]; exact expire_held hr
  | statusSpacingTimerExpiry => simp only [exec, execStatusSpacingTimerExpiry]; exact expire_held hr
  | headerRead | imageRead | state | demand | peer | plan | counts | note | clearCut | leave | join | restart | config
  | hostFrameDiscarded | byteWithoutStopBit | replySent | busIdle | attemptStart | attemptLost | attemptAborted
  | attemptOutcomeTaken | requestDropped | isolationLimit | statusFrame | announceFrame | leaveFrame | shedFrame
  | frameCutShort | frameDamaged | windowClose | startBit | hostByteReceived => exact arrive_held hr

/-- A command that the asserted input passes over moves the clock at most; the others restart the station. -/
theorem exec_held {c : Instr} {s u : State} (hr : s.restartInput = true) (h : exec c s = .next u) :
    (∃ t, u = s.atTime t) ∨ Restarted s u := by
  by_cases hp : ∃ t, c = .powerOn t
  · obtain ⟨t, rfl⟩ := hp
    cases h
    exact .inr ⟨.power, t, s.restartInput, rfl⟩
  by_cases hl : ∃ t, c = .restartInputRelease t
  · obtain ⟨t, rfl⟩ := hl
    exact .inr ⟨.pin, t, false, by simpa [exec, execRestartInputRelease, hr] using h.symm⟩
  obtain ⟨t, ht⟩ := exec_passedOver hr (fun t he => hp ⟨t, he⟩) fun t he => hl ⟨t, he⟩
  rw [ht] at h
  cases h
  exact .inl ⟨t, rfl⟩

theorem exec_heldLaw {c : Instr} {s u : State} (hs : HeldLaw s) (h : exec c s = .next u) : HeldLaw u := by
  by_cases hr : s.restartInput = true
  · rcases exec_held hr h with ⟨t, rfl⟩ | ⟨cause, t, input, rfl⟩
    · exact heldLaw_atTime hs t
    · exact restartWith_heldLaw _ _
  · have hreleased : s.restartInput = false := by simpa using hr
    by_cases hc : ∃ t i b, c = .reverifyTimerExpiry (.storageFault t i b)
    · obtain ⟨t, i, b, rfl⟩ := hc
      exact arrive_inv (heldLaw_of_released hreleased) (fun _ => heldLaw_of_released hreleased) h
    · rcases exec_changes (fun t i b he => hc ⟨t, i, b, he⟩) h with hchain | ⟨cause, t, input, rfl⟩
      · exact heldLaw_of_released (hchain.restartInput.trans hreleased)
      · exact restartWith_heldLaw _ _

theorem step_heldLaw {s u : State} (h : step s = .next u) (hs : HeldLaw s) : HeldLaw u := by
  unfold step at h
  split at h
  · cases h; exact hs
  · exact exec_heldLaw (heldLaw_pending hs _) h

end Sys2Proof.Machine

section
open Sys2Proof.Machine Sys2Proof.Safety

/-- Settles O54: the outputs and the queue change by change, LOADING and the RESTART input command by command. -/
theorem stepKeepsOutputsQueueAndLoading : Obligations.StepKeepsOutputsQueueAndLoading :=
  ⟨fun _ _ hcut hattention hqueue h => ⟨step_cutLaw h hcut, step_notesLaw h ⟨hattention, hqueue⟩⟩,
   fun _ _ hloading hheld h => ⟨step_loadingLaw h hloading, step_heldLaw h hheld⟩⟩

end
end

section
/-! SUPPORT. What one event does to the grant, the plan and the roster, said once: a move in which they change together,
with changes before and after it that the laws of the grant do not read. -/

namespace Sys2Proof.Machine

open Sys2Proof.Safety

/-! ### What the laws of the grant read -/

/-- The two states agree in all that the laws of the grant, the plan and the settled flag read. -/
structure Alike (s u : State) : Prop where
  copy : u.loader.heldCopy = s.loader.heldCopy
  state : u.life.state = s.life.state
  phase : u.life.phase = s.life.phase
  grant : u.grantCtl.grant = s.grantCtl.grant
  settled : u.grantCtl.settled = s.grantCtl.settled
  hold : u.grantCtl.raiseHold = s.grantCtl.raiseHold
  deficit : u.grantCtl.deficit = s.grantCtl.deficit
  degraded : u.link.degraded = s.link.degraded
  planner : u.planner = s.planner
  cut : u.enf.state.cutOrCooling = s.enf.state.cutOrCooling
  trim : u.meter.trim = s.meter.trim
  estimate : u.meter.estimate = s.meter.estimate
  digestKeys : u.roster.entries.map Entry.digestKey = s.roster.entries.map Entry.digestKey
  planKeys : u.roster.entries.map Entry.planKey = s.roster.entries.map Entry.planKey
  agrees : u.roster.entries.all Entry.agrees = s.roster.entries.all Entry.agrees
  overflow : u.roster.overflow = s.roster.overflow

theorem Alike.refl (s : State) : Alike s s := by constructor <;> rfl

theorem Alike.trans {s m u : State} (h : Alike s m) (k : Alike m u) : Alike s u where
  copy := k.copy.trans h.copy
  state := k.state.trans h.state
  phase := k.phase.trans h.phase
  grant := k.grant.trans h.grant
  settled := k.settled.trans h.settled
  hold := k.hold.trans h.hold
  deficit := k.deficit.trans h.deficit
  degraded := k.degraded.trans h.degraded
  planner := k.planner.trans h.planner
  cut := k.cut.trans h.cut
  trim := k.trim.trans h.trim
  estimate := k.estimate.trans h.estimate
  digestKeys := k.digestKeys.trans h.digestKeys
  planKeys := k.planKeys.trans h.planKeys
  agrees := k.agrees.trans h.agrees
  overflow := k.overflow.trans h.overflow

/-- The second state is the first with the second's roster (R42). -/
def RosterMoved (s m : State) : Prop := Alike { s with roster := m.roster } m

/-- The second state is the first with the second's deficit (R61, R63). -/
def DeficitMoved (s m : State) : Prop :=
  Alike { s with grantCtl := { s.grantCtl with deficit := m.grantCtl.deficit } } m

/-- The second state is the first with the second's host demand, Meter, enforcement state and deficit (R3). -/
def DemandMoved (s m : State) : Prop :=
  Alike { s with
    planner := { s.planner with claim := { s.planner.claim with hostDemand := m.planner.claim.hostDemand } }
    meter := m.meter, enf := m.enf
    grantCtl := { s.grantCtl with deficit := m.grantCtl.deficit } } m

/-- A state as another that it agrees with, reached by a chain of changes. -/
structure Pad (s u : State) : Prop where
  alike : Alike s u
  chain : Changes s u

theorem Pad.refl (s : State) : Pad s s := ⟨.refl s, .refl⟩

theorem Pad.trans {s m u : State} (h : Pad s m) (k : Pad m u) : Pad s u := ⟨h.alike.trans k.alike, h.chain.trans k.chain⟩

theorem Pad.ite {c : Prop} [Decidable c] {s u : State} (h : Pad s u) : Pad s (if c then u else s) := by
  split
  · exact h
  · exact .refl s

/-! ### The moves -/

/-- Neither a host demand nor a trim stands, as right after a restart. -/
def State.IdleDemand (s : State) : Prop := s.planner.claim.hostDemand = 0 ∧ s.meter.trim = none

/-- What a roster event, a SHED frame or the end of the shed hold does. -/
inductive Taking : State → State → Prop
  | pad {s u : State} (h : Pad s u) : Taking s u
  | roster {s m v : State} (hm : RosterMoved s m) (hc : Changes s m) (hv : RosterMoved (commit s m) v)
      (hcv : Changes (commit s m) v) (hd : v.roster.entries.map Entry.digestKey = (commit s m).roster.entries.map Entry.digestKey)
      (hp : v.roster.entries.map Entry.planKey = (commit s m).roster.entries.map Entry.planKey) :
      Taking s (evalSettled v)
  | shed {s m : State} (hm : DeficitMoved s m) (hc : Changes s m) : Taking s (commit s m)

/-- What one event does to the grant, the plan, the roster and the station state. -/
inductive Move : State → State → Prop
  | taking {s u : State} (h : Taking s u) : Move s u
  | raiseHold (s : State) : Move s (weighRaise { s with grantCtl := { s.grantCtl with raiseHold := .expired } })
  | demand {s m : State} (hm : DemandMoved s m) (hc : Changes s m) (hclaim : ClaimLaw s → ClaimLaw m)
      (hidle : s.life.state = .loading → s.IdleDemand → m.IdleDemand) : Move s (commitDemand s m)
  | listening {s : State} (hs : s.life.state = .dormant) : Move s (enterListening s)
  | leaving {s : State} (hs : s.life.state.leaves = true) : Move s (enterLeaving s)
  | dormant {s : State} (hs : s.life.state = .leaving) : Move s (enterDormant s)
  | duplicate {s : State} (hs : s.life.state.plans = true) : Move s (enterDuplicate s)
  | joining {s : State} (hs : s.life.state.plans = true) : Move s (enterJoining s)
  | isolated {s : State} (hs : s.life.state.plans = true) : Move s (enterIsolated s)
  | spent {s : State} (hs : s.life.state.plans = true) : Move s (enterSpent s)
  | fallback {s : State} (hs : s.life.state.plans = true) : Move s (enterFallback s)
  | fault (s : State) (r : FaultReason) : Move s (enterFault r s)
  | load (s : State) (img : List Byte) (hs : s.life.state = .loading) :
      Move s (evalSettled (handOn true true (startTimers (enterListening
        (takeStationRecord (paramsOf img) (placeImage img s))))))

/-- One event without its report to the Link Monitor: a move, or a frame taken that then ends ISOLATED (R78). -/
inductive Event : State → State → Prop
  | moved {s a b u : State} (pre : Pad s a) (h : Move a b) (post : Pad b u) : Event s u
  | rejoined {s a b c u : State} (pre : Pad s a) (h : Taking a b) (mid : Pad b c) (hs : c.life.state = .isolated)
      (post : Pad (enterJoining c) u) : Event s u

/-- One event with its report to the Link Monitor before it, after it, or with none (R117, log 7). -/
inductive Whole : State → State → Prop
  | plain {s u : State} (h : Event s u) : Whole s u
  | windowFirst {s a u : State} (pre : Pad s a) (d : Bool) (h : Event (frameEvent d a) u) : Whole s u
  | windowLast {s m : State} (h : Event s m) (d : Bool) : Whole s (frameEvent d m)

theorem Event.pad {s u : State} (h : Pad s u) : Event s u := .moved h (.taking (.pad (.refl u))) (.refl u)

theorem Event.move {s u : State} (h : Move s u) : Event s u := .moved (.refl s) h (.refl u)

theorem Event.after {s a u : State} (pre : Pad s a) (h : Event a u) : Event s u := by
  cases h with
  | moved pre' h post => exact .moved (pre.trans pre') h post
  | rejoined pre' h mid hs post => exact .rejoined (pre.trans pre') h mid hs post

theorem Event.before {s m u : State} (h : Event s m) (post : Pad m u) : Event s u := by
  cases h with
  | moved pre h post' => exact .moved pre h (post'.trans post)
  | rejoined pre h mid hs post' => exact .rejoined pre h mid hs (post'.trans post)

theorem Event.ite {c : Prop} [Decidable c] {s u v : State} (hu : c → Event s u) (hv : ¬c → Event s v) :
    Event s (if c then u else v) := by
  split
  · exact hu ‹_›
  · exact hv ‹_›

theorem Whole.pad {s u : State} (h : Pad s u) : Whole s u := .plain (.pad h)

theorem Whole.move {s a u : State} (pre : Pad s a) (h : Move a u) : Whole s u := .plain (.moved pre h (.refl u))

theorem Whole.after {s a u : State} (pre : Pad s a) (h : Whole a u) : Whole s u := by
  cases h with
  | plain h => exact .plain (h.after pre)
  | windowFirst pre' d h => exact .windowFirst (pre.trans pre') d h
  | windowLast h d => exact .windowLast (h.after pre) d

theorem Whole.ite {c : Prop} [Decidable c] {s u v : State} (hu : c → Whole s u) (hv : ¬c → Whole s v) :
    Whole s (if c then u else v) := by
  split
  · exact hu ‹_›
  · exact hv ‹_›

end Sys2Proof.Machine
end

section
/-! SUPPORT. Every command but a fault of the storage is one event, or a restart. -/

namespace Sys2Proof.Machine

open Sys2Proof.Safety

/-! ### What the laws of the grant do not read -/

theorem time_pad (s : State) (t : Time) : Pad s (s.atTime t) := ⟨by constructor <;> simp, (Change.time s t).one⟩

theorem raiseNote_pad (n : Notification) (s : State) : Pad s (raiseNote n s) :=
  ⟨by constructor <;> simp, raiseNote_changes n s⟩

theorem raiseRequest_pad (k : Kind) (x : Current) (s : State) : Pad s (raiseRequest k x s) :=
  ⟨by constructor <;> simp, raiseRequest_changes k x s⟩

theorem discardHostFrame_pad (s : State) : Pad s (discardHostFrame s) :=
  ⟨by constructor <;> simp, discardHostFrame_changes s⟩

theorem endHostFrame_pad (s : State) : Pad s (endHostFrame s) := ⟨by constructor <;> simp, endHostFrame_changes s⟩

/-- The host line alone (R164, R165). -/
theorem hostLine_pad (s : State) (h : HostPort) (hq : h.queue = s.host.queue) (hl : h.lostFlag = s.host.lostFlag)
    (hn : h.notesLost = s.host.notesLost) (hd : Counted s.host.framesDiscarded h.framesDiscarded) :
    Pad s { s with host := h } := ⟨by constructor <;> rfl, (Change.hostLine s h hq hl hn hd).one⟩

theorem loader_pad (s : State) (l : Loader) (hs : l.stage = s.loader.stage) (hc : l.heldCopy = s.loader.heldCopy)
    (hn : l.networkDigest = s.loader.networkDigest) : Pad s { s with loader := l } :=
  ⟨by constructor <;> first | exact hc | rfl, (Change.loader s l hs hc hn).one⟩

theorem life_pad (s : State) (l : Lifecycle) (hs : l.state = s.life.state) (hp : l.phase = s.life.phase) :
    Pad s { s with life := l } :=
  ⟨by constructor <;> first | exact hs | exact hp | rfl, (Change.life s l hs hp).one⟩

theorem setRate_pad (r : LineRate) (s : State) : Pad s (setRate r s) := ⟨by constructor <;> simp, setRate_changes r s⟩

theorem applyRateDue_pad (s : State) : Pad s (applyRateDue s) := ⟨by constructor <;> simp, applyRateDue_changes s⟩

theorem restartWindow_pad (s : State) : Pad s (restartWindow s) := ⟨by constructor <;> simp, restartWindow_changes s⟩

theorem markAttempt_pad (m : FirstFrame) (bytes : List Byte) (s : State) : Pad s (markAttempt m bytes s) :=
  ⟨by constructor <;> simp, markAttempt_changes m bytes s⟩

theorem frameEnds_pad {s : State} (bytes : List Byte) (hb : s.bus.assembly ≠ .empty ∨ s.bus.attempt ≠ none) :
    Pad s (frameEnds bytes s) := ⟨by constructor <;> simp, frameEnds_changes bytes hb⟩

theorem countValid_pad (s : State) : Pad s (countValid s) := ⟨by constructor <;> simp, countValid_changes s⟩

theorem answer_pad (s : State) (a : Trailer) : Pad s { s with bus := { s.bus with trailer := a } } :=
  ⟨by constructor <;> rfl, answer_changes s a⟩

theorem abandon_pad {s : State} (level : Bool) (hb : s.bus.assembly ≠ .empty) : Pad s (abandon level s) :=
  ⟨by constructor <;> simp, abandon_changes level hb⟩

theorem slotsRead_pad {s : State} (accept refuse : Bool) (f : Frame) (ha : s.bus.attempt ≠ none) :
    Pad s (slotsRead accept refuse f s) := ⟨by constructor <;> simp, slotsRead_changes accept refuse f ha⟩

theorem keepAssembling_pad {s : State} (o : AssemblyOrigin) (f : Frame) (pos : Nat) (ha : s.bus.attempt ≠ none) :
    Pad s (keepAssembling o f pos s) := ⟨by constructor <;> simp, keepAssembling_changes o f pos ha⟩

theorem finishAttempt_pad {s : State} (o : AttemptOutcome) {a : InFlight} (ha : s.sched.inFlight = some a) :
    Pad s (finishAttempt o a s) := ⟨by constructor <;> simp, (Change.attemptEnds s o a ha).one⟩

theorem countIsolation_pad (o : AttemptOutcome) (s : State) : Pad s (countIsolation o s) :=
  ⟨by constructor <;> simp, countIsolation_changes o s⟩

theorem setMarks_pad (o : AttemptOutcome) (s : State) : Pad s (setMarks o s) :=
  ⟨by constructor <;> simp, setMarks_changes o s⟩

theorem noteCut_pad (s : State) : Pad s (noteCut s) := raiseNote_pad _ s

/-- The judgement of the load moves the enforcement state between CLEAR and OVER alone (R141, R143). -/
theorem judgeLoad_pad (s : State) : Pad s (judgeLoad s) := by
  refine ⟨?_, judgeLoad_changes s⟩
  unfold judgeLoad judgeFigure
  (repeat' split) <;> rename_i h <;> first
    | exact .refl s
    | (constructor <;> simp [enterOver, leaveOver, noteCut, EnfState.cutOrCooling, *])

/-! ### The roster's events (R42) -/

theorem RosterMoved.of_alike {s m : State} (h : Alike s m) : RosterMoved s m where
  copy := h.copy
  state := h.state
  phase := h.phase
  grant := h.grant
  settled := h.settled
  hold := h.hold
  deficit := h.deficit
  degraded := h.degraded
  planner := h.planner
  cut := h.cut
  trim := h.trim
  estimate := h.estimate
  digestKeys := rfl
  planKeys := rfl
  agrees := rfl
  overflow := rfl

/-- What an event has done to the roster is noted before it is handed on. -/
theorem RosterMoved.noteRoster {s m : State} (h : RosterMoved s m) : RosterMoved s (noteRoster s m) := by
  have hroster : (Machine.noteRoster s m).roster = m.roster := by simp
  unfold RosterMoved at h ⊢
  rw [hroster]
  exact h.trans (by constructor <;> simp)

/-- An event of the roster that is handed on, with nothing or only a request after it. -/
theorem Taking.handRoster {s m v : State} (hm : RosterMoved s m) (hc : Changes s m) (hv : Pad (handRoster s m) v) :
    Taking s (evalSettled v) :=
  .roster hm.noteRoster (hc.trans (noteRoster_changes s m)) (.of_alike hv.alike) hv.chain hv.alike.digestKeys hv.alike.planKeys

theorem takeClaim_moved (n : Station) (network : Word16) (c : ClaimPart) (st : Option StatusPart) (s : State) :
    RosterMoved s (takeClaim n network c st s) := by constructor <;> simp

theorem takeHearsay_moved {s m : State} (n : Station) (quiet : BitVec 64) (h : RosterMoved s m) :
    RosterMoved s (takeHearsay n quiet m) :=
  Alike.trans (m := { m with roster := (takeHearsay n quiet m).roster })
    ⟨h.copy, h.state, h.phase, h.grant, h.settled, h.hold, h.deficit, h.degraded, h.planner, h.cut, h.trim, h.estimate,
      rfl, rfl, rfl, rfl⟩ (by constructor <;> simp)

/-- Setting the confirmed flag of a sender touches no key. -/
theorem confirmSender_keys (n : Station) (digest : Word16) (s : State) :
    (confirmSender n digest s).roster.entries.map Entry.digestKey = s.roster.entries.map Entry.digestKey ∧
    (confirmSender n digest s).roster.entries.map Entry.planKey = s.roster.entries.map Entry.planKey := by
  unfold confirmSender
  constructor <;> refine (List.map_map ..).trans (List.map_congr_left fun e _ => ?_) <;>
    simp only [Function.comp_apply] <;> split <;> rfl

theorem takeStatus_taking {n : Station} {network : Word16} {c : ClaimPart} {st : StatusPart} {s : State}
    (hs : s.life.state ≠ .loading) (hown : n ≠ s.ownStation) (hc : c.inRange = true)
    (hg : st.grant.toNat ≤ c.max.toNat) : Taking s (takeStatus n network c st s) := by
  unfold takeStatus
  dsimp only
  have h1 : Changes s (takeClaim n network c (some st) s) :=
    takeClaim_changes hs hown hc fun p hp => by cases hp; exact hg
  have hmoved := takeClaim_moved n network c (some st) s
  obtain ⟨hdigest, hplan⟩ := confirmSender_keys n st.rosterDigest (handRoster s (if s.canHold n = true then
    takeHearsay n st.quiet (takeClaim n network c (some st) s) else takeClaim n network c (some st) s))
  refine .roster (RosterMoved.noteRoster ?_) (Relation.ReflTransGen.trans ?_ (noteRoster_changes s _))
    (by constructor <;> simp [handRoster]) (confirmSender_changes n st.rosterDigest _) hdigest hplan
  · split
    · exact takeHearsay_moved n st.quiet hmoved
    · exact hmoved
  · exact Changes.ite (fun _ => h1.trans (takeHearsay_changes n _ (by simpa using hs))) fun _ => h1

theorem takeAnnounce_taking {n : Station} {network : Word16} {c : ClaimPart} {s : State}
    (hs : s.life.state ≠ .loading) (hown : n ≠ s.ownStation) (hc : c.inRange = true) :
    Taking s (takeAnnounce n network c s) :=
  .handRoster (takeClaim_moved n network c none s) (takeClaim_changes hs hown hc fun p hp => by cases hp)
    (raiseRequest_pad .status 0 _)

theorem takeLeave_taking (n : Station) (s : State) : Taking s (takeLeave n s) := by
  unfold takeLeave
  dsimp only
  split
  · exact .handRoster (by constructor <;> simp) ((answer_changes s .accept).tail (.drop _ n)) (.refl _)
  · exact .pad (answer_pad s .accept)

/-- A sender that counts as heard keeps its keys and its confirmed flag (R32). -/
theorem refreshSender_alike (n : Station) (s : State) : Alike s (refreshSender n s) := by
  have hkeep : ∀ e : Entry, (e.refresh s.now s.forgetAt).digestKey = e.digestKey ∧
      (e.refresh s.now s.forgetAt).planKey = e.planKey ∧ (e.refresh s.now s.forgetAt).agrees = e.agrees := by
    intro e
    unfold Entry.refresh
    split
    · next ho hc => simp [Entry.digestKey, Entry.planKey, Entry.agrees, ho, hc]
    · next ho hc =>
      cases hcls : e.cls with
      | live => exact absurd hcls hc
      | quiet | mismatch => simp [Entry.digestKey, Entry.planKey, Entry.agrees, ho, hcls]
    · exact ⟨rfl, rfl, rfl⟩
  have hmap : ∀ {α} (g : Entry → α), (∀ e : Entry, g (e.refresh s.now s.forgetAt) = g e) →
      (refreshSender n s).roster.entries.map g = s.roster.entries.map g := by
    intro α g hg
    unfold refreshSender
    refine (List.map_map ..).trans (List.map_congr_left fun e _ => ?_)
    simp only [Function.comp_apply]
    split
    · exact hg e
    · rfl
  have hall : (refreshSender n s).roster.entries.all Entry.agrees = s.roster.entries.all Entry.agrees := by
    have h := congrArg (fun l => l.all id) (hmap Entry.agrees fun e => (hkeep e).2.2)
    simpa [List.all_map] using h
  constructor <;> first | exact hmap _ fun e => (hkeep e).1 | exact hmap _ fun e => (hkeep e).2.1 | exact hall | simp

theorem judgeShed_moved (network : Word16) (excess : Current) {s m : State} (h : Alike s m) :
    DeficitMoved s (judgeShed network excess m) :=
  Alike.trans (m := { m with grantCtl := { m.grantCtl with deficit := (judgeShed network excess m).grantCtl.deficit } })
    ⟨h.copy, h.state, h.phase, h.grant, h.settled, h.hold, rfl, h.degraded, h.planner, h.cut, h.trim, h.estimate,
      h.digestKeys, h.planKeys, h.agrees, h.overflow⟩ (by constructor <;> simp)

theorem takeShed_taking (n : Station) (network : Word16) (excess : Current) (s : State) :
    Taking s (takeShed n network excess s) :=
  .shed (judgeShed_moved network excess ((answer_pad s .accept).alike.trans (refreshSender_alike n (answerAccept s))))
    (((answer_changes s .accept).trans (refreshSender_changes n _)).trans (judgeShed_changes network excess _))

theorem takePeerFrame_taking {f : Frame} {s : State} (hs : s.life.state ≠ .loading) (hown : f.station ≠ s.ownStation)
    (hf : f.inRange = true) : Taking s (takePeerFrame f s) := by
  cases f with
  | shed n network excess => exact takeShed_taking n network _ s
  | leave n network serial => exact takeLeave_taking n s
  | announce n network c => exact takeAnnounce_taking hs hown hf
  | status n network c st =>
    simp only [Frame.inRange, Bool.and_eq_true, decide_eq_true_eq] at hf
    exact takeStatus_taking hs hown hf.1 hf.2

theorem countSilences_taking (s : State) : Taking s (countSilences s) := by
  unfold countSilences
  split
  · exact .handRoster (by constructor <;> rfl)
      (Change.entries s (fun e => e.countSilence s.params.silenceLimit s.params.forgetPeriod)
        fun e => e.countSilence_keptAs _ _).one (.refl _)
  · exact .pad (.refl s)

theorem forgetEntry_taking {n : Station} {s : State} (hs : s.life.state ≠ .loading)
    (hn : hasEntry n s.roster.entries = true) : Taking s (forgetEntry n s) :=
  .handRoster (by constructor <;> rfl) (Change.forget s n hs hn _ rfl).one (.refl _)

/-! ### Frames and outcomes -/

theorem reportPeerFrame_event {s m : State} (h : Taking s m) : Event s (reportPeerFrame m) := by
  have hpad : Pad m { m with sched := { m.sched with isolationCount := 0 } } :=
    ⟨by constructor <;> rfl, (Change.isolationCount m 0 (Nat.zero_le _)).one⟩
  unfold reportPeerFrame
  dsimp only
  split
  · next hs => exact .rejoined (.refl s) h hpad hs (.refl _)
  · exact .moved (.refl s) (.taking h) hpad

theorem takeValid_event {f : Frame} {s : State} (hs : s.life.state.plans = true) (hf : f.inRange = true) :
    Event s (takeValid f s) := by
  unfold takeValid
  split
  · exact .moved (answer_pad s .neither) (.duplicate hs) (.refl _)
  · next hown => exact reportPeerFrame_event (takePeerFrame_taking (ne_loading_of_plans hs) hown hf)

theorem receiveValid_whole {f : Frame} {s : State} (linkFirst : Bool) (hs : s.life.state.plans = true)
    (hf : f.inRange = true) : Whole s (receiveValid f linkFirst s) := by
  unfold receiveValid
  dsimp only
  split
  · exact .windowFirst (countValid_pad s) false (takeValid_event (by simpa using hs) hf)
  · exact .windowLast ((takeValid_event (by simpa using hs) hf).after (countValid_pad s)) false

theorem takeFrame_whole {f : Frame} {bytes : List Byte} (linkFirst : Bool) (s : State) (hf : f.inRange = true) :
    Whole s (takeFrame f bytes linkFirst s) := by
  unfold takeFrame
  split
  · next hc =>
    obtain ⟨htakes, hbusy⟩ := canTakeValid_spec hc
    exact (receiveValid_whole linkFirst (by simpa using plans_of_takesFrames htakes) hf).after
      ((markAttempt_pad .peer bytes s).trans (frameEnds_pad bytes (markAttempt_busy hbusy)))
  · exact .pad (.refl s)

theorem receiveKind_whole (k : Kind) (bytes : List Byte) (linkFirst : Bool) (s : State) :
    Whole s (receiveKind k bytes linkFirst s) := by
  unfold receiveKind
  split
  · next f hf => exact takeFrame_whole linkFirst s (inRange_of_judgeFrame (judgeFrame_of_frameOfKind hf).1)
  · exact .pad (.refl s)

/-- A report to the Link Monitor with nothing before it that the laws of the grant read. -/
theorem Whole.window {s a : State} (pre : Pad s a) (d : Bool) : Whole s (frameEvent d a) :=
  .windowFirst pre d (.pad (.refl _))

theorem countDamaged_pad (s : State) :
    Pad s { s with bus := { s.bus with damagedReceived := bump s.bus.damagedReceived } } :=
  ⟨by constructor <;> rfl, countDamaged_changes s⟩

theorem cutShort_whole (level : Bool) (s : State) : Whole s (cutShort level s) := by
  unfold cutShort
  split
  · next ha => exact .pad (abandon_pad level (by simp [ha]))
  · next ha => exact .window ((abandon_pad level (by simp [ha])).trans (countDamaged_pad _)) true
  · exact .pad (.refl s)
  · exact .pad (.refl s)

theorem receiveDamaged_whole (s : State) : Whole s (receiveDamaged s) :=
  .window ⟨by constructor <;> rfl, (Change.bus s { s.bus with
      assembly := .empty, trailer := .refuse, damagedReceived := bump s.bus.damagedReceived }
    ⟨.same _, .same _, .same _, .same _, .same _, .same _, .up _⟩ rfl
    fun hline hidle => by obtain ⟨h1, h2, -, h4⟩ := hline hidle; exact ⟨h1, h2, rfl, h4⟩).one⟩ true

theorem takeDamaged_whole (bytes : List Byte) (s : State) : Whole s (takeDamaged bytes s) := by
  unfold takeDamaged
  split
  · next h =>
    exact (receiveDamaged_whole _).after ((markAttempt_pad .broken bytes s).trans
      (frameEnds_pad bytes (markAttempt_busy (canTakeDamaged_busy h.2))))
  · exact .pad (.refl s)

theorem lifecycleOutcome_event {o : AttemptOutcome} {k : Kind} {limit dropped : Bool} {s : State}
    (hlimit : limit = true → s.life.state.plans = true) : Event s (lifecycleOutcome o k limit dropped s) := by
  have hmarks := setMarks_pad o s
  unfold lifecycleOutcome
  dsimp only
  split
  · next h => exact .moved hmarks (.isolated (by simpa using hlimit h)) (.refl _)
  · split
    · next h => exact .moved hmarks (.joining (by rw [h.1]; rfl)) (.refl _)
    · split
      · next h => exact .moved hmarks (.dormant h.1) (.refl _)
      · exact .pad hmarks

theorem endAttempt_whole {o : AttemptOutcome} {a : InFlight} {s : State} (ha : s.sched.inFlight = some a) :
    Whole s (endAttempt o a s) := by
  rw [endAttempt_eq]
  have hfinish := finishAttempt_pad o ha
  have hafter : Event (reportOutcome o (finishAttempt o a s)) (lifecycleOutcome o a.kind
      ((finishAttempt o a s).limitReached o) (o.drops a.request) (countIsolation o (reportOutcome o (finishAttempt o a s)))) :=
    (lifecycleOutcome_event fun h => by simpa using limitReached_plans h).after (countIsolation_pad o _)
  cases o with
  | lost => exact .plain (hafter.after hfinish)
  | accepted | unheard => exact .windowFirst hfinish false hafter
  | partly | aborted => exact .windowFirst hfinish true hafter

theorem takeOutcome_whole (accept refuse : Bool) (s : State) : Whole s (takeOutcome accept refuse s) := by
  unfold takeOutcome
  split
  · exact .pad (.refl s)
  · next a r hopen =>
    obtain ⟨hattempt, hflight⟩ := ownAttempt_eq_some (openAttempt_eq_some hopen).1
    exact (endAttempt_whole (by simpa using hflight)).after (slotsRead_pad accept refuse a.frame (by simp [hattempt]))

theorem loseAt_whole (pos : Nat) (s : State) : Whole s (loseAt pos s) := by
  unfold loseAt
  split
  · exact .pad (.refl s)
  · next a r hown =>
    obtain ⟨hattempt, hflight⟩ := ownAttempt_eq_some hown
    exact .ite (fun _ => (endAttempt_whole (by simpa using hflight)).after
      (keepAssembling_pad _ _ pos (by simp [hattempt]))) fun _ => .pad (.refl s)

theorem abortAt_whole (pos : Nat) (s : State) : Whole s (abortAt pos s) := by
  unfold abortAt
  split
  · exact .pad (.refl s)
  · next a r hown =>
    obtain ⟨hattempt, hflight⟩ := ownAttempt_eq_some hown
    exact .ite (fun _ => (endAttempt_whole (by simpa using hflight)).after
      (keepAssembling_pad _ _ pos (by simp [hattempt]))) fun _ => .pad (.refl s)

theorem takeDrop_whole (cause : DropCause) (s : State) : Whole s (takeDrop cause s) := by
  cases cause with
  | aborted pos => exact abortAt_whole pos s
  | partly => exact takeOutcome_whole true true s

theorem takeFrameEvent_whole (ev : FrameEvent) (s : State) : Whole s (takeFrameEvent ev s) := by
  cases ev with
  | received bytes linkFirst =>
    change Whole s (takeReceived bytes linkFirst s)
    unfold takeReceived
    split
    · next f hf => exact takeFrame_whole linkFirst s (inRange_of_judgeFrame hf)
    · exact takeDamaged_whole bytes s
    · exact .pad (.refl s)
  | cutShort level => exact cutShort_whole level s
  | outcome accept refuse => exact takeOutcome_whole accept refuse s
  | aborted pos => exact abortAt_whole pos s

/-! ### The Meter, the timers and the Enforcement Unit -/

/-- What a slow update may make of the trim: it stands, it is gone, or it is fixed within min..host demand (R131 to R133). -/
def TrimStep (s m : State) : Prop :=
  m.meter.trim = s.meter.trim ∨ m.meter.trim = none ∨
  ∃ x, x < s.planner.claim.hostDemand ∧ m.meter.trim = some (max s.planner.claim.min x)

theorem endTrim_trim_or (s : State) : (endTrim s).meter.trim = s.meter.trim ∨ (endTrim s).meter.trim = none := by
  rw [endTrim_trim]
  split
  · exact .inr rfl
  · exact .inl rfl

/-- While the trim condition holds the value to be fixed lies below the host demand (R131, R132). -/
theorem below_of_trimCondition {s : State} (h : s.trimCondition = true) :
    s.meter.load.settledSlow.getD 0 + s.params.trimMargin < s.planner.claim.hostDemand := by
  unfold State.trimCondition at h
  split at h
  · next v hv => simp_all
  · cases h

theorem judgeWatch_trimStep (d : Time) (s : State) : TrimStep s (judgeWatch d s) := by
  unfold judgeWatch
  split
  · exact .inl rfl
  · next h =>
    split
    · exact .inl rfl
    · split
      · exact .inr (.inr ⟨_, below_of_trimCondition (not_not.mp h), rfl⟩)
      · exact .inl rfl

theorem judgeTrim_trimStep (d : Time) (s : State) : TrimStep s (judgeTrim d s) := by
  unfold judgeTrim
  split
  · have hw := judgeWatch_trimStep d (endTrim s)
    unfold TrimStep at hw ⊢
    have hplanner : (endTrim s).planner = s.planner := by simp
    rw [hplanner] at hw
    rcases hw with hw | hw | hw
    · rw [hw]; exact (endTrim_trim_or s).imp_right .inl
    · exact .inr (.inl hw)
    · exact .inr (.inr hw)
  · exact (endTrim_trim_or s).imp_right .inl

theorem takeUpdate_trimStep (load feeder : Reading) (d : Time) (s : State) :
    TrimStep s (takeUpdate load feeder d s) := by
  generalize hfast : noteSense s (judgeOverload feeder (withdrawFigures (takeReadings load feeder s))) = fast
  have hplanner : fast.planner = s.planner := by subst hfast; simp
  have htrim : fast.meter.trim = s.meter.trim ∨ fast.meter.trim = none := by
    subst hfast
    simp only [noteSense_frame, judgeOverload_frame, withdrawFigures, takeReadings]
    exact (ite_eq_or_eq ..).symm
  have hslow : (slowPart d fast).meter.trim = (judgeTrim d (formSlowFigures fast)).meter.trim := rfl
  have htake : (takeUpdate load feeder d s).meter.trim =
      (if s.slowDue then slowPart d fast else fast).meter.trim := by
    simp [takeUpdate, hfast, countUpdate]
  unfold TrimStep
  rw [htake]
  split
  · have hw := judgeTrim_trimStep d (formSlowFigures fast)
    unfold TrimStep at hw
    rw [← hslow] at hw
    rcases hw with hw | hw | hw
    · exact (htrim.imp (hw.trans ·) (hw.trans ·)).imp_right .inl
    · exact .inr (.inl hw)
    · exact .inr (.inr (hplanner ▸ hw))
  · exact htrim.imp_right .inl

/-- A trim that is kept, given up or fixed so leaves the claim in order. -/
theorem claimLaw_of_trimStep {s m : State} (h : ClaimLaw s) (hcopy : m.loader.heldCopy = s.loader.heldCopy)
    (hclaim : m.planner.claim = s.planner.claim) (ht : TrimStep s m) : ClaimLaw m := by
  obtain ⟨hmin, hmax, hhost, htrim⟩ := h
  unfold ClaimLaw
  rw [hclaim, params_congr hcopy]
  refine ⟨hmin, hmax, hhost, fun v hv => ?_⟩
  rcases ht with hsame | hnone | ⟨x, hx, hsome⟩
  · exact htrim v (hsame ▸ hv)
  · rw [hnone] at hv; cases hv
  · rw [hsome] at hv
    cases hv
    have hlow : s.planner.claim.min ≤ s.planner.claim.hostDemand :=
      (hhost.resolve_left (Nat.ne_of_gt (Nat.lt_of_le_of_lt (Nat.zero_le x) hx))).1
    exact ⟨Nat.le_max_left _ _, Nat.max_le.mpr ⟨hlow, Nat.le_of_lt hx⟩⟩

/-- Where no host demand stands no trim is fixed. -/
theorem idleDemand_of_trimStep {s m : State} (h : s.IdleDemand) (hclaim : m.planner.claim = s.planner.claim)
    (ht : TrimStep s m) : m.IdleDemand := by
  obtain ⟨hhost, htrim⟩ := h
  refine ⟨hclaim ▸ hhost, ?_⟩
  rcases ht with hsame | hnone | ⟨x, hx, -⟩
  · exact hsame.trans htrim
  · exact hnone
  · exact absurd (hhost ▸ hx) (Nat.not_lt_zero x)

theorem meterUpdate_whole (load feeder : Reading) (d : Time) (s : State) : Whole s (meterUpdate load feeder d s) :=
  .plain (.moved (.refl s) (.demand (by constructor <;> simp) (takeUpdate_changes load feeder d s)
    (fun h => claimLaw_of_trimStep h (by simp) (by simp) (takeUpdate_trimStep load feeder d s))
    fun _ h => idleDemand_of_trimStep h (by simp) (takeUpdate_trimStep load feeder d s)) (judgeLoad_pad _))

theorem enterCut_whole (s : State) : Whole s (enterCut s) :=
  .plain (.moved (.refl s) (.demand (by constructor <;> simp)
    (((Change.enfTimers s { s.enf with overdraw := .stopped } rfl).one.tail (.enforce _ .cut)).tail (.meter _ _))
    (fun h => claimLaw_of_trimStep h (by simp) (by simp) (.inr (.inl rfl)))
    fun _ h => idleDemand_of_trimStep h (by simp) (.inr (.inl rfl))) (noteCut_pad _))

theorem leaveCooling_whole (s : State) : Whole s (leaveCooling s) :=
  .plain (.moved (.refl s) (.demand (by constructor <;> simp)
    ((Change.enfTimers s { s.enf with recovery := .stopped } rfl).one.tail (.enforce _ .clear))
    (fun h => claimLaw_of_trimStep h (by simp) (by simp) (.inl (by simp)))
    fun _ h => idleDemand_of_trimStep h (by simp) (.inl (by simp))) (noteCut_pad _))

theorem cycleExpires_whole (d : Time) (s : State) : Whole s (cycleExpires d s) :=
  .plain (.moved (life_pad s { s.life with cycle := some (d + s.params.cyclePeriod) } rfl rfl)
    (.taking (countSilences_taking _)) (raiseRequest_pad .status 0 _))

theorem listenEnds_whole {s : State} (hs : s.life.state = .listening) : Whole s (listenEnds s) :=
  .plain (.moved (life_pad s { s.life with listen := none } rfl rfl) (.joining (by simp [hs, StationState.plans]))
    (raiseRequest_pad .announce 0 _))

theorem shedHoldEnds_whole (s : State) : Whole s (shedHoldEnds s) :=
  .move (.refl s) (.taking (.shed (by constructor <;> rfl) ((Change.grantCtl s _).one.tail (.note _ _))))

theorem fallbackReached_whole {s : State} (hs : s.life.state = .isolated) : Whole s (fallbackReached s) := by
  have hplans : s.life.state.plans = true := by rw [hs]; rfl
  exact .ite (fun _ => .move (.refl s) (.spent hplans)) fun _ => .move (.refl s) (.fallback hplans)

/-! ### The Loader and the Host Port -/

theorem imageHeld_event {s : State} (img : List Byte) (replyFollows : Bool) (hs : s.life.state = .loading) :
    Event s (imageHeld img replyFollows s) := by
  unfold imageHeld
  cases replyFollows with
  | true =>
    exact .moved (loader_pad s { s.loader with rateDue := some (lineRateOf (paramsOf img).lineRate) } rfl rfl rfl)
      (.load _ img hs) (.refl _)
  | false =>
    simp only [Bool.false_eq_true, if_false, setRate_placeImage]
    exact .moved (setRate_pad _ s) (.load _ img (by simpa using hs)) (.refl _)

theorem endLoad_event {s : State} (img : List Byte) (replyFollows : Bool) (hs : s.life.state = .loading) :
    Event s (endLoad img replyFollows s) := by
  unfold endLoad
  split
  · exact imageHeld_event img replyFollows hs
  all_goals exact .move (.fault s _)

theorem takeHeader_event {s : State} (b0 b1 : Byte) (hs : s.life.state = .loading) : Event s (takeHeader b0 b1 s) :=
  .ite (fun _ => .pad ⟨by constructor <;> rfl, (Change.awaitsHost s hs).one.tail (.note _ _)⟩) fun _ =>
    .ite (fun _ => .pad (loader_pad s { s.loader with readStep := .body b0 b1 } rfl rfl rfl))
      fun _ => .move (.fault s .format)

theorem takeBody_event {s : State} (rest : List Byte) (hs : s.life.state = .loading) : Event s (takeBody rest s) := by
  unfold takeBody
  split
  · exact endLoad_event _ _ hs
  · exact .pad (.refl s)
  · exact .pad (.refl s)

theorem reverify_event (d : Time) (s : State) : Event s (reverify d s) :=
  .ite (fun _ => .pad (loader_pad s { s.loader with reverify := some (d + Config.reverifyPeriod) } rfl rfl rfl))
    fun _ => .move (.fault s .heldCopy)

theorem setHostDemand_event {v : Current} {s : State} (hl : s.life.state ≠ .loading)
    (hv : s.params.acceptsDemand v = true) :
    Event s (setHostDemand v s) := by
  refine .ite (fun _ => .pad (.refl s)) fun _ => .move (.demand (by constructor <;> rfl)
    ((Change.planner s { s.planner with claim := { s.planner.claim with hostDemand := v } } rfl).one.tail (.meter _ _))
    (fun ⟨hmin, hmax, _, _⟩ => ⟨hmin, hmax, ?_, fun x hx => (nomatch hx)⟩) fun h => absurd h hl)
  have hrange : v = 0 ∨ (s.params.min ≤ v ∧ v ≤ s.params.max) := of_decide_eq_true hv
  rw [← hmin, ← hmax] at hrange
  exact hrange

theorem ne_loading_of_gate_demand {s : State} (h : s.gate .demand = none) : s.life.state ≠ .loading := by
  intro hl
  unfold State.gate at h
  rw [hl] at h
  cases h

/-- What a command does before its reply begins. -/
theorem act_event {c : Cmd} {s : State} (payload : List Byte) (hg : s.gate c = none) : Event s (act c payload s).after := by
  unfold act
  split
  · exact .pad (.refl s)
  · unfold actDemand
    split
    · next hv => exact setHostDemand_event (ne_loading_of_gate_demand hg) hv
    · exact .pad (.refl s)
  · rw [actPeer_after]; exact .pad (.refl s)
  · rw [actPlan_after]; exact .pad (.refl s)
  · exact .pad (.refl s)
  · unfold actNote
    split
    · exact .pad (.refl s)
    · next n rest hq => exact .pad ⟨by constructor <;> rfl, (Change.noteTaken s n rest hq).one⟩
  · have hchanges := actClearCut_changes s
    unfold actClearCut at hchanges ⊢
    split
    · next hcut => exact .pad ⟨by constructor <;> simp [hcut, EnfState.cutOrCooling, okWith], by simpa [hcut] using hchanges⟩
    all_goals exact .pad (.refl s)
  · exact .move (.leaving (leaves_of_gate hg))
  · exact .moved (.refl s) (.listening (dormant_of_gate hg)) (restartWindow_pad _)
  · exact .pad (.refl s)
  · exact endLoad_event payload true (loading_of_gate hg).1
  all_goals exact .pad (.refl s)

theorem answerTo_event (cmd : HostCommand) (s : State) : Event s (answerTo cmd s).after := by
  unfold answerTo
  split
  · exact .pad (.refl s)
  · split
    · exact .pad (.refl s)
    · next hg =>
      split
      · exact act_event _ hg
      · exact .pad (.refl s)

theorem takeCommand_event (cmd : HostCommand) (s : State) : Event s (takeCommand cmd s) :=
  (answerTo_event cmd s).before (hostLine_pad _ _ rfl rfl rfl (.same _))

theorem enterCommand_event (cmd : HostCommand) (s : State) : Event s (enterCommand cmd s) := by
  unfold enterCommand
  split
  · exact takeCommand_event cmd s
  · exact .pad (hostLine_pad s { s.host with waiting := some cmd } rfl rfl rfl (.same _))
  · exact .pad (hostLine_pad s { s.host with overrun := true, framesDiscarded := bump s.host.framesDiscarded }
      rfl rfl rfl (.up _))

theorem takeWaiting_event (s : State) : Event s (takeWaiting s) := by
  unfold takeWaiting
  split
  · exact .pad (.refl s)
  · exact (takeCommand_event _ _).after (hostLine_pad s { s.host with waiting := none } rfl rfl rfl (.same _))

theorem takeHostByte_event (b : Byte) (s : State) : Event s (takeHostByte b s) := by
  have collects : ∀ bytes, Event s (collect bytes s) := fun bytes =>
    .pad (hostLine_pad s { s.host with rx := .collecting bytes, gap := some (s.now + Config.gapLimit) }
      rfl rfl rfl (.same _))
  unfold takeHostByte
  split
  · exact .ite (fun _ => collects []) fun _ => .pad (.refl s)
  · exact .ite (fun _ => .pad (discardHostFrame_pad s)) fun _ =>
      .ite (fun _ => .ite (fun _ => (enterCommand_event _ _).after (endHostFrame_pad s))
        fun _ => .pad (discardHostFrame_pad s)) fun _ => collects _

theorem replyEnds_event (s : State) : Event s (replyEnds s) ∨ replyEnds s = restartWith .host s := by
  unfold replyEnds finishReply
  split
  · exact .inl (.pad (.refl s))
  · split
    · exact .inr rfl
    · exact .inl ((takeWaiting_event _).after
        ((hostLine_pad s { s.host with inProgress := none } rfl rfl rfl (.same _)).trans (applyRateDue_pad _)))

end Sys2Proof.Machine
end

section
/-! SUPPORT. Every command but a fault of the storage is one event, or a restart. -/

namespace Sys2Proof.Machine

open Sys2Proof.Safety

theorem onlyIf_whole {c : State → Bool} {f : State → State} {s : State} (hf : c s = true → Whole s (f s)) :
    Whole s (onlyIf c f s) := .ite hf fun _ => .pad (.refl s)

theorem arrive_whole {t : Time} {s u : State} {f : State → State} (hf : Whole (s.atTime t) (f (s.atTime t)))
    (h : arrive t s f = .next u) : Whole s u :=
  arrive_inv (P := Whole s) (.pad (time_pad s t)) (fun _ => hf.after (time_pad s t)) h

theorem expire_whole {timer : Timer} {s u : State} {f : Time → State → State}
    (hf : ∀ d, timer = some d → Whole (s.atTime d) (f d (s.atTime d))) (h : expire timer s f = .next u) : Whole s u :=
  expire_inv (P := Whole s) (.pad (.refl s)) (fun d hd _ => (hf d hd).after (time_pad s d)) h

theorem commandArrives_whole {t : Time} {code : Byte} {p : List Byte} {s u : State}
    (h : commandArrives t code p s = .next u) : Whole s u :=
  arrive_whole (onlyIf_whole fun _ => .plain ((enterCommand_event _ _).after (endHostFrame_pad _))) h

theorem carryBits_pad {s : State} (bits : List Bool) (ha : s.bus.attempt = none) : Pad s (carryBits bits s) := by
  refine ⟨?_, carryBits_changes bits ha⟩
  unfold carryBits
  split
  · constructor <;> simp
  · exact .refl s

theorem startOffered_pad (s : State) : Pad s (startOffered s) := by
  refine ⟨?_, startOffered_changes s⟩
  unfold startOffered
  split
  · exact .refl s
  · constructor <;> rfl

theorem beginAssembly_pad (s : State) : Pad s (beginAssembly s) := ⟨by constructor <;> rfl, beginAssembly_changes s⟩

/-- The effect of every command but a fault of the storage is one event, or a restart. -/
theorem exec_whole {c : Instr} {s u : State} (hc : ∀ t i b, c ≠ .reverifyTimerExpiry (.storageFault t i b))
    (h : exec c s = .next u) : Whole s u ∨ Restarted s u := by
  cases c with
  | powerOn t => cases h; exact .inr ⟨.power, t, s.restartInput, rfl⟩
  | restartInputAsserted t =>
    simp only [exec, execRestartInputAsserted, Host.Outcome.next.injEq] at h
    split at h
    · exact .inl (h ▸ .pad (time_pad s t))
    · exact .inr ⟨s.loader.cause, t, true, h.symm⟩
  | restartInputRelease t =>
    simp only [exec, execRestartInputRelease, Host.Outcome.next.injEq] at h
    split at h
    · exact .inr ⟨.pin, t, false, h.symm⟩
    · exact .inl (h ▸ .pad (time_pad s t))
  | headerRead t b0 b1 =>
    refine .inl (arrive_whole (onlyIf_whole fun hc => .plain (takeHeader_event b0 b1 ?_)) h)
    simp only [State.reads, Bool.and_eq_true, decide_eq_true_eq] at hc
    exact hc.1.1
  | imageRead t rest =>
    refine .inl (arrive_whole (onlyIf_whole fun hc => .plain (takeBody_event rest ?_)) h)
    simp only [State.reads, Bool.and_eq_true, decide_eq_true_eq] at hc
    exact hc.1.1
  | reverifyTimerExpiry ev =>
    cases ev with
    | check => exact .inl (expire_whole (fun d _ => Whole.plain (reverify_event d _)) h)
    | storageFault t i b => exact absurd rfl (hc t i b)
  | state t p | demand t p | peer t p | plan t p | counts t p | note t p | clearCut t p | leave t p | join t p
  | restart t p | config t p => exact .inl (commandArrives_whole h)
  | unknownCommand t code p =>
    simp only [exec, execUnknownCommand] at h
    split at h
    · exact .inl (commandArrives_whole h)
    · exact .inl (arrive_whole (.pad (.refl _)) h)
  | hostFrameDiscarded t bytes =>
    refine .inl (arrive_whole (onlyIf_whole ?_) h)
    exact fun _ => .pad (hostLine_pad _ { (s.atTime t).host with
      rx := .hunting, gap := none, framesDiscarded := bump s.host.framesDiscarded } rfl rfl rfl (.up _))
  | gapTimerExpiry => exact .inl (expire_whole (fun _ _ => Whole.pad (discardHostFrame_pad _)) h)
  | byteWithoutStopBit t => exact .inl (arrive_whole (Whole.pad (discardHostFrame_pad _)) h)
  | replySent t =>
    refine arrive_inv (P := fun v => Whole s v ∨ Restarted s v) (.inl (.pad (time_pad s t))) (fun _ => ?_) h
    exact (replyEnds_event (s.atTime t)).imp (fun he => .plain (he.after (time_pad s t))) fun he => ⟨.host, t, s.restartInput, he⟩
  | busIdle line =>
    refine .inl (arrive_whole (onlyIf_whole fun hc => Whole.pad (carryBits_pad _ ?_)) h)
    simp only [State.lineFree, Bool.and_eq_true, Option.isNone_iff_eq_none] at hc
    exact hc.1.1.2
  | attemptStart t => exact .inl (arrive_whole (onlyIf_whole fun _ => Whole.pad (startOffered_pad _)) h)
  | attemptLost t pos => exact .inl (arrive_whole (loseAt_whole pos _) h)
  | attemptAborted t pos => exact .inl (arrive_whole (abortAt_whole pos _) h)
  | attemptOutcomeTaken t a r => exact .inl (arrive_whole (takeOutcome_whole a r _) h)
  | requestDropped t cause => exact .inl (arrive_whole (onlyIf_whole fun _ => takeDrop_whole cause _) h)
  | isolationLimit t r => exact .inl (arrive_whole (onlyIf_whole fun _ => takeOutcome_whole false r _) h)
  | fallbackDeadline =>
    refine .inl (expire_whole (fun _ _ => onlyIf_whole fun hc => fallbackReached_whole ?_) h)
    simp only [Bool.and_eq_true, decide_eq_true_eq] at hc
    exact hc.1
  | spentDeadline =>
    refine .inl (expire_whole (fun _ _ => onlyIf_whole fun hc => Whole.move (.refl _) (.spent ?_)) h)
    simp only [Bool.and_eq_true, decide_eq_true_eq] at hc
    rw [hc.1]; rfl
  | statusFrame t b l | announceFrame t b l | leaveFrame t b l | shedFrame t b l =>
    exact .inl (arrive_whole (receiveKind_whole _ b l _) h)
  | frameCutShort v => exact .inl (arrive_whole (onlyIf_whole fun _ => cutShort_whole _ _) h)
  | frameDamaged t b => exact .inl (arrive_whole (takeDamaged_whole b _) h)
  | cycleTimerExpiry => exact .inl (expire_whole (fun d _ => cycleExpires_whole d _) h)
  | entryGoesQuiet n => exact .inl (expire_whole (fun d _ => onlyIf_whole fun _ => cycleExpires_whole d _) h)
  | listenTimerExpiry =>
    exact .inl (expire_whole (fun _ _ => onlyIf_whole fun hc => listenEnds_whole (of_decide_eq_true hc)) h)
  | forgetTimerExpiry n =>
    exact .inl (expire_whole (fun d hd => onlyIf_whole fun hc => Whole.move (.refl _) (.taking
      (forgetEntry_taking (ne_loading_of_plans (plans_of_takesFrames hc)) (hasEntry_of_forgetTimer hd)))) h)
  | raiseHoldExpiry =>
    simp only [exec, execRaiseHoldExpiry] at h
    refine .inl (expire_whole ?_ h)
    exact fun _ _ => Whole.move (.refl _) (.raiseHold _)
  | shedHoldExpiry => exact .inl (expire_whole (fun _ _ => shedHoldEnds_whole _) h)
  | statusSpacingTimerExpiry =>
    simp only [exec, execStatusSpacingTimerExpiry] at h
    refine .inl (expire_whole ?_ h)
    exact fun d _ => .pad ⟨by constructor <;> rfl, (Change.spacing (s.atTime d) none).one⟩
  | windowClose t ev => exact .inl (arrive_whole (onlyIf_whole fun _ => takeFrameEvent_whole ev _) h)
  | fastUpdate l f => exact .inl (expire_whole (fun d _ => meterUpdate_whole l f d _) h)
  | slowUpdate l f | channelFaultClears l f | overloadBegins l f =>
    exact .inl (expire_whole (fun d _ => onlyIf_whole fun _ => meterUpdate_whole l f d _) h)
  | overdrawTimerExpiry => exact .inl (expire_whole (fun _ _ => onlyIf_whole fun _ => enterCut_whole _) h)
  | recoveryTimerExpiry => exact .inl (expire_whole (fun _ _ => onlyIf_whole fun _ => leaveCooling_whole _) h)
  | startBit t => exact .inl (arrive_whole (onlyIf_whole fun _ => Whole.pad (beginAssembly_pad _)) h)
  | hostByteReceived t b => exact .inl (arrive_whole (.plain (takeHostByte_event b _)) h)

end Sys2Proof.Machine
end

section
/-! The settling of O59. The settled flag is judged again where an event has changed what it rests on. -/

namespace Sys2Proof.Machine

open Sys2Proof.Safety

/-! ### What a hand-off leaves of the roster and of the settled flag -/

/-- Without a change of the digest a hand-off leaves the roster as it is. -/
theorem handOn_roster_of_same_digest (pln : Bool) (s : State) : (handOn false pln s).roster = s.roster := by
  unfold handOn
  simp only [Bool.false_eq_true, if_false]
  (repeat' split) <;> simp [restartRaiseHold, replacePlan]

/-- What of `commitDemand` comes before the settled condition is evaluated (R4). -/
def demandHandedOn (before s : State) : State :=
  if before.planner.claim.effectiveDemand = (formDemand s).planner.claim.effectiveDemand then
    commit before (formDemand s)
  else followDemand (raiseRequest .status 0 (commit before (formDemand s)))

theorem commitDemand_eq (before s : State) : commitDemand before s =
    if digestChanged before (formDemand s) then evalSettled (demandHandedOn before s) else demandHandedOn before s := rfl

@[simp] theorem demandHandedOn_frame (before s : State) :
    (demandHandedOn before s).roster = (commit before (formDemand s)).roster ∧
    (demandHandedOn before s).planner = (commit before (formDemand s)).planner ∧
    (demandHandedOn before s).life = s.life ∧ (demandHandedOn before s).meter = s.meter ∧
    (demandHandedOn before s).enf = s.enf ∧ (demandHandedOn before s).link = s.link ∧
    (demandHandedOn before s).loader = s.loader ∧
    (demandHandedOn before s).grantCtl.settled = s.grantCtl.settled ∧
    (demandHandedOn before s).grantCtl.deficit = s.grantCtl.deficit := by
  unfold demandHandedOn
  split <;> simp

/-! ### The settled flag (R50) -/

theorem settledLaw_congr {s u : State} (h : SettledLaw s) (hst : u.life.state = s.life.state)
    (hf : u.grantCtl.settled = s.grantCtl.settled) (ho : u.roster.overflow = s.roster.overflow)
    (ha : u.roster.entries.all Entry.agrees = s.roster.entries.all Entry.agrees) : SettledLaw u := by
  unfold SettledLaw State.settledCondition at h ⊢
  rwa [hst, hf, ho, ha]

theorem Alike.settledLaw {s u : State} (h : Alike s u) (hs : SettledLaw s) : SettledLaw u :=
  settledLaw_congr hs h.state h.settled h.overflow h.agrees

/-- A change of the station state among those in which plans are computed leaves the flag and what it rests on. -/
theorem settledLaw_station {s u : State} (h : SettledLaw s) (hs : s.life.state.plans = true)
    (hf : u.grantCtl.settled = s.grantCtl.settled) (ho : u.roster.overflow = s.roster.overflow)
    (ha : u.roster.entries.all Entry.agrees = s.roster.entries.all Entry.agrees) : SettledLaw u := by
  have hsettled := h (ne_loading_of_plans hs) (by rintro hfault; simp [hfault, StationState.plans] at hs)
  intro _ _
  unfold State.settledCondition at hsettled ⊢
  rw [hf, ho, ha, hsettled]

/-- After the condition has been evaluated the flag stands as it says, whatever stood before. -/
theorem evalSettled_settledLaw (s : State) : SettledLaw (evalSettled s) := by
  intro _ _
  unfold evalSettled
  split
  · next h => exact h.symm
  · dsimp only
    split
    · split <;> simp [State.settledCondition]
    · simp [State.settledCondition]

theorem Taking.settledLaw {s u : State} (h : Taking s u) (hs : SettledLaw s) : SettledLaw u := by
  cases h with
  | pad h => exact h.alike.settledLaw hs
  | roster => exact evalSettled_settledLaw _
  | @shed m hm _ =>
    have hdig : digestChanged s m = false := by
      unfold digestChanged
      rw [hm.digestKeys, hm.planner]
      simp
    have hcommit : (commit s m).roster = m.roster := by
      unfold commit
      rw [hdig]
      exact handOn_roster_of_same_digest _ m
    exact settledLaw_congr hs (by simpa using hm.state) (by simpa using hm.settled) (by rw [hcommit]; exact hm.overflow)
      (by rw [hcommit]; exact hm.agrees)

theorem Move.settledLaw {s u : State} (h : Move s u) (hs : SettledLaw s) : SettledLaw u := by
  cases h with
  | taking h => exact h.settledLaw hs
  | raiseHold => exact settledLaw_congr hs (by simp) (by simp) (by simp) (by simp)
  | @demand m hm _ _ _ =>
    rw [commitDemand_eq]
    split
    · exact evalSettled_settledLaw _
    · next hdig =>
      have hcommit : (demandHandedOn s m).roster = m.roster := by
        rw [(demandHandedOn_frame s m).1]
        unfold commit
        rw [Bool.eq_false_iff.mpr hdig, handOn_roster_of_same_digest]
        simp
      exact settledLaw_congr hs (by simpa using hm.state) (by simpa using hm.settled)
        (by rw [hcommit]; exact hm.overflow) (by rw [hcommit]; exact hm.agrees)
  | listening hst => exact settledLaw_station hs (by rw [hst]; rfl) (by simp) (by simp) (by simp)
  | leaving hst =>
    exact settledLaw_station hs (by cases hl : s.life.state <;> simp_all [StationState.leaves, StationState.plans])
      (by simp [enterLeaving]) (by simp [enterLeaving]) (by simp [enterLeaving])
  | dormant => exact evalSettled_settledLaw _
  | duplicate hst =>
    have hentries : (enterDuplicate s).roster.entries = s.roster.entries.map (fun e => { e with forget := none }) := by
      simp [enterDuplicate, holdRoster]
    refine settledLaw_station hs hst (by simp [enterDuplicate]) (by simp [enterDuplicate]) ?_
    rw [hentries, List.all_map]
    rfl
  | joining hst | isolated hst => exact settledLaw_station hs hst (by simp) (by simp) (by simp)
  | spent hst => exact settledLaw_station hs hst (by simp [enterSpent]) (by simp [enterSpent]) (by simp [enterSpent])
  | fallback hst =>
    exact settledLaw_station hs hst (by simp [enterFallback]) (by simp [enterFallback]) (by simp [enterFallback])
  | fault r => exact fun _ hf => absurd (by simp [enterFault_writes]) hf
  | load => exact evalSettled_settledLaw _

theorem frameEvent_settledLaw (d : Bool) {s : State} (hs : SettledLaw s) : SettledLaw (frameEvent d s) :=
  settledLaw_congr hs (by simp) (by simp) (by simp) (by simp)

/-! ### Laws along an event -/

/-- A law that what the laws of the grant do not read, the moves and the report to the Link Monitor keep, an event keeps. -/
theorem Whole.keep {P : State → Prop} (hpad : ∀ s u, Pad s u → P s → P u) (hmove : ∀ s u, Move s u → P s → P u)
    (hframe : ∀ d s, P s → P (frameEvent d s)) {s u : State} (h : Whole s u) (hs : P s) : P u := by
  have hevent : ∀ s u, Event s u → P s → P u := by
    intro s u h hs
    cases h with
    | moved pre h post => exact hpad _ _ post (hmove _ _ h (hpad _ _ pre hs))
    | rejoined pre h mid hst post =>
      exact hpad _ _ post (hmove _ _ (.joining (by rw [hst]; rfl))
        (hpad _ _ mid (hmove _ _ (.taking h) (hpad _ _ pre hs))))
  cases h with
  | plain h => exact hevent _ _ h hs
  | windowFirst pre d h => exact hevent _ _ h (hframe d _ (hpad _ _ pre hs))
  | windowLast h d => exact hframe d _ (hevent _ _ h hs)

/-- A law that every event keeps, a restart brings and a fault of the storage keeps too, is kept by every step. -/
theorem step_keeps_whole {P : State → Prop} (hqueue : ∀ s rest, P s → P { s with pending := rest })
    (hpad : ∀ s u, Pad s u → P s → P u) (hmove : ∀ s u, Move s u → P s → P u)
    (hframe : ∀ d s, P s → P (frameEvent d s)) (hrestart : ∀ cause s, P (restartWith cause s)) {s u : State}
    (hfault : (∀ s i b, P s → P (upsetCopy i b s)) ∨ Claims.StorageKept s) (h : step s = .next u) (hs : P s) : P u := by
  unfold step at h
  split at h
  · cases h; exact hs
  · next c rest hpending =>
    have hs' := hqueue s rest hs
    by_cases hc : ∃ t i b, c = .reverifyTimerExpiry (.storageFault t i b)
    · obtain ⟨t, i, b, rfl⟩ := hc
      rcases hfault with hfault | hkept
      · exact arrive_inv (hpad _ _ (time_pad _ t) hs') (fun _ => hfault _ _ _ (hpad _ _ (time_pad _ t) hs')) h
      · exact absurd hpending (hkept t i b rest)
    · rcases exec_whole (fun t i b he => hc ⟨t, i, b, he⟩) h with hwhole | ⟨cause, t, input, rfl⟩
      · exact hwhole.keep hpad hmove hframe hs'
      · exact hrestart _ _

theorem step_settledLaw {s u : State} (h : step s = .next u) : SettledLaw s → SettledLaw u :=
  step_keeps_whole (fun _ _ hs => hs) (fun _ _ hp => hp.alike.settledLaw) (fun _ _ hm => hm.settledLaw)
    (fun d _ => frameEvent_settledLaw d) (fun _ _ hl => absurd rfl hl) (.inl fun _ _ _ hs => hs) h

end Sys2Proof.Machine

section
open Sys2Proof.Machine Sys2Proof.Safety

/-- Settles O59: the settled flag event by event, the request list change by change. -/
theorem stepKeepsSettledFlagAndRequestList : Obligations.StepKeepsSettledFlagAndRequestList :=
  ⟨fun _ _ hsettled h => step_settledLaw h hsettled,
   fun _ _ hrequest hattempt hisolation h =>
    ⟨step_requestLaw h hrequest, step_attemptLaw h hattempt, step_isolationLaw h hisolation⟩⟩

end
end

section
/-! SUPPORT. The grant by station state: zero where R84 says so, and in ACTIVE and JOINING never above our share. -/

namespace Sys2Proof.Machine

open Sys2Proof.Safety

/-! ### A hand-off up to the comparison of our share (R17) -/

/-- The state of a hand-off when our share is about to meet the grant. -/
def handed (dig pln : Bool) (s : State) : State :=
  let s1 := if dig then recomputeDigest s else s
  let plans := pln && s1.life.state.plans
  let grown := plans && increases s1.planner.plan s1.planNow
  let s2 := if plans then replacePlan s1 else s1
  let s3 := if dig then takeDigestChange s2 else s2
  if grown then restartRaiseHold s3 else s3

/-- A hand-off that brings a plan ends with the comparison of our share; any other stops before it. -/
theorem handOn_eq (dig pln : Bool) (s : State) :
    handOn dig pln s = if pln && s.life.state.plans then takeShare (handed dig pln s) else handed dig pln s := by
  cases dig <;> rfl

@[simp] theorem handed_frame (dig pln : Bool) (s : State) :
    (handed dig pln s).life = s.life ∧ (handed dig pln s).grantCtl.grant = s.grantCtl.grant ∧
    (handed dig pln s).grantCtl.settled = s.grantCtl.settled ∧
    (handed dig pln s).grantCtl.deficit = s.grantCtl.deficit ∧ (handed dig pln s).planner.claim = s.planner.claim ∧
    (handed dig pln s).planner.digest = (if dig then s.digestNow else s.planner.digest) ∧
    (handed dig pln s).planner.plan = (if pln && s.life.state.plans then some s.planNow else s.planner.plan) ∧
    (handed dig pln s).roster = (if dig then (clearConfirmations s).roster else s.roster) ∧
    (handed dig pln s).meter = s.meter ∧ (handed dig pln s).enf = s.enf ∧ (handed dig pln s).link = s.link ∧
    (handed dig pln s).loader = s.loader := by
  have hplan : (recomputeDigest s).planNow = s.planNow := rfl
  cases dig <;> cases pln <;> unfold handed <;>
    simp only [Bool.false_and, Bool.true_and, Bool.false_eq_true, if_false, if_true, hplan] <;>
    (repeat' split) <;> simp_all [takeDigestChange, replacePlan, clearConfirmations, recomputeDigest, restartRaiseHold]

/-! ### Where the grant stands (R60, R84) -/

/-- The grant fits the station state: its three laws together. -/
structure GrantFits (s : State) : Prop where
  phase : PhaseLaw s
  zero : ZeroGrantLaw s
  share : ShareLaw s

theorem GrantFits.congr {s u : State} (h : GrantFits s) (hst : u.life.state = s.life.state)
    (hph : u.life.phase = s.life.phase) (hg : u.grantCtl.grant = s.grantCtl.grant) (hsh : u.ownShare = s.ownShare) :
    GrantFits u := by
  obtain ⟨hphase, hzero, hshare⟩ := h
  unfold PhaseLaw at hphase
  unfold ZeroGrantLaw at hzero
  unfold ShareLaw at hshare
  constructor
  · unfold PhaseLaw; rwa [hst, hph]
  · unfold ZeroGrantLaw; rwa [hst, hph, hg]
  · unfold ShareLaw; rwa [hst, hg, hsh]

theorem Alike.ownShare {s u : State} (h : Alike s u) : u.ownShare = s.ownShare :=
  ownShare_congr (by rw [h.planner]) h.copy

theorem Alike.grantFits {s u : State} (h : Alike s u) (hs : GrantFits s) : GrantFits u :=
  hs.congr h.state h.phase h.grant h.ownShare

/-- A grant of 0 fits every state. -/
theorem GrantFits.of_zero {s : State} (hp : PhaseLaw s) (hg : s.grantCtl.grant = 0) : GrantFits s :=
  ⟨hp, ⟨fun _ => hg, fun _ => hg⟩, fun _ => by rw [hg]; exact Nat.zero_le _⟩

/-- In ISOLATED any grant fits, but in the phase SPENT. -/
theorem GrantFits.of_isolated {s : State} (hst : s.life.state = .isolated) (hph : s.life.phase ≠ .none)
    (hg : s.life.phase = .spent → s.grantCtl.grant = 0) : GrantFits s :=
  ⟨by simp [PhaseLaw, hst, hph], ⟨by simp [hst, grantIsZeroIn], hg⟩, by simp [ShareLaw, hst]⟩

/-- Our share that meets the grant leaves it fitting, wherever it stood in ACTIVE and JOINING. -/
theorem takeShare_grantFits {s : State} (hp : PhaseLaw s) (hz : ZeroGrantLaw s) : GrantFits (takeShare s) := by
  by_cases hst : s.life.state = .active ∨ s.life.state = .joining
  · have hshare : (takeShare s).ownShare = s.ownShare := ownShare_congr (by simp) (by simp)
    have hne : s.life.state ≠ .isolated := by rcases hst with h | h <;> simp [h]
    have hphase := hp.mpr hne
    have hgrant : (takeShare s).grantCtl.grant ≤ s.ownShare := by
      rw [takeShare_grant]
      dsimp only
      (repeat' split) <;> simp_all
    refine ⟨?_, ⟨?_, by simp [hphase]⟩, fun _ => hshare.symm ▸ hgrant⟩
    · simpa [PhaseLaw] using hp
    · rcases hst with h | h <;> simp [h, grantIsZeroIn]
  · rw [not_or] at hst
    rw [takeShare_elsewhere hst.1 hst.2]
    exact ⟨hp, hz, fun h => absurd h (by simp [hst.1, hst.2])⟩

theorem weighRaise_grantFits {s : State} (h : GrantFits s) : GrantFits (weighRaise s) := by
  by_cases hperm : s.permission = true
  · have hst : s.life.state = .active := by
      unfold State.permission at hperm
      simp only [Bool.and_eq_true, decide_eq_true_eq] at hperm
      exact hperm.1.1.1
    have hlow : ¬ s.ownShare < s.grantCtl.grant := not_lt.mpr (h.share (.inl hst))
    have hsame : takeShare s = weighRaise s := by simp [takeShare, hlow]
    exact hsame ▸ takeShare_grantFits h.phase h.zero
  · have hsame : weighRaise s = s := by simp [weighRaise, hperm]
    rwa [hsame]

theorem handOn_grantFits (dig pln : Bool) {s : State} (h : GrantFits s) : GrantFits (handOn dig pln s) := by
  have hp : PhaseLaw (handed dig pln s) := by simpa [PhaseLaw] using h.phase
  have hz : ZeroGrantLaw (handed dig pln s) := by simpa [ZeroGrantLaw] using h.zero
  rw [handOn_eq]
  split
  · exact takeShare_grantFits hp hz
  · next hno => exact h.congr (by simp) (by simp) (by simp) (ownShare_congr (by simp [hno]) (by simp))

theorem enterActive_grantFits {s : State} : GrantFits (enterActive s) :=
  takeShare_grantFits (by simp [PhaseLaw]) (by simp [ZeroGrantLaw, grantIsZeroIn])

theorem evalSettled_grantFits {s : State} (h : GrantFits s) : GrantFits (evalSettled s) := by
  have hflag : GrantFits { s with grantCtl := { s.grantCtl with settled := s.settledCondition } } := h.congr rfl rfl rfl rfl
  unfold evalSettled
  split
  · exact h
  · dsimp only
    split
    · split
      · exact enterActive_grantFits
      · exact weighRaise_grantFits hflag
    · exact hflag

theorem followDemand_grantFits {s : State} (h : GrantFits s) : GrantFits (followDemand s) := by
  unfold followDemand
  split
  · next hst =>
    split
    · next hph => exact .of_isolated (by simpa using hst) (by simp [hph]) (by simp [hph])
    · next hph => exact .of_isolated (by simpa using hst) (by simp [hph]) (by simp [hph])
    · exact h
    · exact h
  · exact h

theorem commitDemand_grantFits {before m : State} (h : GrantFits m) : GrantFits (commitDemand before m) := by
  have hformed : GrantFits (formDemand m) := h.congr (by simp) (by simp) (by simp) (ownShare_congr (by simp) (by simp))
  have hcommit : GrantFits (commit before (formDemand m)) := handOn_grantFits _ _ hformed
  have hhanded : GrantFits (demandHandedOn before m) := by
    unfold demandHandedOn
    split
    · exact hcommit
    · exact followDemand_grantFits (hcommit.congr (by simp) (by simp) (by simp) (ownShare_congr (by simp) (by simp)))
  rw [commitDemand_eq]
  split
  · exact evalSettled_grantFits hhanded
  · exact hhanded

theorem enterJoining_grantFits (s : State) : GrantFits (enterJoining s) := by
  unfold enterJoining
  dsimp only
  split
  · exact enterActive_grantFits
  · exact takeShare_grantFits (by simp [PhaseLaw]) (by simp [ZeroGrantLaw, grantIsZeroIn])

theorem enterIsolated_grantFits (s : State) : GrantFits (enterIsolated s) := by
  unfold enterIsolated
  dsimp only
  refine .of_isolated (by simp) ?_ ?_
  · (repeat' split) <;> simp
  · intro hph
    simp only [setGrant_frame, setStation_life] at hph
    simp [hph]

theorem setGrant_zero_grantFits {s : State} (h : PhaseLaw s) : GrantFits (setGrant 0 s) :=
  .of_zero (by simpa [PhaseLaw] using h) (by simp)

theorem enterListening_grantFits (s : State) : GrantFits (enterListening s) :=
  setGrant_zero_grantFits (by simp [PhaseLaw])

theorem enterDormant_grantFits (s : State) (h : s.grantCtl.grant = 0) : GrantFits (enterDormant s) := by
  unfold enterDormant
  exact evalSettled_grantFits (handOn_grantFits _ _ (.of_zero (by simp [PhaseLaw]) (by simpa using h)))

/-! ### The grant through an event -/

theorem Taking.grantFits {s u : State} (h : Taking s u) (hs : GrantFits s) : GrantFits u := by
  cases h with
  | pad h => exact h.alike.grantFits hs
  | @roster m v hm _ hv _ _ _ =>
    have hm' : GrantFits m := Alike.grantFits hm (hs.congr rfl rfl rfl rfl)
    have hcommit : GrantFits (commit s m) := handOn_grantFits _ _ hm'
    exact evalSettled_grantFits (Alike.grantFits hv (hcommit.congr rfl rfl rfl rfl))
  | @shed m hm _ => exact handOn_grantFits _ _ (Alike.grantFits hm (hs.congr rfl rfl rfl rfl))

theorem Move.grantFits {s u : State} (h : Move s u) (hs : GrantFits s) : GrantFits u := by
  cases h with
  | taking h => exact h.grantFits hs
  | raiseHold => exact weighRaise_grantFits (hs.congr rfl rfl rfl rfl)
  | @demand m hm _ _ _ => exact commitDemand_grantFits (Alike.grantFits hm (hs.congr rfl rfl rfl rfl))
  | listening => exact enterListening_grantFits s
  | leaving => exact .of_zero (by simp [PhaseLaw, enterLeaving]) (by simp [enterLeaving])
  | dormant hst => exact enterDormant_grantFits s (hs.zero.1 (by simp [hst, grantIsZeroIn]))
  | duplicate => exact .of_zero (by simp [PhaseLaw, enterDuplicate]) (by simp [enterDuplicate])
  | joining => exact enterJoining_grantFits s
  | isolated => exact enterIsolated_grantFits s
  | spent => exact .of_isolated (by simp [enterSpent]) (by simp [enterSpent]) (by simp [enterSpent])
  | fallback => exact .of_isolated (by simp [enterFallback]) (by simp [enterFallback]) (by simp [enterFallback])
  | fault r => exact .of_zero (by simp [PhaseLaw, enterFault_writes]) (by simp [enterFault_writes])
  | load img =>
    have hlistens := enterListening_grantFits (takeStationRecord (paramsOf img) (placeImage img s))
    exact evalSettled_grantFits (handOn_grantFits _ _ (hlistens.congr (by simp) (by simp) (by simp)
      (ownShare_congr (by simp) (by simp))))

/-- A closing window changes the flag DEGRADED, and where it clears it has a raise weighed (R119, R120). -/
theorem closeWindow_eq (d : Bool) (s : State) : ∃ v, Alike { s with link := v.link } v ∧
    (closeWindow d s = v ∨ (closeWindow d s = weighRaise v ∧ s.link.degraded = true ∧ v.link.degraded = false)) := by
  unfold closeWindow
  dsimp only
  split
  · exact ⟨_, by constructor <;> rfl, .inl rfl⟩
  · next hne =>
    cases d with
    | true => exact ⟨_, by constructor <;> rfl, .inl rfl⟩
    | false => exact ⟨_, by constructor <;> rfl, .inr ⟨rfl, by simpa using hne, rfl⟩⟩

theorem frameEvent_eq (d : Bool) (s : State) : ∃ v, Alike { s with link := v.link } v ∧
    (frameEvent d s = v ∨ (frameEvent d s = weighRaise v ∧ s.link.degraded = true ∧ v.link.degraded = false)) := by
  unfold frameEvent
  generalize (if d then s.link.damaged + 1 else s.link.damaged) = n
  dsimp only
  split
  · exact closeWindow_eq _ s
  · exact ⟨_, by constructor <;> rfl, .inl rfl⟩

theorem frameEvent_grantFits (d : Bool) {s : State} (h : GrantFits s) : GrantFits (frameEvent d s) := by
  obtain ⟨v, hv, he⟩ := frameEvent_eq d s
  have hfits : GrantFits v := Alike.grantFits hv (h.congr rfl rfl rfl rfl)
  rcases he with he | ⟨he, -⟩
  · exact he ▸ hfits
  · exact he ▸ weighRaise_grantFits hfits

theorem restartWith_grantFits (cause : RestartCause) (s : State) : GrantFits (restartWith cause s) :=
  .of_zero ⟨fun _ => by simp [restartWith, State.reset, Lifecycle.initial], fun _ => rfl⟩ rfl

/-- Every step but a fault of the storage keeps the grant fitting the station state. -/
theorem step_grantFits {s u : State} (hkept : Claims.StorageKept s) (h : step s = .next u) : GrantFits s → GrantFits u :=
  step_keeps_whole (fun _ _ hs => hs.congr rfl rfl rfl rfl) (fun _ _ hp => hp.alike.grantFits)
    (fun _ _ hm => hm.grantFits) (fun d _ => frameEvent_grantFits d) restartWith_grantFits (.inr hkept) h

/-- A fault of the storage leaves the station state, the phase and the grant. -/
theorem upsetCopy_zeroGrantLaw {s : State} (i : Fin 42) (b : Byte) (h : ZeroGrantLaw s) : ZeroGrantLaw (upsetCopy i b s) := h

end Sys2Proof.Machine
end

section
/-! The settling of O56. A raise of the grant, followed through one event. -/

namespace Sys2Proof.Machine

open Sys2Proof.Safety

/-! ### Raises by our share -/

/-- A raise to our share has brought about the second state: ACTIVE, the hold expired, DEGRADED clear (R53, R55). -/
structure ShareRaise (s u : State) : Prop where
  active : u.life.state = .active
  expired : u.grantCtl.raiseHold = .expired
  settled : s.grantCtl.settled = true ∨ u.grantCtl.settled = true
  degraded : s.link.degraded = false
  degraded' : u.link.degraded = false

/-- A raise to the fallback value has brought about the second state (R75). -/
structure FallbackRaise (s u : State) : Prop where
  isolated : u.life.state = .isolated
  phase : u.life.phase = .fallback
  low : u.grantCtl.grant ≤ s.params.fallback

theorem permission_iff {s : State} : s.permission = true ↔
    s.life.state = .active ∧ s.grantCtl.settled = true ∧ s.grantCtl.raiseHold = .expired ∧ s.link.degraded = false := by
  simp [State.permission, and_assoc]

theorem weighRaise_raise {s : State} (h : s.grantCtl.grant < (weighRaise s).grantCtl.grant) : s.permission = true := by
  rw [weighRaise_grant] at h
  by_contra hp
  simp [hp] at h

theorem weighRaise_le (s : State) : s.grantCtl.grant ≤ (weighRaise s).grantCtl.grant := by
  rw [weighRaise_grant]
  dsimp only
  split
  · next h => exact Nat.le_of_lt h.2
  · exact Nat.le_refl _

theorem takeShare_raise {s : State} (h : s.grantCtl.grant < (takeShare s).grantCtl.grant) : s.permission = true := by
  unfold takeShare at h
  split at h
  · next hlow =>
    simp only [setGrant_grantCtl] at h
    exact absurd h (Nat.not_lt.mpr (Nat.le_of_lt hlow.2))
  · exact weighRaise_raise h

/-- A hand-off raises the grant only in ACTIVE with the flag set, the hold still expired at its end. -/
theorem handOn_raise {dig pln : Bool} {s : State} (h : s.grantCtl.grant < (handOn dig pln s).grantCtl.grant) :
    s.life.state = .active ∧ s.grantCtl.settled = true ∧ (handOn dig pln s).grantCtl.raiseHold = .expired ∧
    s.link.degraded = false := by
  rw [handOn_eq] at h ⊢
  split at h
  · next hplans =>
    obtain ⟨hst, hset, hhold, hdeg⟩ := permission_iff.mp (takeShare_raise (s := handed dig pln s) (by simpa using h))
    simp only [handed_frame] at hst hset hdeg
    rw [if_pos hplans]
    exact ⟨hst, hset, by simpa using hhold, hdeg⟩
  · simp at h

theorem enterActive_raise {s : State} (h : s.grantCtl.grant < (enterActive s).grantCtl.grant) :
    s.grantCtl.settled = true ∧ s.grantCtl.raiseHold = .expired ∧ s.link.degraded = false := by
  have hperm := takeShare_raise (s := setStation .active .none s) (by simpa [enterActive] using h)
  obtain ⟨-, hset, hhold, hdeg⟩ := permission_iff.mp hperm
  exact ⟨by simpa using hset, by simpa using hhold, by simpa using hdeg⟩

theorem enterActive_state (s : State) : (enterActive s).life.state = .active := by simp [enterActive]

/-- The evaluation of the condition moves the station state from JOINING alone (R51). -/
theorem evalSettled_life {s : State} (h : s.life.state ≠ .joining) : (evalSettled s).life = s.life := by
  unfold evalSettled
  split
  · rfl
  · dsimp only
    split
    · simp [h]
    · rfl

theorem evalSettled_raise {s : State} (h : s.grantCtl.grant < (evalSettled s).grantCtl.grant) :
    ShareRaise s (evalSettled s) := by
  unfold evalSettled at h ⊢
  split at h
  · exact absurd h (lt_irrefl _)
  · next hne =>
    rw [if_neg hne]
    dsimp only at h ⊢
    generalize hv : ({ s with grantCtl := { s.grantCtl with settled := s.settledCondition } } : State) = v at h ⊢
    have hgrant : v.grantCtl.grant = s.grantCtl.grant := by rw [← hv]
    have hset : v.grantCtl.settled = s.settledCondition := by rw [← hv]
    have hdeg' : v.link.degraded = s.link.degraded := by rw [← hv]
    split at h
    · next hcond =>
      rw [if_pos hcond]
      split at h
      · next hj =>
        obtain ⟨-, hhold, hdeg⟩ := enterActive_raise (lt_of_eq_of_lt hgrant h)
        rw [if_pos hj]
        exact ⟨enterActive_state _, by simpa using hhold, .inr (by simpa [hset] using hcond), hdeg' ▸ hdeg,
          by simpa using hdeg⟩
      · next hj =>
        obtain ⟨hst, -, hhold, hdeg⟩ := permission_iff.mp (weighRaise_raise (lt_of_eq_of_lt hgrant h))
        rw [if_neg hj]
        exact ⟨by simpa using hst, by simpa using hhold, .inr (by simpa [hset] using hcond), hdeg' ▸ hdeg,
          by simpa using hdeg⟩
    · exact absurd h (by rw [hgrant]; exact lt_irrefl _)

/-- In ISOLATED the evaluation of the condition leaves grant and state. -/
theorem evalSettled_isolated {s : State} (h : s.life.state = .isolated) :
    (evalSettled s).life = s.life ∧ (evalSettled s).grantCtl.grant ≤ s.grantCtl.grant := by
  have hlife := evalSettled_life (s := s) (by simp [h])
  refine ⟨hlife, not_lt.mp fun hraise => ?_⟩
  have hactive := (evalSettled_raise hraise).active
  rw [hlife, h] at hactive
  cases hactive

/-- A raise before the evaluation of the condition is still one after it. -/
theorem ShareRaise.evalSettled {s v : State} (h : ShareRaise s v) (hs : s.grantCtl.settled = true) :
    ShareRaise s (evalSettled v) := by
  have hlife := evalSettled_life (s := v) (by simp [h.active])
  exact ⟨by rw [hlife]; exact h.active, by simpa using h.expired, .inl hs, h.degraded, by simpa using h.degraded'⟩

theorem handOn_shareRaise {dig pln : Bool} {s : State} (h : s.grantCtl.grant < (handOn dig pln s).grantCtl.grant) :
    ShareRaise s (handOn dig pln s) ∧ s.grantCtl.settled = true := by
  obtain ⟨hst, hset, hhold, hdeg⟩ := handOn_raise h
  exact ⟨⟨by simpa using hst, hhold, .inl hset, hdeg, by simpa using hdeg⟩, hset⟩

theorem ShareRaise.of_alike {s a u : State} (h : ShareRaise a u) (hs : a.grantCtl.settled = s.grantCtl.settled)
    (hd : a.link.degraded = s.link.degraded) : ShareRaise s u :=
  ⟨h.active, h.expired, hs ▸ h.settled, hd ▸ h.degraded, h.degraded'⟩

theorem ShareRaise.alike {s b u : State} (h : ShareRaise s b) (k : Alike b u) : ShareRaise s u :=
  ⟨k.state.trans h.active, k.hold.trans h.expired, by rw [k.settled]; exact h.settled, h.degraded,
    k.degraded.trans h.degraded'⟩

theorem FallbackRaise.alike {s b u : State} (h : FallbackRaise s b) (k : Alike b u) : FallbackRaise s u :=
  ⟨k.state.trans h.isolated, k.phase.trans h.phase, k.grant ▸ h.low⟩

theorem FallbackRaise.of_copy {s a u : State} (h : FallbackRaise a u) (hc : a.loader.heldCopy = s.loader.heldCopy) :
    FallbackRaise s u := ⟨h.isolated, h.phase, params_congr hc ▸ h.low⟩

/-! ### Raises in one event -/

theorem Taking.degraded {s u : State} (h : Taking s u) : u.link.degraded = s.link.degraded := by
  cases h with
  | pad h => exact h.alike.degraded
  | roster hm _ hv => simpa using hv.degraded.trans (by simpa using hm.degraded)
  | shed hm _ => simpa using hm.degraded

theorem Taking.shareRaise {s u : State} (h : Taking s u) (hr : s.grantCtl.grant < u.grantCtl.grant) : ShareRaise s u := by
  cases h with
  | pad h => exact absurd hr (by rw [h.alike.grant]; exact lt_irrefl _)
  | @roster m v hm _ hv _ _ _ =>
    have hgrant : m.grantCtl.grant = s.grantCtl.grant := hm.grant
    have hvgrant : v.grantCtl.grant = (commit s m).grantCtl.grant := hv.grant
    have hvset : v.grantCtl.settled = m.grantCtl.settled := hv.settled.trans (by simp)
    have hvdeg : v.link.degraded = s.link.degraded := hv.degraded.trans (by simpa using hm.degraded)
    by_cases hcommit : m.grantCtl.grant < (commit s m).grantCtl.grant
    · obtain ⟨hraise, hset⟩ := handOn_shareRaise hcommit
      have hs : s.grantCtl.settled = true := hm.settled ▸ hset
      exact ShareRaise.evalSettled ⟨hv.state.trans hraise.active, hv.hold.trans hraise.expired, .inl hs,
        hm.degraded ▸ hraise.degraded, hvdeg.trans (hm.degraded ▸ hraise.degraded)⟩ hs
    · have hv' : v.grantCtl.grant < (evalSettled v).grantCtl.grant :=
        lt_of_le_of_lt (hvgrant ▸ (not_lt.mp hcommit).trans hgrant.le) hr
      exact (evalSettled_raise hv').of_alike (hvset.trans hm.settled) hvdeg
  | @shed m hm _ =>
    exact (handOn_shareRaise (lt_of_eq_of_lt hm.grant hr)).1.of_alike hm.settled hm.degraded

/-- In ISOLATED what follows our demand raises the grant in the phase FALLBACK alone, up to F (R75, R77). -/
theorem followDemand_raise {s : State} (h : s.grantCtl.grant < (followDemand s).grantCtl.grant) :
    FallbackRaise s (followDemand s) := by
  unfold followDemand at h ⊢
  split at h
  · next hst =>
    rw [if_pos hst]
    split at h
    · simp only [setGrant_grantCtl] at h
      exact absurd h (not_lt.mpr (Nat.min_le_left _ _))
    · next hph => exact ⟨by simpa using hst, by simp [hph], by simp [hph]⟩
    · exact absurd h (lt_irrefl _)
    · exact absurd h (lt_irrefl _)
  · exact absurd h (lt_irrefl _)

theorem followDemand_elsewhere {s : State} (h : s.life.state ≠ .isolated) : followDemand s = s := by simp [followDemand, h]

/-- What a demand event hands on before the settled condition raises the grant in one of the two ways. -/
theorem demandHandedOn_raise {before m : State} (h : m.grantCtl.grant < (demandHandedOn before m).grantCtl.grant) :
    (ShareRaise m (demandHandedOn before m) ∧ m.grantCtl.settled = true) ∨ FallbackRaise m (demandHandedOn before m) := by
  have hform : (formDemand m).grantCtl = m.grantCtl := by simp
  unfold demandHandedOn at h ⊢
  by_cases hcommit : (formDemand m).grantCtl.grant < (commit before (formDemand m)).grantCtl.grant
  · obtain ⟨hraise, hset⟩ := handOn_shareRaise hcommit
    have hraise' : ShareRaise m (commit before (formDemand m)) := hraise.of_alike (by rw [hform]) (by simp)
    left
    refine ⟨?_, hform ▸ hset⟩
    split
    · exact hraise'
    · have hst : (raiseRequest .status 0 (commit before (formDemand m))).life.state ≠ .isolated := by
        simp only [raiseRequest_frame]; rw [hraise'.active]; simp
      rw [followDemand_elsewhere hst]
      exact hraise'.alike (raiseRequest_pad .status 0 _).alike
  · rw [hform] at hcommit
    split at h
    · exact absurd h hcommit
    · next hne =>
      rw [if_neg hne]
      right
      refine (followDemand_raise ?_).of_copy (by simp)
      simpa using lt_of_le_of_lt (not_lt.mp hcommit) h

theorem commitDemand_raise {before m : State} (h : m.grantCtl.grant < (commitDemand before m).grantCtl.grant) :
    ShareRaise m (commitDemand before m) ∨ FallbackRaise m (commitDemand before m) := by
  rw [commitDemand_eq] at h ⊢
  split at h
  · next hdig =>
    rw [if_pos hdig]
    by_cases hhanded : m.grantCtl.grant < (demandHandedOn before m).grantCtl.grant
    · rcases demandHandedOn_raise hhanded with ⟨hraise, hset⟩ | hraise
      · exact .inl (hraise.evalSettled hset)
      · obtain ⟨hlife, hle⟩ := evalSettled_isolated hraise.isolated
        exact .inr ⟨hlife ▸ hraise.isolated, hlife ▸ hraise.phase, hle.trans hraise.low⟩
    · exact .inl ((evalSettled_raise (lt_of_le_of_lt (not_lt.mp hhanded) h)).of_alike (by simp) (by simp))
  · next hdig =>
    rw [if_neg hdig]
    exact (demandHandedOn_raise h).imp_left And.left

theorem enterJoining_raise {s : State} (h : s.grantCtl.grant < (enterJoining s).grantCtl.grant) :
    ShareRaise s (enterJoining s) := by
  have hshare : ∀ v : State, v.life.state = .joining → (takeShare v).grantCtl.grant ≤ v.grantCtl.grant := fun v hv =>
    not_lt.mp fun hraise => by have hst := (permission_iff.mp (takeShare_raise hraise)).1; rw [hv] at hst; cases hst
  generalize hj : takeShare (setStation .joining .none
    { s with life := { s.life with fallbackAt := none, spentAt := none } }) = j
  have hgrant : j.grantCtl.grant ≤ s.grantCtl.grant := by
    have hle := hshare (setStation .joining .none { s with life := { s.life with fallbackAt := none, spentAt := none } })
      (by simp)
    rw [hj] at hle
    simpa using hle
  have hentered : enterJoining s = if j.grantCtl.settled then enterActive j else j := by rw [← hj]; rfl
  have hdeg : j.link.degraded = s.link.degraded := by rw [← hj]; simp
  rw [hentered] at h ⊢
  split at h
  · next hset =>
    rw [if_pos hset]
    obtain ⟨-, hhold, hclear⟩ := enterActive_raise (lt_of_le_of_lt hgrant h)
    exact ⟨enterActive_state j, by simpa using hhold, .inr (by simpa using hset), hdeg ▸ hclear, by simpa using hclear⟩
  · exact absurd (lt_of_lt_of_le h hgrant) (lt_irrefl _)

theorem enterIsolated_raise {s : State} (h : s.grantCtl.grant < (enterIsolated s).grantCtl.grant) :
    FallbackRaise s (enterIsolated s) := by
  unfold enterIsolated at h ⊢
  dsimp only at h ⊢
  by_cases hspent : s.spentDue ≤ s.now
  · simp [hspent] at h
  · by_cases hfallback : s.fallbackDue ≤ s.now
    · exact ⟨by simp, by simp [hspent, hfallback], by simp [hspent, hfallback]⟩
    · simp [hspent, hfallback] at h

/-- What a move other than a fault or a load can make of the grant and of DEGRADED. -/
structure Raises (s u : State) : Prop where
  degraded : u.link.degraded = s.link.degraded
  raise : s.grantCtl.grant < u.grantCtl.grant → ShareRaise s u ∨ FallbackRaise s u

theorem Raises.of_zero {s u : State} (hd : u.link.degraded = s.link.degraded) (hg : u.grantCtl.grant = 0) : Raises s u :=
  ⟨hd, fun h => by rw [hg] at h; exact absurd h (Nat.not_lt_zero _)⟩

/-- Outside ACTIVE and JOINING a hand-off and the evaluation of the condition raise nothing. -/
theorem evalSettled_handOn_le {dig pln : Bool} {s : State} (ha : s.life.state ≠ .active)
    (hj : s.life.state ≠ .joining) : (evalSettled (handOn dig pln s)).grantCtl.grant ≤ s.grantCtl.grant := by
  have hhand : (handOn dig pln s).grantCtl.grant ≤ s.grantCtl.grant := not_lt.mp fun h => ha (handOn_raise h).1
  have hlife := evalSettled_life (s := handOn dig pln s) (by simpa using hj)
  refine (not_lt.mp fun h => ha ?_ : _ ≤ (handOn dig pln s).grantCtl.grant).trans hhand
  have hactive := (evalSettled_raise h).active
  rw [hlife] at hactive
  simpa using hactive

theorem enterDormant_le (s : State) : (enterDormant s).grantCtl.grant ≤ s.grantCtl.grant := by
  unfold enterDormant
  exact (evalSettled_handOn_le (by simp) (by simp)).trans (by simp)

theorem Move.raises {s u : State} (h : Move s u) : Raises s u := by
  cases h with
  | taking h => exact ⟨h.degraded, fun hr => .inl (h.shareRaise hr)⟩
  | raiseHold =>
    refine ⟨by simp, fun hr => .inl ?_⟩
    obtain ⟨hst, hset, hhold, hdeg⟩ := permission_iff.mp (weighRaise_raise
      (s := { s with grantCtl := { s.grantCtl with raiseHold := .expired } }) hr)
    exact ⟨by simpa using hst, by simp, .inl hset, hdeg, by simpa using hdeg⟩
  | @demand m hm _ _ _ =>
    refine ⟨by simpa using hm.degraded, fun hr => ?_⟩
    exact (commitDemand_raise (lt_of_eq_of_lt hm.grant hr)).imp (·.of_alike hm.settled hm.degraded) (·.of_copy hm.copy)
  | listening => exact .of_zero (by simp) (by simp [enterListening])
  | leaving => exact .of_zero (by simp [enterLeaving]) (by simp [enterLeaving])
  | dormant =>
    exact ⟨by simp, fun hr => absurd (enterDormant_le s) (not_le.mpr hr)⟩
  | duplicate => exact .of_zero (by simp [enterDuplicate]) (by simp [enterDuplicate])
  | joining => exact ⟨by simp, fun hr => .inl (enterJoining_raise hr)⟩
  | isolated => exact ⟨by simp, fun hr => .inr (enterIsolated_raise hr)⟩
  | spent => exact .of_zero (by simp [enterSpent]) (by simp [enterSpent])
  | fallback =>
    exact ⟨by simp [enterFallback], fun _ => .inr ⟨by simp [enterFallback], by simp [enterFallback], by simp [enterFallback]⟩⟩
  | fault r => exact .of_zero (by simp) (by simp [enterFault_writes])
  | load img =>
    refine .of_zero (by simp) (Nat.le_zero.mp ((evalSettled_handOn_le ?_ ?_).trans_eq ?_)) <;> simp [enterListening]

/-! ### Raises in one event with its report to the Link Monitor -/

theorem Event.raises {s u : State} (h : Event s u) : Raises s u := by
  cases h with
  | @moved a b _ pre h post =>
    have hmove := h.raises
    refine ⟨post.alike.degraded.trans (hmove.degraded.trans pre.alike.degraded), fun hr => ?_⟩
    rw [post.alike.grant, ← pre.alike.grant] at hr
    exact (hmove.raise hr).imp (fun h => (h.of_alike pre.alike.settled pre.alike.degraded).alike post.alike)
      (fun h => (h.of_copy pre.alike.copy).alike post.alike)
  | @rejoined a b c _ pre h mid hst post =>
    have hcdeg : c.link.degraded = s.link.degraded := mid.alike.degraded.trans (h.degraded.trans pre.alike.degraded)
    refine ⟨post.alike.degraded.trans (by simpa using hcdeg), fun hr => ?_⟩
    rw [post.alike.grant] at hr
    have htaken : b.grantCtl.grant ≤ a.grantCtl.grant := not_lt.mp fun hraise => by
      have hactive := (h.shareRaise hraise).active
      rw [← mid.alike.state, hst] at hactive
      cases hactive
    have hjoin := enterJoining_raise (lt_of_le_of_lt (mid.alike.grant.trans_le (htaken.trans_eq pre.alike.grant)) hr)
    have hset : (enterJoining c).grantCtl.settled = true := hjoin.settled.elim (fun h => by simpa using h) id
    exact .inl (ShareRaise.alike ⟨hjoin.active, hjoin.expired, .inr hset, hcdeg ▸ hjoin.degraded, hjoin.degraded'⟩
      post.alike)

/-- What the report to the Link Monitor does to the grant: nothing, or a raise where DEGRADED clears (R65, R120). -/
theorem frameEvent_grant (d : Bool) (s : State) : (frameEvent d s).grantCtl.grant = s.grantCtl.grant ∨
    (s.life.state = .active ∧ s.grantCtl.raiseHold = .expired ∧ s.grantCtl.settled = true ∧
      s.link.degraded = true ∧ (frameEvent d s).link.degraded = false) := by
  obtain ⟨v, hv, he | ⟨he, hset, hclear⟩⟩ := frameEvent_eq d s
  · exact .inl (he ▸ hv.grant)
  · rcases Nat.lt_or_ge v.grantCtl.grant (weighRaise v).grantCtl.grant with hraise | hno
    · obtain ⟨hst, hflag, hhold, -⟩ := permission_iff.mp (weighRaise_raise hraise)
      exact .inr ⟨hv.state ▸ hst, hv.hold ▸ hhold, hv.settled ▸ hflag, hset, by rw [he]; simpa using hclear⟩
    · exact .inl (he ▸ (le_antisymm hno (weighRaise_le v)).trans hv.grant)

/-- What a step that raises the grant has come about with (R53, R55, R60, R75). -/
def RaiseLaw (s u : State) : Prop :=
  s.grantCtl.grant < u.grantCtl.grant →
    (u.life.state = .active ∧ u.grantCtl.raiseHold = .expired ∧
      (s.grantCtl.settled = true ∨ u.grantCtl.settled = true) ∧ (s.link.degraded = false ∨ u.link.degraded = false)) ∨
    (s.life.state = .active ∧ s.grantCtl.raiseHold = .expired ∧ s.grantCtl.settled = true ∧
      s.link.degraded = true ∧ u.link.degraded = false) ∨
    (u.life.state = .isolated ∧ u.life.phase = .fallback ∧ u.grantCtl.grant ≤ s.params.fallback)

theorem Raises.law {s u : State} (h : Raises s u) : RaiseLaw s u := fun hr =>
  (h.raise hr).elim (fun h => .inl ⟨h.active, h.expired, h.settled, .inl h.degraded⟩)
    fun h => .inr (.inr ⟨h.isolated, h.phase, h.low⟩)

theorem Whole.raiseLaw {s u : State} (h : Whole s u) : RaiseLaw s u := by
  cases h with
  | plain h => exact h.raises.law
  | @windowFirst a _ pre d h =>
    intro hr
    rcases frameEvent_grant d a with hsame | ⟨hst, hhold, hset, hdeg, hclear⟩
    · rw [← pre.alike.grant, ← hsame] at hr
      rcases h.raises.raise hr with hraise | hraise
      · have hset : (frameEvent d a).grantCtl.settled = s.grantCtl.settled := by simpa using pre.alike.settled
        exact .inl ⟨hraise.active, hraise.expired, hset ▸ hraise.settled, .inr hraise.degraded'⟩
      · have hlow := (hraise.of_copy (s := s) (by simpa using pre.alike.copy)).low
        exact .inr (.inr ⟨hraise.isolated, hraise.phase, hlow⟩)
    · exact .inr (.inl ⟨pre.alike.state ▸ hst, pre.alike.hold ▸ hhold, pre.alike.settled ▸ hset, pre.alike.degraded ▸ hdeg,
        h.raises.degraded.trans hclear⟩)
  | @windowLast m h d =>
    intro hr
    rcases frameEvent_grant d m with hsame | ⟨hst, hhold, hset, hdeg, hclear⟩
    · rw [hsame] at hr
      rcases h.raises.raise hr with hraise | hraise
      · exact .inl ⟨by simpa using hraise.active, by simpa using hraise.expired, by simpa using hraise.settled,
          .inl hraise.degraded⟩
      · exact .inr (.inr ⟨by simpa using hraise.isolated, by simpa using hraise.phase, hsame ▸ hraise.low⟩)
    · exact .inl ⟨by simpa using hst, by simpa using hhold, .inr (by simpa using hset), .inr hclear⟩

theorem step_raiseLaw {s u : State} (h : step s = .next u) : RaiseLaw s u := by
  have hsame : ∀ v : State, v.grantCtl.grant = s.grantCtl.grant → RaiseLaw s v := fun v hv hr =>
    absurd hr (by rw [hv]; exact lt_irrefl _)
  unfold step at h
  split at h
  · cases h; exact hsame s rfl
  · next c rest _ =>
    by_cases hc : ∃ t i b, c = .reverifyTimerExpiry (.storageFault t i b)
    · obtain ⟨t, i, b, rfl⟩ := hc
      refine arrive_inv (P := RaiseLaw s) ?_ (fun _ => ?_) h <;> exact hsame _ rfl
    · rcases exec_whole (fun t i b he => hc ⟨t, i, b, he⟩) h with hwhole | ⟨cause, t, input, rfl⟩
      · exact hwhole.raiseLaw
      · exact fun hr => absurd hr (Nat.not_lt_zero _)

/-- The phase and the zero grants hold through a fault of the storage too. -/
theorem step_phaseZeroLaw {s u : State} (hp : PhaseLaw s) (hz : ZeroGrantLaw s) (hsh : ShareLaw s)
    (h : step s = .next u) : PhaseLaw u ∧ ZeroGrantLaw u := by
  by_cases hkept : Claims.StorageKept s
  · have hfits := step_grantFits hkept h ⟨hp, hz, hsh⟩
    exact ⟨hfits.phase, hfits.zero⟩
  · unfold Claims.StorageKept at hkept
    push Not at hkept
    obtain ⟨t, i, b, rest, hpending⟩ := hkept
    unfold step at h
    rw [hpending] at h
    refine arrive_inv (P := fun v => PhaseLaw v ∧ ZeroGrantLaw v) ?_ (fun _ => ?_) h <;> exact ⟨hp, hz⟩

end Sys2Proof.Machine

section
open Sys2Proof.Machine Sys2Proof.Safety

/-- Settles O56: the laws of the grant by station state event by event, and each raise traced to its cause. -/
theorem stepKeepsTheGrantWithinItsState : Obligations.StepKeepsTheGrantWithinItsState := by
  refine ⟨fun s u hphase hzero hshare h => ?_, fun s u h => step_raiseLaw h⟩
  obtain ⟨hphase', hzero'⟩ := step_phaseZeroLaw hphase hzero hshare h
  exact ⟨hphase', hzero', fun hkept => (step_grantFits hkept h ⟨hphase, hzero, hshare⟩).share⟩

end
end

section
/-! SUPPORT. Our share in a new plan is at most our demand, and the grant with it. -/

namespace Sys2Proof.Machine

open Sys2Proof.Safety

/-! ### Our row through the division (R7, R13) -/

/-- What the division makes of one row: the same claimant with the same demand, within its min and demand. -/
def Row.DividedTo (a b : Row) : Prop := b.station = a.station ∧ b.demand = a.demand ∧ (a.Fresh → RowLaw b)

theorem Row.Walked.demand_eq {a b : Row} (h : a.Walked b) : b.demand = a.demand := by cases h <;> rfl

theorem Row.RaisedTo.demand_eq {a b : Row} (h : a.RaisedTo b) : b.demand = a.demand := by
  obtain ⟨_, rfl, _⟩ := h; rfl

/-- The three stages of the division, row by row. -/
theorem divide_dividedTo (pool : Current) (rows : List Row) : List.Forall₂ Row.DividedTo rows (divide pool rows).1 := by
  have hstage : ∀ {xs ys zs : List Row}, List.Forall₂ Row.Walked xs ys → List.Forall₂ Row.RaisedTo ys zs →
      List.Forall₂ Row.DividedTo xs (zs.map Row.close) := by
    intro xs ys zs hwalk hraise
    induction hwalk generalizing zs with
    | nil => cases hraise; exact .nil
    | cons hab _ ih =>
      cases hraise with
      | cons hbc hrest =>
        refine .cons ⟨?_, ?_, fun hfresh => (hbc.fits (hab.fits hfresh)).rowLaw_close⟩ (ih hrest)
        · simpa using (hab.station_eq.trans hbc.station_eq).symm
        · simpa using hbc.demand_eq.trans hab.demand_eq
  rw [divide_eq]
  exact hstage (floorWalk_walked pool rows) (fillRounds_raised _ _ _)

/-- Our own row is the only one of a new plan that bears our number. -/
theorem claimRow_of_ownStation {s : State} (h : RosterLaw s) {r : Row} (hr : r ∈ s.claimRows)
    (hown : r.station = s.ownStation) : r = s.planner.claim.row s.ownStation := by
  rcases mem_claimRows hr with rfl | ⟨e, he, p, _, _, rfl⟩
  · rfl
  · exact absurd hown (h.2.2 e he).1

/-- In a new plan our share is at most our effective demand. -/
theorem ownShareLaw_of_planNow {s u : State} (hroster : RosterLaw s)
    (hown : s.planner.claim.effectiveDemand = 0 ∨ s.planner.claim.min ≤ s.planner.claim.effectiveDemand)
    (hplan : u.planner.plan = some s.planNow) (hcopy : u.loader.heldCopy = s.loader.heldCopy)
    (hclaim : u.planner.claim.effectiveDemand = s.planner.claim.effectiveDemand) : OwnShareLaw u := by
  unfold OwnShareLaw State.ownShare State.ownRow
  rw [hplan, ownStation_congr hcopy, hclaim]
  dsimp only
  split
  · next r hr =>
    have hmem := List.mem_of_find?_eq_some hr
    have hstation : r.station = s.ownStation := by simpa using List.find?_some hr
    obtain ⟨a, ha, hdivided⟩ : ∃ a ∈ s.claimRows, a.DividedTo r :=
      forall_mem_of_forall₂ (p := (· ∈ s.claimRows)) (q := fun b => ∃ a ∈ s.claimRows, a.DividedTo b)
        (fun a _ hab ha => ⟨a, ha, hab⟩) (divide_dividedTo s.pool s.claimRows) (fun _ ha => ha) r hmem
    obtain ⟨hsame, hdemand, hlaw⟩ := hdivided
    have hmine := claimRow_of_ownStation hroster ha (hsame.symm.trans hstation)
    have hfresh : a.Fresh := hmine ▸ claimRow_fresh hown
    have hd : r.demand = s.planner.claim.effectiveDemand := by rw [hdemand, hmine]; rfl
    rcases hlaw hfresh with hzero | ⟨-, hle⟩
    · rw [hzero]; exact Nat.zero_le _
    · exact hd ▸ hle
  · exact Nat.zero_le _

/-! ### The demand (R2) -/

theorem demandLaw_congr {s u : State} (h : DemandLaw s)
    (hd : u.planner.claim.effectiveDemand = s.planner.claim.effectiveDemand)
    (hh : u.planner.claim.hostDemand = s.planner.claim.hostDemand)
    (hc : u.enf.state.cutOrCooling = s.enf.state.cutOrCooling) (ht : u.meter.trim = s.meter.trim) : DemandLaw u := by
  unfold DemandLaw State.demandFormed at h ⊢
  rwa [hd, hh, hc, ht]

theorem claimLaw_congr {s u : State} (h : ClaimLaw s) (hc : u.planner.claim.min = s.planner.claim.min)
    (hm : u.planner.claim.max = s.planner.claim.max) (hh : u.planner.claim.hostDemand = s.planner.claim.hostDemand)
    (ht : u.meter.trim = s.meter.trim) (hcopy : u.loader.heldCopy = s.loader.heldCopy) : ClaimLaw u := by
  unfold ClaimLaw at h ⊢
  rwa [hc, hm, hh, ht, params_congr hcopy]

/-- The demand once formed is the one that R2 gives. -/
theorem formDemand_demandLaw (s : State) : DemandLaw (formDemand s) := by
  have hformed : (formDemand s).demandFormed = s.demandFormed := by simp [State.demandFormed]
  unfold DemandLaw
  rw [hformed]
  unfold formDemand
  split
  · next h => exact h.symm
  · rfl

/-- An effective demand is 0 or at least the min of our claim. -/
theorem effectiveDemand_bounds {s : State} (hd : DemandLaw s) (hc : ClaimLaw s) :
    s.planner.claim.effectiveDemand = 0 ∨ s.planner.claim.min ≤ s.planner.claim.effectiveDemand := by
  obtain ⟨-, -, hhost, htrim⟩ := hc
  unfold DemandLaw at hd
  rw [hd]
  unfold State.demandFormed
  split
  · exact .inl rfl
  · split
    · next v hv => exact .inr (htrim v hv).1
    · exact hhost.imp_right And.left

/-! ### What goes with a grant that is at most the demand -/

/-- The grant, our share and the demand with all that they rest on. -/
structure DemandFits (s : State) : Prop where
  fits : GrantFits s
  demand : DemandLaw s
  claim : ClaimLaw s
  idle : s.life.state = .loading → s.IdleDemand
  share : OwnShareLaw s
  grant : GrantLaw s

/-- Only in ISOLATED, HOLD or FALLBACK, does the law of the grant ask for more than our share does. -/
theorem grantLaw_of_share {s : State} (hf : GrantFits s) (ho : OwnShareLaw s)
    (hi : s.life.state = .isolated → s.life.phase ≠ .spent → GrantLaw s) : GrantLaw s := by
  have hzero : s.grantCtl.grant = 0 → GrantLaw s := fun h => by unfold GrantLaw; rw [h]; exact Nat.zero_le _
  by_cases hst : grantIsZeroIn s.life.state = true
  · exact hzero (hf.zero.1 hst)
  · by_cases hiso : s.life.state = .isolated
    · by_cases hsp : s.life.phase = .spent
      · exact hzero (hf.zero.2 hsp)
      · exact hi hiso hsp
    · refine (hf.share ?_).trans ho
      cases hs : s.life.state <;> simp_all [grantIsZeroIn]

theorem Alike.ownShareLaw {s u : State} (h : Alike s u) (hs : OwnShareLaw s) : OwnShareLaw u := by
  unfold OwnShareLaw at hs ⊢
  rwa [h.ownShare, h.planner]

theorem Alike.demandFits {s u : State} (h : Alike s u) (hs : DemandFits s) : DemandFits u where
  fits := h.grantFits hs.fits
  demand := demandLaw_congr hs.demand (by rw [h.planner]) (by rw [h.planner]) h.cut h.trim
  claim := claimLaw_congr hs.claim (by rw [h.planner]) (by rw [h.planner]) (by rw [h.planner]) h.trim h.copy
  idle := fun hl => by
    unfold State.IdleDemand
    rw [h.planner, h.trim]
    exact hs.idle (h.state.symm.trans hl)
  share := h.ownShareLaw hs.share
  grant := by
    have hg := hs.grant
    unfold GrantLaw at hg ⊢
    rwa [h.grant, h.planner]

/-- A hand-off that brings a plan brings one in which our share is at most our demand; any other leaves the plan. -/
theorem handOn_ownShareLaw {dig pln : Bool} {s : State} (hroster : RosterLaw s) (hd : DemandLaw s) (hc : ClaimLaw s)
    (hs : (pln && s.life.state.plans) = false → OwnShareLaw s) : OwnShareLaw (handOn dig pln s) := by
  have hplan : (handOn dig pln s).planner.plan = if pln && s.life.state.plans then some s.planNow else s.planner.plan := by
    rw [handOn_eq]
    by_cases hp : (pln && s.life.state.plans) = true <;> simp [hp]
  by_cases hp : (pln && s.life.state.plans) = true
  · rw [if_pos hp] at hplan
    exact ownShareLaw_of_planNow hroster (effectiveDemand_bounds hd hc) hplan (by simp) (by simp)
  · rw [if_neg hp] at hplan
    have h := hs (by simpa using hp)
    unfold OwnShareLaw at h ⊢
    rwa [ownShare_congr hplan (by simp), (handOn_frame dig pln s).2.2.2.2.2.2.2.2.2.2.2.2.2.1]

end Sys2Proof.Machine
end

section
/-! The settling of O57. The grant stays within the demand through every event. -/

namespace Sys2Proof.Machine

open Sys2Proof.Safety

/-- What a change that leaves the claim, the trim and the plan has to show for the grant. -/
theorem DemandFits.of_kept {s u : State} (hs : DemandFits s) (hf : GrantFits u)
    (hclaim : u.planner.claim = s.planner.claim) (hplan : u.planner.plan = s.planner.plan)
    (hcopy : u.loader.heldCopy = s.loader.heldCopy) (hcut : u.enf.state.cutOrCooling = s.enf.state.cutOrCooling)
    (htrim : u.meter.trim = s.meter.trim) (hl : u.life.state = .loading → s.life.state = .loading)
    (hi : u.life.state = .isolated → u.life.phase ≠ .spent → GrantLaw u) : DemandFits u := by
  have hshare : OwnShareLaw u := by
    have h := hs.share
    unfold OwnShareLaw at h ⊢
    rwa [ownShare_congr hplan hcopy, hclaim]
  refine ⟨hf, demandLaw_congr hs.demand (by rw [hclaim]) (by rw [hclaim]) hcut htrim,
    claimLaw_congr hs.claim (by rw [hclaim]) (by rw [hclaim]) (by rw [hclaim]) htrim hcopy, fun h => ?_, hshare,
    grantLaw_of_share hf hshare hi⟩
  unfold State.IdleDemand
  rw [hclaim, htrim]
  exact hs.idle (hl h)

/-- In ISOLATED a grant that has not grown is within an unchanged demand. -/
theorem grantLaw_of_le {s u : State} (h : GrantLaw s) (hg : u.grantCtl.grant ≤ s.grantCtl.grant)
    (hclaim : u.planner.claim = s.planner.claim) : GrantLaw u := by
  unfold GrantLaw at h ⊢
  rw [hclaim]
  exact hg.trans h

theorem weighRaise_demandFits {s : State} (h : DemandFits s) : DemandFits (weighRaise s) := by
  refine h.of_kept (weighRaise_grantFits h.fits) (by simp) (by simp) (by simp) (by simp) (by simp) (by simp)
    fun hst _ => grantLaw_of_le h.grant (not_lt.mp fun hr => ?_) (by simp)
  have hactive := (permission_iff.mp (weighRaise_raise hr)).1
  simp [hactive] at hst

theorem evalSettled_demandFits {s : State} (h : DemandFits s) : DemandFits (evalSettled s) := by
  refine h.of_kept (evalSettled_grantFits h.fits) (by simp) (by simp) (by simp) (by simp) (by simp) (fun hl => ?_)
    fun hst _ => grantLaw_of_le h.grant (not_lt.mp fun hr => ?_) (by simp)
  · by_cases hj : s.life.state = .joining
    · exact absurd hl ((evalSettled_changes s).ne_loading (by simp [hj]))
    · rwa [evalSettled_life hj] at hl
  · have hactive := (evalSettled_raise hr).active
    simp [hactive] at hst

theorem handOn_demandFits {dig pln : Bool} {s : State} (hroster : RosterLaw s) (h : DemandFits s) :
    DemandFits (handOn dig pln s) := by
  have hfits := handOn_grantFits dig pln h.fits
  have hshare : OwnShareLaw (handOn dig pln s) := handOn_ownShareLaw hroster h.demand h.claim fun _ => h.share
  refine ⟨hfits, demandLaw_congr h.demand (by simp) (by simp) (by simp) (by simp),
    claimLaw_congr h.claim (by simp) (by simp) (by simp) (by simp) (by simp), fun hl => ?_, hshare,
    grantLaw_of_share hfits hshare fun hst _ => grantLaw_of_le h.grant (not_lt.mp fun hr => ?_) (by simp)⟩
  · have hidle := h.idle (by simpa using hl)
    unfold State.IdleDemand at hidle ⊢
    simpa using hidle
  · have hactive := (handOn_raise hr).1
    simp [hactive] at hst

/-- Without a plan our share is 0. -/
theorem ownShareLaw_of_no_plan {s : State} (h : s.planner.plan = none) : OwnShareLaw s := by
  unfold OwnShareLaw State.ownShare State.ownRow
  rw [h]
  exact Nat.zero_le _

/-! ### A change of the demand (R3, R75, R77) -/

section
variable {s m : State} (hs : DemandFits s) (hm : DemandMoved s m) (hclaim : ClaimLaw m) (hroster : RosterLaw m)
  (hplan : PlanLaw s)
include hs hm

theorem DemandMoved.grantFits : GrantFits m := Alike.grantFits hm (hs.fits.congr rfl rfl rfl rfl)

include hclaim hroster hplan

/-- After the demand has been formed and handed to the Share Planner our share is within it. -/
theorem commit_formDemand_ownShareLaw : OwnShareLaw (commit s (formDemand m)) := by
  have hformed : (formDemand m).planner.plan = s.planner.plan := by simpa using congrArg SharePlanner.plan hm.planner
  refine handOn_ownShareLaw ?_ (formDemand_demandLaw m)
    (claimLaw_congr hclaim (by simp) (by simp) (by simp) (by simp) (by simp)) fun hno => ?_
  · unfold RosterLaw at hroster ⊢
    rwa [ownStation_congr (a := formDemand m) (b := m) (by simp), show (formDemand m).roster = m.roster by simp]
  · by_cases hplans : s.life.state.plans = true
    · have hsame : planInputChanged s (formDemand m) = false := by
        have hst : m.life.state.plans = true := hm.state ▸ hplans
        simpa [hst] using hno
      simp only [planInputChanged, Bool.or_eq_false_iff, decide_eq_false_iff_not, not_not] at hsame
      have hshare := hs.share
      unfold OwnShareLaw at hshare ⊢
      rw [ownShare_congr hformed (by simpa using hm.copy), ← hsame.1.1.2]
      exact hshare
    · exact ownShareLaw_of_no_plan (hformed.trans (hplan.2 (by simpa using hplans)))

theorem demandHandedOn_demandFits (hidle : s.life.state = .loading → m.IdleDemand) :
    DemandFits (demandHandedOn s m) := by
  have hstate : m.life.state = s.life.state := hm.state
  have hfits : GrantFits (demandHandedOn s m) := by
    have hformed : GrantFits (formDemand m) :=
      (hm.grantFits hs).congr (by simp) (by simp) (by simp) (ownShare_congr (by simp) (by simp))
    have hcommit : GrantFits (commit s (formDemand m)) := handOn_grantFits _ _ hformed
    unfold demandHandedOn
    split
    · exact hcommit
    · exact followDemand_grantFits (hcommit.congr (by simp) (by simp) (by simp) (ownShare_congr (by simp) (by simp)))
  have hclaimed : (demandHandedOn s m).planner.claim = (formDemand m).planner.claim := by simp
  have hshare : OwnShareLaw (demandHandedOn s m) := by
    have h := commit_formDemand_ownShareLaw hs hm hclaim hroster hplan
    unfold OwnShareLaw at h ⊢
    rwa [ownShare_congr (b := commit s (formDemand m)) (by simp) (by simp), (demandHandedOn_frame s m).2.1]
  refine ⟨hfits, demandLaw_congr (formDemand_demandLaw m) (by rw [hclaimed]) (by rw [hclaimed]) (by simp) (by simp),
    claimLaw_congr hclaim (by simp) (by simp) (by simp) (by simp) (by simp), fun hl => ?_, hshare,
    grantLaw_of_share hfits hshare fun hst hph => ?_⟩
  · have h := hidle (hstate ▸ by simpa using hl)
    unfold State.IdleDemand at h ⊢
    simpa using h
  · have hiso : m.life.state = .isolated := by simpa using hst
    have hcommit : (commit s (formDemand m)).grantCtl.grant ≤ m.grantCtl.grant := by
      refine (not_lt.mp fun hr => ?_ : _ ≤ (formDemand m).grantCtl.grant).trans_eq (by simp)
      have hactive := (handOn_raise hr).1
      simp [hiso] at hactive
    unfold demandHandedOn at hst hph ⊢
    split
    · next hsame =>
      have hgrant := hs.grant
      have hmgrant : m.grantCtl.grant = s.grantCtl.grant := hm.grant
      unfold GrantLaw at hgrant ⊢
      rw [(commit_frame s (formDemand m)).2.2.2.2.2.2.2.2.2.2.2.2.2.1, ← hsame]
      exact hcommit.trans (hmgrant.trans_le hgrant)
    · next hne =>
      rw [if_neg hne] at hst hph
      have hphase := (hm.grantFits hs).phase
      unfold PhaseLaw at hphase
      unfold GrantLaw followDemand
      rw [if_pos (by simpa using hiso)]
      split
      · simp
      · simp
      · next hspent => exact absurd (by simpa using hspent) hph
      · next hnone => exact absurd hiso (hphase.mp (by simpa using hnone))

theorem commitDemand_demandFits (hidle : s.life.state = .loading → m.IdleDemand) : DemandFits (commitDemand s m) := by
  have h := demandHandedOn_demandFits hs hm hclaim hroster hplan hidle
  rw [commitDemand_eq]
  split
  · exact evalSettled_demandFits h
  · exact h

end

/-! ### Every event -/

/-- The roster of the state that a chain of changes has led to. -/
theorem Changes.rosterLaw {s u : State} (h : Changes s u) (hs : EntriesLaw s) : RosterLaw u :=
  (h.keep (fun _ _ hc => hc.entriesLaw) hs).roster

theorem Taking.demandFits {s u : State} (h : Taking s u) (hn : EntriesLaw s) (hs : DemandFits s) : DemandFits u := by
  cases h with
  | pad h => exact h.alike.demandFits hs
  | @roster m v hm hc hv _ _ _ =>
    have hm' : DemandFits m := Alike.demandFits hm ⟨hs.fits.congr rfl rfl rfl rfl, hs.demand, hs.claim, hs.idle, hs.share, hs.grant⟩
    have hcommit : DemandFits (commit s m) := handOn_demandFits (hc.rosterLaw hn) hm'
    exact evalSettled_demandFits (Alike.demandFits hv
      ⟨hcommit.fits.congr rfl rfl rfl rfl, hcommit.demand, hcommit.claim, hcommit.idle, hcommit.share, hcommit.grant⟩)
  | @shed m hm hc =>
    exact handOn_demandFits (hc.rosterLaw hn) (Alike.demandFits hm
      ⟨hs.fits.congr rfl rfl rfl rfl, hs.demand, hs.claim, hs.idle, hs.share, hs.grant⟩)

theorem enterIsolated_grantLaw (s : State) (h : (enterIsolated s).life.phase ≠ .spent) : GrantLaw (enterIsolated s) := by
  unfold GrantLaw
  unfold enterIsolated at h ⊢
  dsimp only at h ⊢
  by_cases hspent : s.spentDue ≤ s.now
  · simp [hspent] at h
  · by_cases hfallback : s.fallbackDue ≤ s.now <;> simp [hspent, hfallback]

/-- The entry into JOINING ends there, or in ACTIVE (R71). -/
theorem enterJoining_state (s : State) :
    (enterJoining s).life.state = .joining ∨ (enterJoining s).life.state = .active := by
  unfold enterJoining
  dsimp only
  split
  · exact .inr (enterActive_state _)
  · exact .inl (by simp)

theorem Move.demandFits {s u : State} (h : Move s u) (hn : EntriesLaw s) (hp : PlanLaw s) (hs : DemandFits s) :
    DemandFits u := by
  have hfits := h.grantFits hs.fits
  cases h with
  | taking h => exact h.demandFits hn hs
  | raiseHold => exact weighRaise_demandFits ⟨hs.fits.congr rfl rfl rfl rfl, hs.demand, hs.claim, hs.idle, hs.share, hs.grant⟩
  | @demand m hm hc hclaim hidle =>
    exact commitDemand_demandFits hs hm (hclaim hs.claim) (hc.rosterLaw hn) hp fun hl => hidle hl (hs.idle hl)
  | listening =>
    exact hs.of_kept hfits (by simp [enterListening]) (by simp [enterListening]) (by simp [enterListening])
      (by simp [enterListening]) (by simp [enterListening]) (by simp [enterListening]) (by simp [enterListening])
  | leaving =>
    exact hs.of_kept hfits (by simp [enterLeaving]) (by simp [enterLeaving]) (by simp [enterLeaving])
      (by simp [enterLeaving]) (by simp [enterLeaving]) (by simp [enterLeaving]) (by simp [enterLeaving])
  | dormant hst =>
    have hzero := hs.fits.zero.1 (by simp [hst, grantIsZeroIn])
    unfold enterDormant
    dsimp only
    refine evalSettled_demandFits (handOn_demandFits (rosterLaw_of_empty (by simp)) (hs.of_kept
      (.of_zero (by simp [PhaseLaw]) (by simpa using hzero)) ?_ ?_ ?_ ?_ ?_ ?_ ?_)) <;> simp
  | duplicate =>
    exact hs.of_kept hfits (by simp [enterDuplicate]) (by simp [enterDuplicate]) (by simp [enterDuplicate])
      (by simp [enterDuplicate]) (by simp [enterDuplicate]) (by simp [enterDuplicate]) (by simp [enterDuplicate])
  | joining hst =>
    have hload := Changes.ne_loading (enterJoining_changes hst) (ne_loading_of_plans hst)
    refine hs.of_kept hfits (by simp) (by simp) (by simp) (by simp) (by simp) (fun hl => absurd hl hload) fun hi _ => ?_
    rcases enterJoining_state s with h | h <;> rw [h] at hi <;> cases hi
  | isolated =>
    exact hs.of_kept hfits (by simp) (by simp) (by simp) (by simp) (by simp) (by simp [enterIsolated])
      fun _ hph => enterIsolated_grantLaw s hph
  | spent =>
    exact hs.of_kept hfits (by simp [enterSpent]) (by simp [enterSpent]) (by simp [enterSpent])
      (by simp [enterSpent]) (by simp [enterSpent]) (by simp [enterSpent]) (by simp [enterSpent])
  | fallback =>
    exact hs.of_kept hfits (by simp [enterFallback]) (by simp [enterFallback]) (by simp [enterFallback])
      (by simp [enterFallback]) (by simp [enterFallback]) (by simp [enterFallback]) (by simp [enterFallback, GrantLaw])
  | fault r =>
    have hshare : OwnShareLaw (enterFault r s) := ownShareLaw_of_no_plan (by simp [enterFault_writes])
    exact ⟨hfits, demandLaw_congr hs.demand (by simp [enterFault_writes]) (by simp [enterFault_writes])
        (by simp) (by simp [enterFault_writes]),
      claimLaw_congr hs.claim (by simp [enterFault_writes]) (by simp [enterFault_writes]) (by simp [enterFault_writes])
        (by simp [enterFault_writes]) (by simp [enterFault_writes]),
      by simp [enterFault_writes], hshare, grantLaw_of_share hfits hshare (by simp [enterFault_writes])⟩
  | load img hl =>
    obtain ⟨hhost, htrim⟩ := hs.idle hl
    have hentries := hn.loading hl
    generalize hv : startTimers (enterListening (takeStationRecord (paramsOf img) (placeImage img s))) = v
    have hplan : v.planner.plan = none := by subst hv; simpa using hp.2 (by rw [hl]; rfl)
    have hentries' : v.roster.entries = [] := by subst hv; simpa using hentries
    have hshare := ownShareLaw_of_no_plan hplan
    have hlistens : v.life.state = .listening := by subst hv; simp [enterListening]
    have hgrant : v.grantCtl.grant = 0 := by subst hv; simp [enterListening]
    have hphase : PhaseLaw v := by subst hv; simp [PhaseLaw, enterListening]
    refine evalSettled_demandFits (handOn_demandFits (rosterLaw_of_empty hentries')
      ⟨.of_zero hphase hgrant, ?_, ?_, by simp [hlistens], hshare, ?_⟩)
    · subst hv
      exact demandLaw_congr hs.demand (by simp) (by simp) (by simp) (by simp)
    · have hcopy : v.params = paramsOf img := by subst hv; simp [State.params, placeImage]
      have hmin : v.planner.claim.min = (paramsOf img).min := by subst hv; simp [takeStationRecord]
      have hmax : v.planner.claim.max = (paramsOf img).max := by subst hv; simp [takeStationRecord]
      have hhost' : v.planner.claim.hostDemand = 0 := by subst hv; simpa using hhost
      have htrim' : v.meter.trim = none := by subst hv; simpa using htrim
      refine ⟨by rw [hcopy, hmin], by rw [hcopy, hmax], .inl hhost', fun x hx => ?_⟩
      rw [htrim'] at hx
      cases hx
    · unfold GrantLaw; rw [hgrant]; exact Nat.zero_le _

theorem frameEvent_demandFits (d : Bool) {s : State} (h : DemandFits s) : DemandFits (frameEvent d s) := by
  obtain ⟨v, hv, he⟩ := frameEvent_eq d s
  have hfits : DemandFits v := Alike.demandFits hv ⟨h.fits.congr rfl rfl rfl rfl, h.demand, h.claim, h.idle, h.share, h.grant⟩
  rcases he with he | ⟨he, -⟩
  · exact he ▸ hfits
  · exact he ▸ weighRaise_demandFits hfits

/-! ### Along a step -/

theorem Taking.changes {s u : State} (h : Taking s u) : Changes s u := by
  cases h with
  | pad h => exact h.chain
  | roster _ hc _ hcv => exact ((hc.trans (commit_changes _ _)).trans hcv).trans (evalSettled_changes _)
  | shed _ hc => exact hc.trans (commit_changes _ _)

/-- A move is a chain of changes. -/
theorem Move.changes {s u : State} (h : Move s u) : Changes s u := by
  cases h with
  | taking h => exact h.changes
  | raiseHold => exact (Change.grantCtl s { s.grantCtl with raiseHold := .expired }).one.trans (weighRaise_changes _)
  | demand _ hc => exact hc.trans (commitDemand_changes _ _)
  | listening hst => exact enterListening_changes hst
  | leaving hst => exact enterLeaving_changes hst
  | dormant hst => exact enterDormant_changes (by rw [hst]; rfl)
  | duplicate hst => exact enterDuplicate_changes hst
  | joining hst => exact enterJoining_changes hst
  | isolated hst => exact enterIsolated_changes hst
  | spent hst => exact enterSpent_changes hst
  | fallback hst => exact enterFallback_changes hst
  | fault r => exact (Change.fault s r).one
  | load img hl =>
    exact ((((Change.startUp s img hl).one.trans (listen_changes _)).trans (startTimers_changes _)).trans
      (handOn_changes true true _)).trans (evalSettled_changes _)

/-- A step but a fault of the storage keeps the grant, our share and the demand in order. -/
theorem step_demandFits {s u : State} (hkept : Claims.StorageKept s) (h : step s = .next u) (hn : EntriesLaw s)
    (hp : PlanLaw s) (hs : DemandFits s) : DemandFits u := by
  have hlaws : ∀ {a b : State}, Changes a b → EntriesLaw a ∧ PlanLaw a → EntriesLaw b ∧ PlanLaw b := fun hc ⟨hn, hp⟩ =>
    ⟨hc.keep (fun _ _ hc => hc.entriesLaw) hn, hc.keep (fun _ _ hc => hc.planLaw) hp⟩
  refine (step_keeps_whole (P := fun v => (EntriesLaw v ∧ PlanLaw v) ∧ DemandFits v) ?_ ?_ ?_ ?_ ?_ (.inr hkept) h
    ⟨⟨hn, hp⟩, hs⟩).2
  · exact fun v _ ⟨⟨hn, hp⟩, hs⟩ => ⟨⟨⟨hn.roster, hn.loading⟩, hp⟩,
      ⟨hs.fits.congr rfl rfl rfl rfl, hs.demand, hs.claim, hs.idle, hs.share, hs.grant⟩⟩
  · exact fun v w hpad ⟨hnp, hs⟩ => ⟨hlaws hpad.chain hnp, hpad.alike.demandFits hs⟩
  · exact fun v w hmove ⟨hnp, hs⟩ => ⟨hlaws hmove.changes hnp, hmove.demandFits hnp.1 hnp.2 hs⟩
  · exact fun d v ⟨hnp, hs⟩ => ⟨hlaws (frameEvent_changes d v) hnp, frameEvent_demandFits d hs⟩
  · intro cause v
    exact ⟨⟨entriesLaw_of_empty rfl, fun q hq => (nomatch hq), fun _ => rfl⟩, restartWith_grantFits cause v, rfl,
      ⟨rfl, rfl, .inl rfl, fun x hx => (nomatch hx)⟩, fun _ => ⟨rfl, rfl⟩, Nat.le_refl 0, Nat.le_refl 0⟩

/-- The demand and the grant's law hold through a fault of the storage too, which touches neither. -/
theorem step_grantLaw_of_storageFault {s u : State} (hd : DemandLaw s) (hg : GrantLaw s) (hkept : ¬ Claims.StorageKept s)
    (h : step s = .next u) : DemandLaw u ∧ GrantLaw u := by
  unfold Claims.StorageKept at hkept
  push Not at hkept
  obtain ⟨t, i, b, rest, hpending⟩ := hkept
  unfold step at h
  rw [hpending] at h
  refine arrive_inv (P := fun v => DemandLaw v ∧ GrantLaw v) ?_ (fun _ => ?_) h <;> exact ⟨hd, hg⟩

end Sys2Proof.Machine

section
open Sys2Proof.Machine Sys2Proof.Safety Sys2Proof.Claims

/-- Settles O57: our share is within our demand in every new plan, and the grant follows the one or the other. -/
theorem stepKeepsTheGrantWithinTheDemand : Obligations.StepKeepsTheGrantWithinTheDemand := by
  intro s u hloading hroster hphase hzero hshare hplan hdemand hclaim hown hgrant h
  by_cases hkept : StorageKept s
  · have hidle : s.life.state = .loading → s.IdleDemand := fun hl => by
      obtain ⟨-, -, -, hplanner, -, -, hmeter, -⟩ := hloading hl
      unfold State.IdleDemand
      rw [hplanner, hmeter]
      exact ⟨rfl, rfl⟩
    have hu := step_demandFits hkept h (entriesLaw_of_loadingLaw hloading hroster) hplan
      ⟨⟨hphase, hzero, hshare⟩, hdemand, hclaim, hidle, hown, hgrant⟩
    exact ⟨hu.demand, hu.grant, fun _ => ⟨hu.claim, hu.share⟩⟩
  · obtain ⟨hd, hg⟩ := step_grantLaw_of_storageFault hdemand hgrant hkept h
    exact ⟨hd, hg, fun hk => absurd hk hkept⟩

end
end

section
/-! The settling of O58. The digest and the plan are computed again wherever their inputs have changed. -/

namespace Sys2Proof.Machine

open Sys2Proof.Safety

/-! ### What of an entry the digest and the plan read (R15, R19) -/

/-- The number and the element that a digest key stands for. -/
def DigestKey.element (k : DigestKey) : Station × List Byte :=
  (k.station, digestElement k.station k.cls (match k.live with
    | some (serial, _) => serial
    | none => 0))

theorem Entry.element_of_digestKey (e : Entry) : (e.station, e.element) = e.digestKey.element := by
  unfold Entry.element Entry.digestKey DigestKey.element
  cases e.cls <;> cases e.origin <;> rfl

/-- The class and the parts of the plan that a plan key stands for. -/
def PlanKey.parts (k : PlanKey) : EntryClass × Current × Option Row × Option Current :=
  (k.cls, k.mismatchMax.getD 0, k.live.map (fun l => claimRow k.station l.1 l.2.1 l.2.2.1),
    k.live.bind (fun l => l.2.2.2))

/-- An entry of a kind of Table 2-2 is to the plan what its key says. -/
theorem Entry.planParts_of_planKey {e : Entry} (h : EntryLaw e) : (e.cls, e.planParts) = e.planKey.parts := by
  unfold EntryLaw at h
  unfold Entry.planParts Entry.row? Entry.planKey PlanKey.parts
  cases hc : e.cls <;> cases ho : e.origin <;> simp_all

/-- What is a function of a key is the same along two lists with the same keys. -/
theorem map_eq_of_key {α κ β : Type} {f : α → β} {key : α → κ} {g : κ → β} {xs ys : List α}
    (hx : ∀ x ∈ xs, f x = g (key x)) (hy : ∀ y ∈ ys, f y = g (key y)) (h : xs.map key = ys.map key) :
    xs.map f = ys.map f := by
  calc xs.map f = (xs.map key).map g := by rw [List.map_map]; exact List.map_congr_left hx
    _ = (ys.map key).map g := by rw [h]
    _ = ys.map f := by rw [List.map_map]; exact (List.map_congr_left hy).symm

theorem digestNow_of_keys {a b : State} (hc : a.loader.heldCopy = b.loader.heldCopy)
    (hs : a.planner.claim.serial = b.planner.claim.serial)
    (hk : a.roster.entries.map Entry.digestKey = b.roster.entries.map Entry.digestKey) : a.digestNow = b.digestNow :=
  digestNow_congr hc hs (map_eq_of_key (fun e _ => e.element_of_digestKey) (fun e _ => e.element_of_digestKey) hk)

theorem planNow_of_keys {a b : State} (ha : RosterLaw a) (hb : RosterLaw b) (hc : a.planner.claim = b.planner.claim)
    (hu : a.meter.estimate = b.meter.estimate) (hd : a.grantCtl.deficit = b.grantCtl.deficit)
    (hh : a.loader.heldCopy = b.loader.heldCopy)
    (hk : a.roster.entries.map Entry.planKey = b.roster.entries.map Entry.planKey) : a.planNow = b.planNow :=
  planNow_congr hc hu hd hh (map_eq_of_key (fun e he => Entry.planParts_of_planKey (ha.2.2 e he).2)
    (fun e he => Entry.planParts_of_planKey (hb.2.2 e he).2) hk)

/-! ### Digest and plan as they stand (R14, R19) -/

/-- A change that leaves what the digest and the plan read. -/
theorem FreshLaw.of_keys {s u : State} (h : FreshLaw s) (hs : RosterLaw s) (hu : RosterLaw u)
    (hst : u.life.state.plans = true → s.life.state.plans = true) (hp : u.planner = s.planner)
    (hc : u.loader.heldCopy = s.loader.heldCopy) (he : u.meter.estimate = s.meter.estimate)
    (hd : u.grantCtl.deficit = s.grantCtl.deficit)
    (hdk : u.roster.entries.map Entry.digestKey = s.roster.entries.map Entry.digestKey)
    (hpk : u.roster.entries.map Entry.planKey = s.roster.entries.map Entry.planKey) : FreshLaw u := by
  intro hplans
  obtain ⟨hdigest, hplan⟩ := h (hst hplans)
  rw [hp, digestNow_of_keys hc (by rw [hp]) hdk, planNow_of_keys hu hs (by rw [hp]) he hd hc hpk]
  exact ⟨hdigest, hplan⟩

/-- A change that leaves the roster with the rest of what they read. -/
theorem FreshLaw.congr {s u : State} (h : FreshLaw s) (hs : RosterLaw s)
    (hst : u.life.state.plans = true → s.life.state.plans = true) (hp : u.planner = s.planner)
    (hc : u.loader.heldCopy = s.loader.heldCopy) (he : u.meter.estimate = s.meter.estimate)
    (hd : u.grantCtl.deficit = s.grantCtl.deficit) (hr : u.roster.entries = s.roster.entries) : FreshLaw u :=
  FreshLaw.of_keys h hs (rosterLaw_congr hs hr (ownStation_congr hc)) hst hp hc he hd (by rw [hr]) (by rw [hr])

theorem handOn_roster (dig pln : Bool) (s : State) :
    (handOn dig pln s).roster = if dig then (clearConfirmations s).roster else s.roster := by
  rw [handOn_eq]
  split <;> simp

theorem handOn_digestNow (dig pln : Bool) (s : State) : (handOn dig pln s).digestNow = s.digestNow := by
  have hcleared : (handOn dig pln s).digestNow = (if dig then clearConfirmations s else s).digestNow :=
    digestNow_congr (by cases dig <;> simp) (by cases dig <;> simp) (by rw [handOn_roster]; cases dig <;> rfl)
  cases dig with
  | true => exact hcleared.trans (clearConfirmations_digestNow s)
  | false => exact hcleared

theorem handOn_planNow (dig pln : Bool) (s : State) : (handOn dig pln s).planNow = s.planNow := by
  have hcleared : (handOn dig pln s).planNow = (if dig then clearConfirmations s else s).planNow :=
    planNow_congr (by cases dig <;> simp) (by cases dig <;> simp) (by cases dig <;> simp) (by cases dig <;> simp)
      (by rw [handOn_roster]; cases dig <;> rfl)
  cases dig with
  | true => exact hcleared.trans (clearConfirmations_planNow s)
  | false => exact hcleared

theorem handOn_plan (dig pln : Bool) (s : State) :
    (handOn dig pln s).planner.plan = if pln && s.life.state.plans then some s.planNow else s.planner.plan := by
  rw [handOn_eq]
  by_cases hp : (pln && s.life.state.plans) = true <;> simp [hp]

/-- A hand-off leaves digest and plan fresh where what it does not compute again was fresh (R16, R17). -/
theorem handOn_freshLaw {dig pln : Bool} {s : State}
    (hd : s.life.state.plans = true → dig = false → s.planner.digest = s.digestNow)
    (hp : s.life.state.plans = true → pln = false → s.planner.plan = some s.planNow) : FreshLaw (handOn dig pln s) := by
  intro hplans
  have hst : s.life.state.plans = true := by simpa using hplans
  rw [handOn_digestNow, handOn_planNow, handOn_digest, handOn_plan, hst]
  constructor
  · cases dig with
    | true => rfl
    | false => exact hd hst rfl
  · cases pln with
    | true => rfl
    | false => exact hp hst rfl

theorem digestChanged_eq_false {a b : State} : digestChanged a b = false ↔
    a.roster.entries.map Entry.digestKey = b.roster.entries.map Entry.digestKey ∧
    a.planner.claim.serial = b.planner.claim.serial := by
  simp [digestChanged]

theorem planInputChanged_eq_false {a b : State} : planInputChanged a b = false ↔
    a.roster.entries.map Entry.planKey = b.roster.entries.map Entry.planKey ∧
    a.planner.claim.effectiveDemand = b.planner.claim.effectiveDemand ∧
    a.meter.estimate = b.meter.estimate ∧ a.grantCtl.deficit = b.grantCtl.deficit := by
  simp [planInputChanged, and_assoc]

/-- An event that is handed on by what it changed leaves digest and plan fresh (R15, R19). -/
theorem commit_freshLaw {s m : State} (h : FreshLaw s) (hs : RosterLaw s) (hm : RosterLaw m)
    (hst : m.life.state = s.life.state) (hcopy : m.loader.heldCopy = s.loader.heldCopy)
    (hdigest : m.planner.digest = s.planner.digest) (hplan : m.planner.plan = s.planner.plan)
    (hclaim : m.planner.claim.effectiveDemand = s.planner.claim.effectiveDemand →
      ∃ v, m.planner.claim = { s.planner.claim with hostDemand := v }) : FreshLaw (commit s m) := by
  refine handOn_freshLaw (fun hplans hno => ?_) fun hplans hno => ?_
  · obtain ⟨hkeys, hserial⟩ := digestChanged_eq_false.mp hno
    rw [hdigest, (h (hst ▸ hplans)).1, digestNow_of_keys hcopy.symm hserial hkeys]
  · obtain ⟨hkeys, hdemand, hestimate, hdeficit⟩ := planInputChanged_eq_false.mp hno
    obtain ⟨v, hv⟩ := hclaim hdemand.symm
    have hhost : ({ s with planner := { s.planner with claim := { s.planner.claim with hostDemand := v } } } :
        State).planNow = s.planNow := rfl
    rw [hplan, (h (hst ▸ hplans)).2, ← hhost]
    exact congrArg some (planNow_of_keys (a := { s with planner := { s.planner with
      claim := { s.planner.claim with hostDemand := v } } }) hs hm hv.symm hestimate hdeficit hcopy.symm hkeys)

/-! ### Every event -/

/-- The entries in order, and digest and plan fresh over them. -/
structure FreshFits (s : State) : Prop where
  entries : EntriesLaw s
  fresh : FreshLaw s

theorem Alike.freshLaw {s u : State} (h : Alike s u) (hs : RosterLaw s) (hu : RosterLaw u) (hf : FreshLaw s) : FreshLaw u :=
  FreshLaw.of_keys hf hs hu (fun hp => h.state ▸ hp) h.planner h.copy h.estimate h.deficit h.digestKeys h.planKeys

theorem evalSettled_freshLaw {s : State} (hs : RosterLaw s) (h : FreshLaw s) : FreshLaw (evalSettled s) := by
  refine FreshLaw.congr h hs (fun hp => ?_) (by simp) (by simp) (by simp) (by simp) (by simp)
  by_cases hj : s.life.state = .joining
  · rw [hj]; rfl
  · rwa [evalSettled_life hj] at hp

theorem Taking.freshLaw {s u : State} (h : Taking s u) (he : EntriesLaw s) (hf : FreshLaw s) : FreshLaw u := by
  have roster : ∀ {v}, Changes s v → RosterLaw v := fun hc => hc.rosterLaw he
  cases h with
  | pad h => exact h.alike.freshLaw he.roster (roster h.chain) hf
  | @roster m v hm hc hv hcv hdk hpk =>
    have hcommitted := hc.trans (commit_changes s m)
    have hclaim : m.planner.claim = s.planner.claim := by rw [hm.planner]
    have hcommit : FreshLaw (commit s m) := commit_freshLaw hf he.roster (roster hc) hm.state hm.copy
      (by rw [hm.planner]) (by rw [hm.planner]) fun _ => ⟨s.planner.claim.hostDemand, by rw [hclaim]⟩
    refine evalSettled_freshLaw (roster (hcommitted.trans hcv)) (FreshLaw.of_keys hcommit (roster hcommitted)
      (roster (hcommitted.trans hcv)) (fun hp => hv.state ▸ hp) hv.planner hv.copy hv.estimate hv.deficit hdk hpk)
  | @shed m hm hc =>
    have hclaim : m.planner.claim = s.planner.claim := by rw [hm.planner]
    exact commit_freshLaw hf he.roster (roster hc) hm.state hm.copy (by rw [hm.planner]) (by rw [hm.planner])
      fun _ => ⟨s.planner.claim.hostDemand, by rw [hclaim]⟩

theorem Changes.entriesLaw {s u : State} (h : Changes s u) (hs : EntriesLaw s) : EntriesLaw u :=
  h.keep (fun _ _ hc => hc.entriesLaw) hs

/-- Where the effective demand is formed as it stood, the claim stands too (R3). -/
theorem formDemand_of_same {s : State}
    (h : (formDemand s).planner.claim.effectiveDemand = s.planner.claim.effectiveDemand) : formDemand s = s := by
  unfold formDemand at h ⊢
  split
  · rfl
  · next hne => rw [if_neg hne] at h; exact absurd h hne

theorem commitDemand_freshLaw {s m : State} (hf : FreshLaw s) (he : EntriesLaw s) (hc : Changes s m)
    (hm : DemandMoved s m) : FreshLaw (commitDemand s m) := by
  have hformed : Changes s (formDemand m) := hc.trans (formDemand_changes m)
  have hclaim : m.planner.claim = { s.planner.claim with hostDemand := m.planner.claim.hostDemand } :=
    congrArg SharePlanner.claim hm.planner
  have hdigest : m.planner.digest = s.planner.digest := by rw [hm.planner]
  have hplan : m.planner.plan = s.planner.plan := by rw [hm.planner]
  have hcommit : FreshLaw (commit s (formDemand m)) := by
    refine commit_freshLaw hf he.roster (hformed.rosterLaw he) (by simpa using hm.state) (by simpa using hm.copy)
      (by simpa using hdigest) (by simpa using hplan) fun hsame => ⟨m.planner.claim.hostDemand, ?_⟩
    have hdemand : m.planner.claim.effectiveDemand = s.planner.claim.effectiveDemand := by rw [hclaim]
    rw [formDemand_of_same (hsame.trans hdemand.symm)]
    exact hclaim
  have hrc : RosterLaw (commit s (formDemand m)) := Changes.rosterLaw (hformed.trans (commit_changes _ _)) he
  have hhanded : FreshLaw (demandHandedOn s m) :=
    FreshLaw.congr hcommit hrc (by simp) (by simp) (by simp) (by simp) (by simp) (by simp)
  rw [commitDemand_eq]
  split
  · exact evalSettled_freshLaw (rosterLaw_congr hrc (by simp) (ownStation_congr (by simp))) hhanded
  · exact hhanded

theorem Move.freshLaw {s u : State} (h : Move s u) (he : EntriesLaw s) (hf : FreshLaw s) : FreshLaw u := by
  cases h with
  | taking h => exact h.freshLaw he hf
  | raiseHold => exact FreshLaw.congr hf he.roster (by simp) (by simp) (by simp) (by simp) (by simp) (by simp)
  | demand hm hc => exact commitDemand_freshLaw hf he hc hm
  | listening hst =>
    exact FreshLaw.congr hf he.roster (fun _ => by rw [hst]; rfl) (by simp) (by simp) (by simp) (by simp) (by simp)
  | leaving hst =>
    exact FreshLaw.congr hf he.roster
      (fun _ => by cases hl : s.life.state <;> simp_all [StationState.leaves, StationState.plans])
      (by simp [enterLeaving]) (by simp [enterLeaving]) (by simp [enterLeaving]) (by simp [enterLeaving])
      (by simp [enterLeaving])
  | dormant hst =>
    unfold enterDormant
    dsimp only
    refine evalSettled_freshLaw (rosterLaw_of_empty (by rw [handOn_roster]; split <;> simp [clearConfirmations])) ?_
    exact handOn_freshLaw (fun _ _ => rfl) fun _ hno => by cases hno
  | duplicate hst =>
    have hentries : (enterDuplicate s).roster.entries = s.roster.entries.map (fun e => { e with forget := none }) := by
      simp [enterDuplicate, holdRoster]
    refine FreshLaw.of_keys hf he.roster ((enterDuplicate_changes hst).rosterLaw he) (fun _ => hst)
      (by simp [enterDuplicate]) (by simp [enterDuplicate]) (by simp [enterDuplicate]) (by simp [enterDuplicate]) ?_ ?_ <;>
    · rw [hentries, List.map_map]; rfl
  | joining hst | isolated hst =>
    exact FreshLaw.congr hf he.roster (fun _ => hst) (by simp) (by simp) (by simp) (by simp) (by simp)
  | spent hst =>
    exact FreshLaw.congr hf he.roster (fun _ => hst) (by simp [enterSpent]) (by simp [enterSpent]) (by simp [enterSpent])
      (by simp [enterSpent]) (by simp [enterSpent])
  | fallback hst =>
    exact FreshLaw.congr hf he.roster (fun _ => hst) (by simp [enterFallback]) (by simp [enterFallback])
      (by simp [enterFallback]) (by simp [enterFallback]) (by simp [enterFallback])
  | fault r => exact fun hp => by simp [enterFault_writes, StationState.plans] at hp
  | load img hl =>
    have hempty := he.loading hl
    refine evalSettled_freshLaw (rosterLaw_of_empty ?_) (handOn_freshLaw (fun _ hno => by cases hno)
      fun _ hno => by cases hno)
    rw [handOn_roster]
    simp [clearConfirmations, hempty]

theorem frameEvent_freshLaw (d : Bool) {s : State} (he : EntriesLaw s) (hf : FreshLaw s) : FreshLaw (frameEvent d s) :=
  FreshLaw.congr hf he.roster (by simp) (by simp) (by simp) (by simp) (by simp) (by simp)

theorem step_freshFits {s u : State} (hkept : Claims.StorageKept s) (h : step s = .next u) : FreshFits s → FreshFits u :=
  step_keeps_whole (fun _ _ hs => ⟨⟨hs.entries.roster, hs.entries.loading⟩, hs.fresh⟩)
    (fun _ _ hp hs => ⟨hp.chain.entriesLaw hs.entries,
      hp.alike.freshLaw hs.entries.roster (hp.chain.rosterLaw hs.entries) hs.fresh⟩)
    (fun _ _ hm hs => ⟨hm.changes.entriesLaw hs.entries, hm.freshLaw hs.entries hs.fresh⟩)
    (fun d _ hs => ⟨(frameEvent_changes d _).entriesLaw hs.entries, frameEvent_freshLaw d hs.entries hs.fresh⟩)
    (fun _ _ => ⟨entriesLaw_of_empty rfl, fun hp => by cases hp⟩) (.inr hkept) h

/-! ### The elements of the digest (R18) -/

/-- The elements under the digest with their numbers: the entries', our own at its place. -/
def digestElements (own : Station) (serial : Byte) : List Entry → List (Station × List Byte)
  | [] => [(own, digestElement own .live serial)]
  | e :: es =>
    if own < e.station then (own, digestElement own .live serial) :: (e :: es).map (fun e => (e.station, e.element))
    else (e.station, e.element) :: digestElements own serial es

theorem digestBytes_eq_flatten (own : Station) (serial : Byte) (es : List Entry) :
    digestBytes own serial es = ((digestElements own serial es).map (fun x => x.2)).flatten := by
  induction es with
  | nil => simp [digestBytes, digestElements]
  | cons e es ih =>
    unfold digestBytes digestElements
    split
    · simp [List.flatMap, Function.comp_def]
    · simp [ih]

theorem mem_digestElements {own : Station} {serial : Byte} {es : List Entry} {x : Station × List Byte} :
    x ∈ digestElements own serial es ↔
      x = (own, digestElement own .live serial) ∨ ∃ e ∈ es, x = (e.station, e.element) := by
  induction es with
  | nil => simp [digestElements]
  | cons e es ih =>
    unfold digestElements
    split
    · simp [eq_comm]
    · simp only [List.mem_cons, ih, exists_eq_or_imp]
      exact or_left_comm

theorem digestElements_ascending {own : Station} {serial : Byte} {es : List Entry} (h : Ascending es)
    (hown : ∀ e ∈ es, e.station ≠ own) : (digestElements own serial es).Pairwise (fun a b => a.1 < b.1) := by
  induction es with
  | nil => exact List.pairwise_singleton _ _
  | cons e es ih =>
    obtain ⟨hfirst, hrest⟩ := ascending_cons.mp h
    unfold digestElements
    split
    · next hlt =>
      refine List.pairwise_cons.mpr ⟨fun x hx => ?_, ?_⟩
      · obtain ⟨y, hy, rfl⟩ := List.mem_map.mp hx
        rcases List.mem_cons.mp hy with rfl | hy
        · exact hlt
        · exact hlt.trans (hfirst y hy)
      · exact List.pairwise_map.mpr (List.pairwise_map.mp h)
    · next hge =>
      refine List.pairwise_cons.mpr ⟨fun x hx => ?_, ih hrest fun e he => hown e (List.mem_cons_of_mem _ he)⟩
      rcases mem_digestElements.mp hx with rfl | ⟨y, hy, rfl⟩
      · exact lt_of_le_of_ne (not_lt.mp hge) (hown e List.mem_cons_self)
      · exact hfirst y hy

/-- The element of an entry, class by class. -/
theorem Entry.element_eq (e : Entry) : e.element = BitVec.ofNat 8 e.station.val :: (match e.cls, e.origin with
    | .live, .heard r => [1#8, r.serial]
    | .live, .hearsay => [1#8, 0#8]
    | .quiet, _ => [2#8, 0#8]
    | .mismatch, _ => [3#8, 0#8]) := by
  unfold Entry.element digestElement
  cases e.cls <;> cases e.origin <;> rfl

end Sys2Proof.Machine

section
open Sys2Proof.Machine Sys2Proof.Safety Sys2Proof.Claims

/-- Settles O58: what a hand-off does not compute again has not changed; and the bytes under the digest are the elements in
their order. -/
theorem stepKeepsDigestAndPlanFresh : Obligations.StepKeepsDigestAndPlanFresh := by
  refine ⟨fun s u hloading hroster hfresh hkept h =>
    (step_freshFits hkept h ⟨entriesLaw_of_loadingLaw hloading hroster, hfresh⟩).fresh, fun s hroster => ?_⟩
  obtain ⟨-, hascending, hown⟩ := hroster
  refine ⟨digestElements s.ownStation s.planner.claim.serial s.roster.entries,
    digestElements_ascending hascending fun e he => (hown e he).1, fun x => ?_, ?_⟩
  · rw [mem_digestElements]
    simp only [Entry.element_eq]
    rfl
  · exact congrArg crc16 (digestBytes_eq_flatten _ _ _)

end
end

section
/-! The step, the restarts, the events that do not come about, and the laws at reset. -/

namespace Sys2Proof.Machine

open Sys2Proof.Safety Sys2Proof.Claims

/-! ### Restarts -/

/-- Every block stands at its values of a restart (T 10-4), and the read has begun unless the RESTART input holds it. -/
theorem restartWith_atRestart (cause : RestartCause) (s : State) :
    AtRestart cause (!s.restartInput) (restartWith cause s) := by
  cases hr : s.restartInput <;>
    simp [AtRestart, restartWith, hr, State.reset, BusInterface.initial, Scheduler.initial, RosterUnit.initial,
      SharePlanner.initial, GrantController.initial, Lifecycle.initial, Meter.initial, EnforcementUnit.initial,
      LinkMonitor.initial, Loader.initial, HostPort.initial]

/-- What stands outside the blocks stays through a restart (R161). -/
@[simp] theorem restartWith_frame (cause : RestartCause) (s : State) :
    (restartWith cause s).now = s.now ∧ (restartWith cause s).pending = s.pending ∧
    (restartWith cause s).restartInput = s.restartInput := ⟨rfl, rfl, rfl⟩

/-! ### Events that do not come about -/

/-- A timer that is stopped does not expire. -/
theorem expire_stopped {timer : Timer} {s : State} {f : Time → State → State} (h : timer = none) :
    expire timer s f = .next s := by rw [h]; rfl

/-- An arrival without effect lets only time pass, whatever the RESTART input. -/
theorem arrive_without_effect {t : Time} {s : State} {f : State → State} (h : f (s.atTime t) = s.atTime t) :
    arrive t s f = .next (s.atTime t) := by
  unfold arrive
  rw [h, ite_self]

/-- Without an attempt that can still end through its trailer no outcome is taken. -/
theorem takeOutcome_of_none {accept refuse : Bool} {s : State} (h : s.openAttempt = none) :
    takeOutcome accept refuse s = s := by
  unfold takeOutcome
  rw [h]

theorem ownAttempt_of_no_attempt {s : State} (h : s.bus.attempt = none) : s.ownAttempt = none := by
  unfold State.ownAttempt
  rw [h]

theorem openAttempt_of_no_attempt {s : State} (h : s.bus.attempt = none) : s.openAttempt = none := by
  unfold State.openAttempt
  rw [ownAttempt_of_no_attempt h, ite_self]

theorem openAttempt_of_broken {s : State} {a : Attempt} (ha : s.bus.attempt = some a) (h : a.first = .broken) :
    s.openAttempt = none := by
  unfold State.openAttempt
  rw [if_pos ((firstFrame_of_attempt ha).trans h)]

/-- A mismatch at which the attempt on the line does not lose changes nothing. -/
theorem loseAt_of_not_lost {pos : Nat} {s : State} {a : Attempt} (ha : s.bus.attempt = some a) (h : a.lostAt pos = false) :
    loseAt pos s = s := by
  unfold loseAt
  split
  · rfl
  · next heq =>
    obtain ⟨ha', -⟩ := ownAttempt_eq_some heq
    rw [ha] at ha'
    cases ha'
    simp [h]

/-- A mismatch at which the attempt on the line does not break off changes nothing. -/
theorem abortAt_of_not_broken {pos : Nat} {s : State} {a : Attempt} (ha : s.bus.attempt = some a)
    (h : a.breaksAt pos = false) : abortAt pos s = s := by
  unfold abortAt
  split
  · rfl
  · next heq =>
    obtain ⟨ha', -⟩ := ownAttempt_eq_some heq
    rw [ha] at ha'
    cases ha'
    simp [h]

/-- In the states that assemble nothing no frame is received (R87). -/
theorem receiveKind_of_silent {k : Kind} {bytes : List Byte} {linkFirst : Bool} {s : State}
    (h : s.life.state.takesFrames = false) : receiveKind k bytes linkFirst s = s := by
  unfold receiveKind
  split
  · exact if_neg (by simp [State.canTakeValid, State.canTake, State.meetsOutcome, h])
  · rfl

/-- The row of a valid frame is the arrival of that kind of frame. -/
theorem exec_frameRow (k : Kind) (t : Time) (bytes : List Byte) (linkFirst : Bool) (s : State) :
    exec (frameRow k t bytes linkFirst) s = arrive t s (receiveKind k bytes linkFirst) := by
  cases k <;> rfl

theorem forgetTimer_of_no_entry {n : Station} {s : State} (h : s.entryOf n = none) : s.forgetTimer n = none := by
  unfold State.forgetTimer
  rw [h]

theorem replyEnds_of_none {s : State} (h : s.host.inProgress = none) : replyEnds s = s := by
  unfold replyEnds
  rw [h]

end Sys2Proof.Machine

section
open Sys2Proof.Machine Sys2Proof.Safety Sys2Proof.Claims

/-- Settles O1: both parts are the two branches of the step. -/
theorem stepTakesTheFrontCommandAndIdlesOnNone : Obligations.StepTakesTheFrontCommandAndIdlesOnNone :=
  ⟨fun _ _ _ => rfl, fun s hs => by unfold step; rw [hs]⟩

/-- Settles O2: each kind of restart is `restartWith`, with the RESTART input as the command leaves it. -/
theorem restartsBringEveryBlockToItsInitialValues : Obligations.RestartsBringEveryBlockToItsInitialValues := by
  refine ⟨restartWith_atRestart .power State.reset, fun t s => ⟨restartWith .power (s.atTime t), rfl, ?_⟩,
    fun t s hs => ⟨restartWith s.loader.cause { s.atTime t with restartInput := true }, ?_, ?_⟩,
    fun t s hs => ⟨restartWith .pin { s.atTime t with restartInput := false }, ?_, ?_⟩⟩
  · exact ⟨restartWith_atRestart .power (s.atTime t), rfl, rfl, rfl⟩
  · simp [exec, execRestartInputAsserted, hs]
  · exact ⟨restartWith_atRestart _ { s.atTime t with restartInput := true }, rfl, rfl, rfl⟩
  · simp [exec, execRestartInputRelease, hs]
  · exact ⟨restartWith_atRestart _ { s.atTime t with restartInput := false }, rfl, rfl, rfl⟩

/-- Settles O3: each event is passed over for the one condition of its row that fails. -/
theorem timeAlonePassesWhereNoEventComesAbout : Obligations.TimeAlonePassesWhereNoEventComesAbout := by
  refine ⟨fun c s hr hp hl => exec_passedOver hr hp hl, fun t s _ => ⟨?cycle, ?update, ?forget, ?outcome, ?broken, ?peer,
    ?silent, ?reply⟩⟩
  case cycle => exact fun h => expire_stopped h
  case update => exact fun h l f => expire_stopped h
  case forget => exact fun n h => expire_stopped (forgetTimer_of_no_entry h)
  case outcome =>
    exact fun h a r => arrive_without_effect (takeOutcome_of_none (openAttempt_of_no_attempt h))
  case broken =>
    intro a ha hfirst
    refine ⟨fun accept refuse => ?_, fun pos => ?_, fun pos hpos => ?_⟩
    · exact arrive_without_effect (takeOutcome_of_none (openAttempt_of_broken (s := s.atTime t) ha hfirst))
    · exact arrive_without_effect (loseAt_of_not_lost (s := s.atTime t) ha (by simp [Attempt.lostAt, hfirst]))
    · exact arrive_without_effect (abortAt_of_not_broken (s := s.atTime t) ha (by simp [Attempt.breaksAt, hfirst, hpos]))
  case peer =>
    intro a ha hfirst pos
    refine ⟨?_, ?_⟩
    · exact arrive_without_effect (loseAt_of_not_lost (s := s.atTime t) ha (by simp [Attempt.lostAt, hfirst]))
    · exact arrive_without_effect (abortAt_of_not_broken (s := s.atTime t) ha (by simp [Attempt.breaksAt, hfirst]))
  case silent =>
    intro h
    refine ⟨fun k b f => ?_, fun bits => ?_, ?_⟩
    · rw [exec_frameRow]
      exact arrive_without_effect (receiveKind_of_silent (s := s.atTime t) h)
    · exact arrive_without_effect (onlyIf_fails (by simp [State.lineFree, h]))
    · exact arrive_without_effect (onlyIf_fails (by simp [State.awaitsStart, h]))
  case reply => exact fun h => arrive_without_effect (replyEnds_of_none (s := s.atTime t) h)

/-- Settles O53: at reset every block stands at its initial value, where each law holds or asks nothing. -/
theorem lawsHoldAtReset : Obligations.LawsHoldAtReset := by
  refine ⟨rfl, rfl, ?queue, ?counter, rosterLaw_of_empty rfl, ?report, ?forgotten, rfl, ?settled, ?phase, ?zero, ?share,
    ?request, rfl, ?isolation, ?window, ?plan, ?stage, ?loading, ?claim, ?own, ?grant, ?fresh, ?held, ?line⟩
  case queue => exact ⟨by decide, by decide, fun _ => rfl⟩
  case counter => simp [CounterLaw, State.reset, BusInterface.initial, RosterUnit.initial, Scheduler.initial, HostPort.initial]
  case report => exact fun e he => nomatch he
  case forgotten => exact ⟨by decide, by decide⟩
  case settled => exact fun h => absurd rfl h
  case phase => exact ⟨fun _ => by decide, fun _ => rfl⟩
  case zero => exact ⟨fun _ => rfl, fun _ => rfl⟩
  case share => exact fun _ => Nat.zero_le _
  case request => exact requestLaw_of_empty (fun k => by cases k <;> rfl) (fun a ha => nomatch ha)
  case isolation => exact Nat.zero_le _
  case window => exact Nat.le_refl _
  case plan => exact ⟨fun p hp => (nomatch hp), fun _ => rfl⟩
  case stage => exact ⟨.inl rfl, rfl, rfl⟩
  case loading => exact fun _ => ⟨rfl, rfl, rfl, rfl, rfl, rfl, rfl, rfl, rfl⟩
  case claim => exact ⟨by decide, by decide, .inl rfl, fun v hv => nomatch hv⟩
  case own => exact ownShareLaw_of_no_plan rfl
  case grant => exact Nat.zero_le _
  case fresh => exact fun h => nomatch h
  case held => exact fun h => nomatch h
  case line => exact fun h => nomatch h

end
end

section
/-! The Host Port's answers row by row, the entry into FAULT as one relation, and the steps of a load. -/

namespace Sys2Proof.Machine

open Sys2Proof.Safety Sys2Proof.Claims

/-! ### A host command and its reply (R165, R166) -/

/-- The row of a known command is the arrival of its whole frame (log 17). -/
theorem exec_row (c : Cmd) (t : Time) (p : List Byte) (s : State) : exec (row c t p) s = commandArrives t c.code p s := by
  cases c <;> rfl

/-- No command but RESTART restarts the station (R175). -/
theorem restartsAfter_of_ne {c : Cmd} {p : List Byte} {a : Answer} (hc : c ≠ .restart) :
    restartsAfter ⟨c.code, p⟩ a = false := by simp [restartsAfter, hc]

theorem restartsAfter_of_not_ok {cmd : HostCommand} {a : Answer} (h : a.status ≠ .ok) : restartsAfter cmd a = false := by
  simp [restartsAfter, h]

/-- A reply whose first byte is sent with the assembly hunting: it writes the overrun mark and the command in progress. -/
theorem answered_eq {cmd : HostCommand} {st : Status} {payload : List Byte} {s : State} (hrx : s.host.rx = .hunting)
    (hgap : s.host.gap = none) : answered cmd st payload s = { s with host := { s.host with
      overrun := false
      inProgress := some { command := cmd, reply := replyFrame cmd.code st s.host.overrun payload, restarts := false } } } := by
  unfold answered
  rw [← hrx, ← hgap]

/-- The end of a load from CONFIG leaves the host line alone: the line rate waits for the reply (R157). -/
theorem endLoad_hostLine (img : List Byte) (s : State) :
    (endLoad img true s).host.rx = s.host.rx ∧ (endLoad img true s).host.gap = s.host.gap := by
  unfold endLoad
  split <;> simp [imageHeld]

/-- No command touches the assembly of the host line. -/
theorem act_hostLine (c : Cmd) (p : List Byte) (s : State) :
    (act c p s).after.host.rx = s.host.rx ∧ (act c p s).after.host.gap = s.host.gap := by
  unfold act
  split
  case h_2 => unfold actDemand setHostDemand okWith refuse; split_ifs <;> simp
  case h_3 => rw [actPeer_after]; exact ⟨rfl, rfl⟩
  case h_4 => rw [actPlan_after]; exact ⟨rfl, rfl⟩
  case h_6 => unfold actNote refuse; split <;> exact ⟨rfl, rfl⟩
  case h_7 => unfold actClearCut okWith refuse; split <;> simp
  case h_8 => simp [actLeave, okWith]
  case h_9 => simp [actJoin, okWith]
  case h_11 => exact endLoad_hostLine _ _
  all_goals exact ⟨rfl, rfl⟩

/-- A command that is taken with the port free, RESTART apart: its effects, then its reply (R165, R166). -/
theorem exec_row_taken {c : Cmd} {t : Time} {p : List Byte} {s : State} (hp : PortFree s) (hl : p.length < 64)
    (hg : s.gate c = none) (hsize : p.length = c.payloadSize) (hc : c ≠ .restart) :
    exec (row c t p) s = .next (answered ⟨c.code, p⟩ (act c p (endHostFrame (s.atTime t))).status
      (act c p (endHostFrame (s.atTime t))).payload (act c p (endHostFrame (s.atTime t))).after) := by
  obtain ⟨hr, hi⟩ := hp
  obtain ⟨hrx, hgap⟩ := act_hostLine c p (endHostFrame (s.atTime t))
  rw [exec_row, commandArrives_taken hr hi hl hg hsize, answered_eq (hrx.trans rfl) (hgap.trans rfl)]
  dsimp only
  rw [restartsAfter_of_ne hc]

/-- A command that is refused by state or by size with the port free: its reply alone (R166, R167). -/
theorem exec_row_refused {c : Cmd} {t : Time} {p : List Byte} {st : Status} {s : State} (hp : PortFree s)
    (hl : p.length < 64) (hst : st ≠ .ok)
    (hg : s.gate c = some st ∨ (s.gate c = none ∧ p.length ≠ c.payloadSize ∧ st = .format)) :
    exec (row c t p) s = .next (answered ⟨c.code, p⟩ st [] (s.atTime t)) := by
  obtain ⟨hr, hi⟩ := hp
  rw [exec_row, commandArrives_refused hr hi hl hg, restartsAfter_of_not_ok hst]
  rfl

/-! ### FAULT (R83, R158, R160) -/

/-- The notifications of the entry into FAULT, in their order. -/
theorem enterFault_queue (r : FaultReason) {s : State} (h : s.life.state ≠ .fault) :
    (enterFault r s).host.queue = if s.grantCtl.grant = 0 then
        enterNote (.stationState .fault .none .failed) (enterNote (.fault r) s.host.queue)
      else enterNote (.grant 0) (enterNote (.stationState .fault .none .failed) (enterNote (.fault r) s.host.queue)) := by
  rw [enterFault_eq, setGrant_queue]
  simp [faultAnnounced, setStation_queue, h]

theorem enterFault_faultEntered (r : FaultReason) {s : State} (h : s.life.state ≠ .fault) :
    FaultEntered r s (enterFault r s) := by
  obtain ⟨hlife, hgrant, hsched, hbus, hplanner, hroster, hmeter, henf, hloader⟩ := enterFault_writes r s
  have hcut : (enterFault r s).cutOutput = true := by simp [enterFault_eq, faultAnnounced, setStation_cutOutput, h]
  have hattention : (enterFault r s).attention = true := by
    simp [enterFault_eq, setGrant_attention, faultAnnounced, setStation_attention]
  exact ⟨hlife, hgrant, hsched, hbus, hplanner, hroster, hmeter, henf, hloader, by simp, hcut, hattention, by simp, by simp,
    by simp, enterFault_queue r h, by simp, by simp, by simp, by simp, by simp, by simp⟩

/-! ### A load (R152 to R158) -/

/-- Bytes 0 and 1 are taken while they are being read (R152). -/
theorem exec_headerRead {t : Time} {b0 b1 : Byte} {s : State} (hr : s.restartInput = false)
    (hst : s.life.state = .loading) (hstage : s.loader.stage = .reading) (hstep : s.loader.readStep = .header) :
    exec (.headerRead t b0 b1) s = .next (takeHeader b0 b1 (s.atTime t)) := by
  have hreads : onlyIf (fun s => s.reads && decide (s.loader.readStep = .header)) (takeHeader b0 b1) (s.atTime t) =
      takeHeader b0 b1 (s.atTime t) := onlyIf_holds (by simp [State.reads, hst, hstage, hstep])
  exact (arrive_released hr).trans (congrArg _ hreads)

/-- The other 40 bytes end the load, with the line rate held back by a reply on the line (R152, R157). -/
theorem exec_imageRead {t : Time} {b0 b1 : Byte} {rest : List Byte} {s : State} (hr : s.restartInput = false)
    (hst : s.life.state = .loading) (hstage : s.loader.stage = .reading) (hstep : s.loader.readStep = .body b0 b1)
    (hlen : rest.length = 40) : exec (.imageRead t rest) s =
      .next (endLoad (b0 :: b1 :: rest) s.host.inProgress.isSome (s.atTime t)) := by
  have hreads : onlyIf (fun s => s.reads && decide (rest.length = 40)) (takeBody rest) (s.atTime t) =
      takeBody rest (s.atTime t) := onlyIf_holds (by simp [State.reads, hst, hstage, hlen])
  have hbody : takeBody rest (s.atTime t) = endLoad (b0 :: b1 :: rest) s.host.inProgress.isSome (s.atTime t) := by
    simp [takeBody, hstep]
  exact (arrive_released hr).trans (congrArg _ (hreads.trans hbody))

/-- CONFIG is taken while the Loader awaits the host (R154). -/
theorem gate_config {s : State} (hst : s.life.state = .loading) (hstage : s.loader.stage = .awaitingHost) :
    s.gate .config = none := by simp [State.gate, hst, loadingGate, hstage]

/-- CONFIG ends the load; its reply carries the station state and the reason that result (R153, R175). -/
theorem exec_config {t : Time} {img : List Byte} {s : State} (hp : PortFree s) (hst : s.life.state = .loading)
    (hstage : s.loader.stage = .awaitingHost) (hlen : img.length = 42) :
    exec (.config t img) s = .next (answered ⟨0x0B#8, img⟩ .ok
      [BitVec.ofNat 8 (endLoad img true (endHostFrame (s.atTime t))).life.state.code,
       BitVec.ofNat 8 (endLoad img true (endHostFrame (s.atTime t))).loader.reason.code]
      (endLoad img true (endHostFrame (s.atTime t)))) :=
  exec_row_taken (c := .config) hp (by omega) (gate_config hst hstage) hlen (by decide)

/-- An image that is not valid ends the load in FAULT, with the reason of its judgement (R158). -/
theorem endLoad_invalid {img : List Byte} {replyFollows : Bool} {s : State} (h : judgeImage img ≠ .none) :
    endLoad img replyFollows s = enterFault (judgeImage img) s := by
  unfold endLoad
  split <;> simp_all

/-- The check of the held copy at the expiry of its timer (R160). -/
theorem exec_reverify_check {d : Time} {s : State} (hr : s.restartInput = false) (hd : s.loader.reverify = some d) :
    exec (.reverifyTimerExpiry .check) s = .next (reverify d (s.atTime d)) := by
  simp only [exec, execReverifyTimerExpiry, hd]
  exact expire_released hr

theorem copyOk_of_heldCopy {s : State} {img : List Byte} (h : s.loader.heldCopy = some img) : s.copyOk = checkWordOk img := by
  unfold State.copyOk
  rw [h]

end Sys2Proof.Machine

section
open Sys2Proof Sys2Proof.Machine Sys2Proof.Safety Sys2Proof.Claims

/-- Settles O4: the three branches of the header. -/
theorem headerReadLeadsThreeWays : Obligations.HeaderReadLeadsThreeWays := by
  intro t b0 b1 s hr hst hstage hstep
  rw [exec_headerRead hr hst hstage hstep]
  refine ⟨fun h => ?_, fun h => ?_, fun hff hformat => ⟨_, rfl, ?_⟩⟩
  · rw [takeHeader, if_pos h]
    rfl
  · obtain ⟨rfl, rfl⟩ := h
    rfl
  · have hother : ¬(b0 = Config.formatCode ∧ b1.toNat = Config.imageLength) := fun h =>
      hformat ⟨h.1, BitVec.eq_of_toNat_eq h.2⟩
    rw [takeHeader, if_neg hff, if_neg hother]
    exact enterFault_faultEntered .format (by simp [hst])

/-- Settles O6: both ways in end the load with the reason of the judgement. -/
theorem invalidImageLeadsToFault : Obligations.InvalidImageLeadsToFault := by
  refine ⟨fun t b0 b1 rest s hr hst hstage hstep hlen hbad => ?_, fun t img s hp hst hstage hlen hbad => ?_⟩
  · rw [exec_imageRead hr hst hstage hstep hlen, endLoad_invalid hbad]
    exact ⟨_, rfl, enterFault_faultEntered _ (by simp [hst])⟩
  · have hentered := enterFault_faultEntered (judgeImage img) (s := endHostFrame (s.atTime t)) (by simp [hst])
    rw [exec_config hp hst hstage hlen, endLoad_invalid hbad]
    refine ⟨_, ?_, hentered⟩
    obtain ⟨hlife, -, -, -, -, -, -, -, hloader, -⟩ := hentered
    rw [hlife, hloader]
    rfl

/-- Settles O8: the check keeps a good copy and enters FAULT for a bad one; the fault of the storage writes the copy alone. -/
theorem reverificationKeepsOrFails : Obligations.ReverificationKeepsOrFails := by
  intro img s hr himg
  refine ⟨fun d hst hd => ⟨fun hok => ?_, fun hbad => ?_⟩, fun t i b => ?_⟩
  · rw [exec_reverify_check hr hd, reverify_keeps ((copyOk_of_heldCopy (s := s.atTime d) himg).trans hok)]
    rfl
  · rw [exec_reverify_check hr hd, reverify_fails ((copyOk_of_heldCopy (s := s.atTime d) himg).trans hbad)]
    exact ⟨_, rfl, enterFault_faultEntered .heldCopy hst⟩
  · have hparams := upsetCopy_params (s := s.atTime t) i b himg
    refine ⟨upsetCopy i b (s.atTime t), execReverifyTimerExpiry_storageFault hr, ?_, hparams, ?_⟩
    · simp [upsetCopy, himg]
    · unfold State.ownStation
      rw [hparams]

end
end

section
/-! Host commands that change nothing but the reply, and those that read the blocks. -/

namespace Sys2Proof.Machine

open Sys2Proof.Safety Sys2Proof.Claims

/-! ### The command buffer (R165) -/

/-- With a command in progress a whole frame meets the buffer alone. -/
theorem exec_row_busy {c : Cmd} {t : Time} {p : List Byte} {s : State} (hr : s.restartInput = false) (hl : p.length < 64) :
    exec (row c t p) s = .next (enterCommand ⟨c.code, p⟩ (endHostFrame (s.atTime t))) := by
  rw [exec_row, commandArrives_released hr hl]

/-! ### Codes and gates (T 11-2, T 11-4) -/

theorem cmdOf_eq_none {code : Byte} (h : code.toNat = 0 ∨ 11 < code.toNat) : cmdOf code = none := by
  unfold cmdOf
  split <;> first | rfl | omega

/-- A frame of unknown code with the port free is answered UNKNOWN (R166). -/
theorem exec_unknownCommand {code : Byte} {t : Time} {p : List Byte} {s : State} (hp : PortFree s) (hl : p.length < 64)
    (hcode : cmdOf code = none) :
    exec (.unknownCommand t code p) s = .next (answered ⟨code, p⟩ .unknown [] (s.atTime t)) := by
  obtain ⟨hr, hi⟩ := hp
  have hfree : enterCommand ⟨code, p⟩ (endHostFrame (s.atTime t)) = takeCommand ⟨code, p⟩ (endHostFrame (s.atTime t)) :=
    enterCommand_free (by simpa using hi)
  simp only [exec, execUnknownCommand, hcode, Option.isNone_none, if_true]
  rw [commandArrives_released hr hl, hfree, takeCommand, answerTo_unknown hcode]
  dsimp only
  rw [restartsAfter_of_not_ok (by simp [refuse])]
  rfl

/-- STATE is taken in every state (R154, R167). -/
theorem gate_state (s : State) : s.gate .state = none := by
  unfold State.gate
  cases s.life.state <;> rfl

/-! ### Bits of a flag byte -/

/-- A bit of a flag byte as a byte of its own. -/
theorem ofNat_bitValue (b : Bool) (n : Nat) : BitVec.ofNat 8 (bitValue b n) = if b then BitVec.ofNat 8 n else 0#8 := by
  cases b <;> rfl

/-- The flags byte of STATE bit by bit (T 11-5). -/
theorem flagsByte_eq (s : State) : s.flagsByte =
    (if s.grantCtl.settled then 1#8 else 0#8) + (if s.link.degraded then 2#8 else 0#8) +
    (if s.roster.overflow then 4#8 else 0#8) + (if s.grantCtl.shedHold.isSome then 8#8 else 0#8) +
    (if s.parked then 16#8 else 0#8) + (if s.meter.trim.isSome then 32#8 else 0#8) +
    (if s.cutOutput then 64#8 else 0#8) := by
  simp only [State.flagsByte, BitVec.ofNat_add, ofNat_bitValue, State.shedActive]

/-! ### PEER and PLAN (R170, R171) -/

theorem entryOf_station {s : State} {n : Station} {e : Entry} (h : s.entryOf n = some e) : e.station = n := by
  simpa using List.find?_some h

/-- A station number as the byte of a command names it. -/
theorem ofNat_station {n : Byte} {m : Station} (h : n.toNat = m.val) : BitVec.ofNat 8 m.val = n := by
  rw [← h, BitVec.ofNat_toNat, BitVec.setWidth_eq]

/-- PEER reads the entry of its station (R170). -/
theorem actPeer_some {n : Byte} {m : Station} {e : Entry} {s : State} (h : n.toNat = m.val) (he : s.entryOf m = some e) :
    actPeer n s = { status := .ok, payload := e.peerBytes, after := s } := by
  have hlt : n.toNat < 64 := h ▸ m.isLt
  have hm : (⟨n.toNat, hlt⟩ : Station) = m := Fin.ext h
  simp only [actPeer, hlt, hm, he, dite_true]

/-- PEER of a station without an entry is refused with ABSENT (R170). -/
theorem actPeer_none {n : Byte} {m : Station} {s : State} (h : n.toNat = m.val) (he : s.entryOf m = none) :
    actPeer n s = refuse .absent s := by
  have hlt : n.toNat < 64 := h ▸ m.isLt
  have hm : (⟨n.toNat, hlt⟩ : Station) = m := Fin.ext h
  simp only [actPeer, hlt, hm, he, dite_true]

theorem actPeer_range {n : Byte} {s : State} (h : 63 < n.toNat) : actPeer n s = refuse .range s := by
  unfold actPeer
  rw [dif_neg (by omega)]

/-- The fields of the PEER reply that stand whatever the origin (T 11-6). -/
theorem Entry.peerBytes_eq {e : Entry} {n : Byte} (hn : BitVec.ofNat 8 e.station.val = n) :
    e.peerBytes = [n, (match e.cls with | .live => 1#8 | .quiet => 2#8 | .mismatch => 3#8),
      if e.claimPresent then 0#8 else 1#8,
      (if e.claimPresent then 1#8 else 0#8) + (if e.draw.isSome then 2#8 else 0#8) +
        (if e.estimate.isSome then 4#8 else 0#8) + (if e.digest.isSome then 8#8 else 0#8)] ++ e.claimBytes ++
      [(if e.flags.parked then 1#8 else 0#8) + (if e.flags.cut then 2#8 else 0#8) +
        (if e.flags.degraded then 4#8 else 0#8)] ++
      bytesOf (e.draw.getD 0) ++ bytesOf (e.estimate.getD 0) ++ bytes16 (e.digest.getD 0) ++
      [BitVec.ofNat 8 ((if e.confirmed then 1 else 0) + 2 * e.silence)] := by
  have hclass : BitVec.ofNat 8 e.cls.code = match e.cls with | .live => 1#8 | .quiet => 2#8 | .mismatch => 3#8 := by
    cases e.cls <;> rfl
  have habsent : BitVec.ofNat 8 (bitValue (!e.claimPresent) 1) = if e.claimPresent then 0#8 else 1#8 := by
    cases e.claimPresent <;> rfl
  have hconfirmed : bitValue e.confirmed 1 = if e.confirmed then 1 else 0 := rfl
  simp only [Entry.peerBytes, hn, hclass, habsent, hconfirmed, BitVec.ofNat_add, ofNat_bitValue]

/-- The claim fields of a HEARD entry (T 11-6). -/
theorem Entry.claimBytes_heard {e : Entry} {r : Report} (h : e.origin = .heard r) :
    e.claimBytes = [BitVec.ofNat 8 r.priority.val] ++ bytesOf r.min ++ bytesOf r.max ++ bytesOf r.demand ++ [r.serial] ++
      bytesOf r.grant ++ [(match r.state with | .joining => 1#8 | .active => 2#8 | .isolated => 3#8)] := by
  have hstate : r.state.code.setWidth 8 = match r.state with | .joining => 1#8 | .active => 2#8 | .isolated => 3#8 := by
    cases r.state <;> rfl
  simp only [Entry.claimBytes, h, hstate]

theorem Entry.claimPresent_heard {e : Entry} {r : Report} (h : e.origin = .heard r) : e.claimPresent = true := by
  simp [Entry.claimPresent, h]

theorem Entry.claimPresent_hearsay {e : Entry} (h : e.origin = .hearsay) : e.claimPresent = false := by
  simp [Entry.claimPresent, h]

/-- A reply to PEER: its effects are none. -/
theorem exec_peer {t : Time} {n : Byte} {s : State} (hp : PortFree s) (hg : s.gate .peer = none) :
    exec (.peer t [n]) s = .next (answered ⟨0x03#8, [n]⟩ (actPeer n s).status (actPeer n s).payload (s.atTime t)) := by
  have h := exec_row_taken (c := .peer) (t := t) (p := [n]) hp (by simp) hg rfl (by decide)
  have hact : act .peer [n] (endHostFrame (s.atTime t)) =
      { status := (actPeer n s).status, payload := (actPeer n s).payload, after := endHostFrame (s.atTime t) } := by
    change actPeer n _ = _
    by_cases hn : n.toNat < 64
    · cases he : s.entryOf ⟨n.toNat, hn⟩ with
      | some e =>
        rw [actPeer_some (s := s) (m := ⟨n.toNat, hn⟩) rfl he]
        exact actPeer_some (m := ⟨n.toNat, hn⟩) rfl he
      | none =>
        rw [actPeer_none (s := s) (m := ⟨n.toNat, hn⟩) rfl he]
        exact actPeer_none (m := ⟨n.toNat, hn⟩) rfl he
    · rw [actPeer_range (by omega), actPeer_range (by omega)]
      rfl
  rw [hact] at h
  exact h

/-- A reply to PLAN: its effects are none. -/
theorem exec_plan {t : Time} {k : Byte} {s : State} (hp : PortFree s) (hg : s.gate .plan = none) :
    exec (.plan t [k]) s = .next (answered ⟨0x04#8, [k]⟩ (actPlan k s).status (actPlan k s).payload (s.atTime t)) := by
  have h := exec_row_taken (c := .plan) (t := t) (p := [k]) hp (by simp) hg rfl (by decide)
  have hact : act .plan [k] (endHostFrame (s.atTime t)) =
      { status := (actPlan k s).status, payload := (actPlan k s).payload, after := endHostFrame (s.atTime t) } := by
    change actPlan k _ = _
    unfold actPlan refuse
    by_cases hk : 24 < k.toNat
    · simp only [if_pos hk]
    · simp only [if_neg hk]
      change (match s.planner.plan with | none => _ | some p => _) = _
      cases s.planner.plan with
      | none => rfl
      | some p =>
        dsimp only
        cases p.rows[k.toNat]? <;> rfl
  rw [hact] at h
  exact h

/-- The bytes of a row of the plan (T 11-7). -/
theorem Plan.rowBytes_eq (p : Plan) (k : Byte) (r : Row) : p.rowBytes k r =
    [k, BitVec.ofNat 8 p.rows.length, BitVec.ofNat 8 r.station.val] ++ bytesOf r.share ++
      [(match r.outcome with | .idle => 0#8 | .parked => 1#8 | .partly => 2#8 | .full => 3#8)] ++
      bytesOf p.pool ++ bytesOf p.remainder ++ bytesOf p.headroom ++ bytesOf p.umax ++ bytesOf p.deficit := by
  have houtcome : BitVec.ofNat 8 r.outcome.code =
      match r.outcome with | .idle => 0#8 | .parked => 1#8 | .partly => 2#8 | .full => 3#8 := by
    cases r.outcome <;> rfl
  simp only [Plan.rowBytes, houtcome]

end Sys2Proof.Machine

section
open Sys2Proof Sys2Proof.Machine Sys2Proof.Safety Sys2Proof.Claims

/-- Settles O11: the second and the third branch of the command buffer. -/
theorem commandBufferHoldsTwo : Obligations.CommandBufferHoldsTwo := by
  intro c t p s hr hl hi
  rw [exec_row_busy hr hl]
  refine ⟨fun hw => ?_, fun hw => ?_⟩
  · rw [enterCommand_waits (by simpa using hi) (by simpa using hw)]
    rfl
  · rw [enterCommand_drops (by simpa using hi) (by simpa using hw)]
    rfl

/-- Settles O13: T 11-4 column by column, and the three ways in which a command is refused. -/
theorem refusedCommandsChangeOnlyTheReply : Obligations.RefusedCommandsChangeOnlyTheReply := by
  refine ⟨fun s => ⟨fun hst hstage c => ?_, fun hst hstage c => ?_, fun hst c => ?_, fun hst c => ?_, fun hst c => ?_,
    fun hst c => ?_, fun hst c => ?_⟩, fun c st t p s hp hl hg => ?_, fun c t p s hp hl hg hsize => ?_,
    fun code t p s hp hl hcode => exec_unknownCommand hp hl (cmdOf_eq_none hcode)⟩
  · cases c <;> simp [State.gate, hst, loadingGate, hstage]
  · cases c <;> simp [State.gate, hst, loadingGate, hstage]
  · cases c <;> simp [State.gate, hst, faultGate]
  · cases c <;> simp [State.gate, hst, duplicateGate, faultGate]
  · cases c <;> simp [State.gate, hst, runningGate, StationState.leaves]
  · cases c <;> simp [State.gate, hst, runningGate, StationState.leaves]
  · have hrunning : s.gate c = runningGate s.life.state c ∧ s.life.state.leaves = true ∧ s.life.state ≠ .dormant := by
      simp only [List.mem_cons, List.not_mem_nil, or_false] at hst
      unfold State.gate
      rcases hst with h | h | h | h <;> rw [h] <;> exact ⟨rfl, rfl, by decide⟩
    obtain ⟨hgate, hleaves, hdormant⟩ := hrunning
    cases c <;> simp [hgate, runningGate, hleaves, hdormant]
  · have hst : st ≠ .ok := by rcases gate_status hg with rfl | rfl <;> decide
    exact exec_row_refused hp hl hst (.inl hg)
  · exact exec_row_refused hp hl (by decide) (.inr ⟨hg, hsize, rfl⟩)

/-- Settles O14: the two replies, byte by byte. -/
theorem stateAndCountsRepliesShowTheBlocks : Obligations.StateAndCountsRepliesShowTheBlocks := by
  refine ⟨fun t s hp => ?_, fun t s hp hg => ?_⟩
  · rw [← flagsByte_eq]
    exact exec_row_taken (c := .state) (p := []) hp (by simp) (gate_state s) rfl (by decide)
  · have hbytes : [s.bus.framesSent, s.bus.lost, s.bus.aborted, s.bus.partly, s.bus.unheard, s.bus.validReceived,
        s.bus.damagedReceived, s.roster.admissionsRefused, s.sched.requestsDropped, s.roster.shedIgnored,
        s.host.framesDiscarded, s.host.notesLost].flatMap bytesOf = (actCounts s).payload := by simp [actCounts]
    rw [hbytes]
    exact exec_row_taken (c := .counts) (p := []) hp (by simp) hg rfl (by decide)

/-- Settles O15: the entry and the row that the two commands read, and the refusals where there is none. -/
theorem peerAndPlanRepliesReadRosterAndPlan : Obligations.PeerAndPlanRepliesReadRosterAndPlan := by
  refine ⟨fun t n s hp hg => ⟨fun hn => ?_, fun m hn he => ?_, fun m e r hn he ho => ?_, fun m e hn he ho => ?_⟩,
    fun t k s hp hg => ⟨fun hk => ?_, fun hk hplan => ?_, fun p hk hplan hrow => ?_, fun p r hk hplan hrow => ?_⟩⟩
  · rw [exec_peer hp hg, actPeer_range hn]
    rfl
  · rw [exec_peer hp hg, actPeer_none hn he]
    rfl
  · rw [exec_peer hp hg, actPeer_some hn he]
    dsimp only
    rw [Entry.peerBytes_eq ((congrArg _ (congrArg _ (entryOf_station he))).trans (ofNat_station hn)),
      Entry.claimBytes_heard ho, Entry.claimPresent_heard ho]
    simp <;> rfl
  · rw [exec_peer hp hg, actPeer_some hn he]
    dsimp only
    rw [Entry.peerBytes_eq ((congrArg _ (congrArg _ (entryOf_station he))).trans (ofNat_station hn)),
      Entry.claimPresent_hearsay ho, Entry.claimBytes, ho]
    simp <;> rfl
  · rw [exec_plan hp hg, actPlan, if_pos hk]
    rfl
  · rw [exec_plan hp hg, actPlan, if_neg (by omega), hplan]
    rfl
  · rw [exec_plan hp hg, actPlan, if_neg (by omega), hplan]
    simp [List.getElem?_eq_none hrow, refuse]
  · rw [exec_plan hp hg, actPlan, if_neg (by omega), hplan]
    simp only [hrow, Plan.rowBytes_eq] <;> rfl

end
end

section
/-! The host line byte by byte (R164). -/

namespace Sys2Proof.Machine

open Sys2Proof.Safety Sys2Proof.Claims

/-! ### The 8-bit sum -/

theorem foldl_add_toNat (bytes : List Byte) (acc : Byte) :
    (bytes.foldl (· + ·) acc).toNat = (acc.toNat + (bytes.map BitVec.toNat).sum) % 256 := by
  induction bytes generalizing acc with
  | nil => simp [Nat.mod_eq_of_lt acc.isLt]
  | cons b bs ih =>
    rw [List.foldl_cons, ih, BitVec.toNat_add, List.map_cons, List.sum_cons]
    omega

/-- The sum is zero in 8 bits (R164). -/
theorem sumOk_iff (bytes : List Byte) : sumOk bytes = true ↔ (bytes.map BitVec.toNat).sum % 256 = 0 := by
  have hsum := foldl_add_toNat bytes 0#8
  have hzero : (0#8).toNat = 0 := rfl
  rw [hzero, Nat.zero_add] at hsum
  rw [sumOk, decide_eq_true_eq, ← hsum, ← BitVec.toNat_inj]
  rfl

theorem foldl_add_eq (bytes : List Byte) (acc : Byte) : bytes.foldl (· + ·) acc = acc + bytes.foldl (· + ·) 0#8 := by
  induction bytes generalizing acc with
  | nil => simp
  | cons b bs ih => rw [List.foldl_cons, List.foldl_cons, ih, ih (0#8 + b), BitVec.zero_add, BitVec.add_assoc]

/-- The check byte makes the sum zero (T 11-2). -/
theorem sumOk_checkByte (body : List Byte) : sumOk (body ++ [checkByte body]) = true := by
  rw [sumOk, decide_eq_true_eq, List.foldl_append]
  change body.foldl (· + ·) 0#8 + checkByte body = 0#8
  unfold checkByte
  rw [BitVec.add_comm, BitVec.sub_add_cancel]

/-- The bytes that R164 discards, as the sizes of the operands say it and as the Host Port judges it. -/
theorem hostFrameFails_eq (bytes : List Byte) : hostFrameFails bytes = hostFrameBad bytes := by
  cases bytes with
  | nil => rfl
  | cons len rest =>
    have hsum := sumOk_iff (len :: rest)
    unfold hostFrameFails hostFrameBad badHostLength hostFrameWhole
    by_cases hlen : len.toNat = 0 ∨ Config.hostLengthMax < len.toNat
    · simp [hlen]
    · cases hok : sumOk (len :: rest) <;> simp_all

/-! ### Bytes into the assembly (R164) -/

/-- A length byte that a frame can have. -/
theorem badHostLength_eq_false {b : Byte} (h1 : 1 ≤ b.toNat) (h2 : b.toNat ≤ 64) : badHostLength b = false := by
  have hmax : Config.hostLengthMax = 64 := rfl
  exact decide_eq_false (by omega)

theorem badHostLength_eq_true {b : Byte} (h : b.toNat = 0 ∨ 64 < b.toNat) : badHostLength b = true := by
  simpa [badHostLength] using h

/-- A byte that neither ends the frame nor is a bad length is collected. -/
theorem takeFrameByte_collects {bytes : List Byte} {b : Byte} {s : State} (hlen : (bytes.isEmpty && badHostLength b) = false)
    (hwhole : hostFrameWhole (bytes ++ [b]) = false) : takeFrameByte bytes b s = collect (bytes ++ [b]) s := by
  simp [takeFrameByte, hlen, hwhole]

/-- The byte that completes a frame enters its command or discards it, by the sum. -/
theorem takeFrameByte_ends {len : Byte} {rest : List Byte} {b : Byte} {s : State} (h : rest.length = len.toNat) :
    takeFrameByte (len :: rest) b s =
      if sumOk (len :: rest ++ [b]) then enterCommand (hostCommandOf (len :: rest ++ [b])) (endHostFrame s)
      else discardHostFrame s := by
  simp [takeFrameByte, hostFrameWhole, h]

theorem takeHostByte_collecting {bytes : List Byte} {b : Byte} {s : State} (h : s.host.rx = .collecting bytes) :
    takeHostByte b s = takeFrameByte bytes b s := by
  unfold takeHostByte
  rw [h]

theorem discardHostFrame_collecting {bytes : List Byte} {s : State} (h : s.host.rx = .collecting bytes) :
    discardHostFrame s =
      { s with host := { s.host with rx := .hunting, gap := none, framesDiscarded := bump s.host.framesDiscarded } } := by
  unfold discardHostFrame
  rw [h]

theorem discardHostFrame_hunting {s : State} (h : s.host.rx = .hunting) : discardHostFrame s = s := by
  unfold discardHostFrame
  rw [h]

theorem takeHostByte_hunting {b : Byte} {s : State} (h : s.host.rx = .hunting) :
    takeHostByte b s = if b = 0xC3#8 then collect [] s else s := by
  unfold takeHostByte
  rw [h]

/-! ### A whole frame byte by byte (R164, R165) -/

/-- The bytes of a frame that is not whole yet are collected one after another. -/
theorem foldl_takeHostByte {len : Byte} (more front : List Byte) (s : State)
    (h : front.length + more.length ≤ len.toNat) :
    more.foldl (fun u b => takeHostByte b u) (collect (len :: front) s) = collect (len :: front ++ more) s := by
  induction more generalizing front with
  | nil => simp
  | cons b bs ih =>
    rw [List.length_cons] at h
    have hcollect : takeHostByte b (collect (len :: front) s) = collect (len :: (front ++ [b])) s := by
      rw [takeHostByte_collecting (bytes := len :: front) rfl,
        takeFrameByte_collects (by simp) (by simp [hostFrameWhole]; omega)]
      rfl
    rw [List.foldl_cons, hcollect, ih (front ++ [b]) (by simp; omega)]
    simp

/-- The start byte and the length begin a frame. -/
theorem takeHostByte_begins {len : Byte} {s : State} (hrx : s.host.rx = .hunting) (h1 : 1 ≤ len.toNat) (h2 : len.toNat ≤ 64) :
    takeHostByte len (takeHostByte 0xC3#8 s) = collect [len] s := by
  have hstart : takeHostByte 0xC3#8 s = collect [] s := by rw [takeHostByte_hunting hrx, if_pos rfl]
  rw [hstart, takeHostByte_collecting (bytes := []) rfl,
    takeFrameByte_collects (by simp [badHostLength_eq_false h1 h2]) (by simp [hostFrameWhole])]
  rfl

/-- The bytes of a frame, taken one after another while hunting, enter its command (R164). -/
theorem foldl_takeHostByte_frame {code : Byte} {payload : List Byte} {s : State} (hrx : s.host.rx = .hunting)
    (hl : payload.length < 64) :
    let body := BitVec.ofNat 8 (payload.length + 1) :: code :: payload
    (0xC3#8 :: (body ++ [checkByte body])).foldl (fun u b => takeHostByte b u) s =
      enterCommand ⟨code, payload⟩ (endHostFrame s) := by
  intro body
  have hlen : (BitVec.ofNat 8 (payload.length + 1)).toNat = payload.length + 1 := by
    rw [BitVec.toNat_ofNat]
    omega
  have hfront := foldl_takeHostByte (len := BitVec.ofNat 8 (payload.length + 1)) (code :: payload) [] s (by simp [hlen])
  have hcommand : hostCommandOf (body ++ [checkByte body]) = ⟨code, payload⟩ := by simp [hostCommandOf, body]
  have hbody : body.foldl (fun u b => takeHostByte b u) (takeHostByte 0xC3#8 s) = collect body s := by
    rw [List.foldl_cons, takeHostByte_begins hrx (by omega) (by omega), hfront]
    rfl
  rw [List.foldl_cons, List.foldl_append, hbody, List.foldl_cons, List.foldl_nil,
    takeHostByte_collecting (bytes := body) rfl, takeFrameByte_ends (by simp [hlen]),
    if_pos (sumOk_checkByte body)]
  exact congrArg (enterCommand · (endHostFrame s)) hcommand

end Sys2Proof.Machine

section
open Sys2Proof Sys2Proof.Machine Sys2Proof.Safety Sys2Proof.Claims

/-- Settles O9: the branches of a byte by what the assembly holds, and the three ways in which a frame is discarded. -/
theorem hostBytesAreAssembledOrDiscarded : Obligations.HostBytesAreAssembledOrDiscarded := by
  have hbyte : ∀ {t : Time} {b : Byte} {s : State}, s.restartInput = false →
      exec (.hostByteReceived t b) s = .next (takeHostByte b (s.atTime t)) := fun hr => arrive_released hr
  refine ⟨fun t b s hr => ⟨fun hrx hb => ?_, fun hrx hb => ?_, fun hrx hb => ?_, fun hrx h1 h2 => ?_,
    fun len rest hrx hlen => ?_, fun len rest hrx hlen hsum => ?_⟩, fun t bytes s hr hbad => ?_,
    fun d bytes s hr hrx hgap => ?_, fun t bytes s hr hrx => ?_, fun t s hr hrx => ?_⟩
  · rw [hbyte hr, takeHostByte_hunting (by simpa using hrx), if_neg hb]
  · rw [hbyte hr, takeHostByte_hunting (by simpa using hrx), if_pos hb]
    rfl
  · rw [hbyte hr, takeHostByte_collecting (s := s.atTime t) hrx, takeFrameByte,
      if_pos (by simp [badHostLength_eq_true hb]), discardHostFrame_collecting (s := s.atTime t) hrx]
    rfl
  · rw [hbyte hr, takeHostByte_collecting (s := s.atTime t) hrx,
      takeFrameByte_collects (by simp [badHostLength_eq_false h1 h2]) (by simp [hostFrameWhole])]
    rfl
  · rw [hbyte hr, takeHostByte_collecting (s := s.atTime t) hrx,
      takeFrameByte_collects (by simp) (by simp [hostFrameWhole]; omega)]
    rfl
  · rw [hbyte hr, takeHostByte_collecting (s := s.atTime t) hrx, takeFrameByte_ends hlen, if_neg (by rw [hsum]; decide),
      discardHostFrame_collecting (s := s.atTime t) hrx]
    rfl
  · exact (arrive_released hr).trans (congrArg _ (onlyIf_holds ((hostFrameFails_eq bytes).trans hbad)))
  · have hexpire : exec .gapTimerExpiry s = .next (discardHostFrame (s.atTime d)) := by
      simp only [exec, execGapTimerExpiry, hgap]
      exact expire_released hr
    rw [hexpire, discardHostFrame_collecting (s := s.atTime d) hrx]
    rfl
  · exact (arrive_released hr).trans (congrArg _ (discardHostFrame_collecting (s := s.atTime t) hrx))
  · exact (arrive_released hr).trans (congrArg _ (discardHostFrame_hunting (s := s.atTime t) hrx))

/-- Settles O10: both enter the same command in the buffer. -/
theorem bytesOfAFrameAreTheCommand : Obligations.BytesOfAFrameAreTheCommand := by
  intro c t payload s hr hrx hl
  dsimp only
  rw [exec_row_busy hr hl, foldl_takeHostByte_frame (s := s.atTime t) hrx hl]

end
end

section
/-! The end of a reply (R157, R161, R165). What a command does is independent of the frame that is being received: each
operation that a command calls commutes with the assembly of the host line. -/

namespace Sys2Proof.Machine

open Sys2Proof.Safety Sys2Proof.Claims

/-- The state with another assembly of the host line and its gap timer. -/
def withLine (rx : HostAssembly) (gap : Timer) (s : State) : State := { s with host := { s.host with rx := rx, gap := gap } }

section
variable (rx : HostAssembly) (gap : Timer) (s : State)

@[simp] theorem withLine_frame : (withLine rx gap s).life = s.life ∧ (withLine rx gap s).grantCtl = s.grantCtl ∧
    (withLine rx gap s).planner = s.planner ∧ (withLine rx gap s).loader = s.loader ∧ (withLine rx gap s).now = s.now ∧
    (withLine rx gap s).enf = s.enf ∧ (withLine rx gap s).params = s.params ∧ (withLine rx gap s).planNow = s.planNow ∧
    (withLine rx gap s).host.inProgress = s.host.inProgress ∧ (withLine rx gap s).host.waiting = s.host.waiting :=
  ⟨rfl, rfl, rfl, rfl, rfl, rfl, rfl, rfl, rfl, rfl⟩

theorem setStation_withLine (st : StationState) (ph : Phase) :
    setStation st ph (withLine rx gap s) = withLine rx gap (setStation st ph s) := by
  unfold setStation
  rw [apply_ite (withLine rx gap)]
  rfl

theorem raiseRequest_withLine (k : Kind) (x : Current) :
    raiseRequest k x (withLine rx gap s) = withLine rx gap (raiseRequest k x s) := by
  unfold raiseRequest
  rw [apply_ite (withLine rx gap)]
  rfl

theorem setGrant_withLine (g : Current) : setGrant g (withLine rx gap s) = withLine rx gap (setGrant g s) := by
  unfold setGrant
  rw [apply_ite (withLine rx gap), ← raiseRequest_withLine]
  rfl

theorem weighRaise_withLine : weighRaise (withLine rx gap s) = withLine rx gap (weighRaise s) := by
  unfold weighRaise
  rw [apply_ite (withLine rx gap), ← setGrant_withLine]
  rfl

theorem takeShare_withLine : takeShare (withLine rx gap s) = withLine rx gap (takeShare s) := by
  unfold takeShare
  rw [apply_ite (withLine rx gap), ← setGrant_withLine, ← weighRaise_withLine]
  rfl

theorem takeDigestChange_withLine : takeDigestChange (withLine rx gap s) = withLine rx gap (takeDigestChange s) :=
  raiseRequest_withLine rx gap (restartRaiseHold (clearConfirmations s)) .status 0

theorem recomputeDigest_withLine : recomputeDigest (withLine rx gap s) = withLine rx gap (recomputeDigest s) := rfl

theorem replacePlan_withLine : replacePlan (withLine rx gap s) = withLine rx gap (replacePlan s) := rfl

theorem restartRaiseHold_withLine : restartRaiseHold (withLine rx gap s) = withLine rx gap (restartRaiseHold s) := rfl

theorem enterActive_withLine : enterActive (withLine rx gap s) = withLine rx gap (enterActive s) := by
  unfold enterActive
  rw [setStation_withLine, takeShare_withLine]

theorem evalSettled_withLine : evalSettled (withLine rx gap s) = withLine rx gap (evalSettled s) := by
  unfold evalSettled
  dsimp only
  rw [apply_ite (withLine rx gap), apply_ite (withLine rx gap), apply_ite (withLine rx gap), ← enterActive_withLine,
    ← weighRaise_withLine]
  rfl

theorem handed_withLine (dig pln : Bool) : handed dig pln (withLine rx gap s) = withLine rx gap (handed dig pln s) := by
  cases dig <;> unfold handed <;>
    simp only [recomputeDigest_withLine, withLine_frame, Bool.false_eq_true, if_false, if_true] <;> split_ifs <;>
    simp only [replacePlan_withLine, takeDigestChange_withLine, restartRaiseHold_withLine]

theorem handOn_withLine (dig pln : Bool) : handOn dig pln (withLine rx gap s) = withLine rx gap (handOn dig pln s) := by
  rw [handOn_eq, handOn_eq, apply_ite (withLine rx gap), handed_withLine, takeShare_withLine]
  rfl

theorem formDemand_withLine : formDemand (withLine rx gap s) = withLine rx gap (formDemand s) := by
  unfold formDemand
  rw [apply_ite (withLine rx gap)]
  rfl

theorem followDemand_withLine : followDemand (withLine rx gap s) = withLine rx gap (followDemand s) := by
  unfold followDemand
  simp only [withLine_frame]
  split
  · split
    · exact setGrant_withLine ..
    · exact setGrant_withLine ..
    · rfl
    · rfl
  · rfl

theorem commit_withLine (before : State) :
    commit (withLine rx gap before) (withLine rx gap s) = withLine rx gap (commit before s) := handOn_withLine ..

theorem demandHandedOn_withLine (before : State) :
    demandHandedOn (withLine rx gap before) (withLine rx gap s) = withLine rx gap (demandHandedOn before s) := by
  unfold demandHandedOn
  rw [apply_ite (withLine rx gap), formDemand_withLine, commit_withLine, raiseRequest_withLine, followDemand_withLine]
  rfl

theorem commitDemand_withLine (before : State) :
    commitDemand (withLine rx gap before) (withLine rx gap s) = withLine rx gap (commitDemand before s) := by
  rw [commitDemand_eq, commitDemand_eq, apply_ite (withLine rx gap), formDemand_withLine, demandHandedOn_withLine,
    evalSettled_withLine]
  rfl

theorem setHostDemand_withLine (v : Current) :
    setHostDemand v (withLine rx gap s) = withLine rx gap (setHostDemand v s) := by
  unfold setHostDemand
  rw [apply_ite (withLine rx gap), ← commitDemand_withLine]
  rfl

theorem enterListening_withLine : enterListening (withLine rx gap s) = withLine rx gap (enterListening s) := by
  have hline : resetLine (withLine rx gap s) = withLine rx gap (resetLine s) := rfl
  unfold enterListening
  rw [hline, setStation_withLine]
  generalize setStation .listening .none (resetLine s) = u
  dsimp only
  rw [← setGrant_withLine]
  rfl

theorem enterLeaving_withLine : enterLeaving (withLine rx gap s) = withLine rx gap (enterLeaving s) := by
  have hcancel : ∀ u, withLine rx gap (cancelClaims u) = cancelClaims (withLine rx gap u) := fun _ => rfl
  unfold enterLeaving
  dsimp only
  rw [← raiseRequest_withLine, hcancel, ← setGrant_withLine, ← setStation_withLine]
  rfl

theorem enterFault_withLine (r : FaultReason) : enterFault r (withLine rx gap s) = withLine rx gap (enterFault r s) := by
  have hannounced : faultAnnounced r (withLine rx gap s) = withLine rx gap (faultAnnounced r s) := by
    unfold faultAnnounced
    rw [← setStation_withLine]
    rfl
  have hwithdrawn : ∀ u, withdrawnForFault (withLine rx gap u) = withLine rx gap (withdrawnForFault u) := fun _ => rfl
  rw [enterFault_eq, enterFault_eq, hannounced, hwithdrawn, setGrant_withLine]

theorem imageHeld_withLine (img : List Byte) :
    imageHeld img true (withLine rx gap s) = withLine rx gap (imageHeld img true s) := by
  have hstart : ∀ u, withLine rx gap (startTimers u) = startTimers (withLine rx gap u) := fun _ => rfl
  unfold imageHeld
  dsimp only
  rw [← evalSettled_withLine, ← handOn_withLine, hstart, ← enterListening_withLine]
  rfl

theorem endLoad_withLine (img : List Byte) : endLoad img true (withLine rx gap s) = withLine rx gap (endLoad img true s) := by
  unfold endLoad
  split
  · exact imageHeld_withLine ..
  all_goals exact enterFault_withLine ..

/-- An answer with the state it leaves on another host line. -/
def Answer.withLine (a : Answer) : Answer := { a with after := Machine.withLine rx gap a.after }

theorem actPeer_withLine (n : Byte) : actPeer n (withLine rx gap s) = (actPeer n s).withLine rx gap := by
  unfold actPeer
  split
  · next h =>
    change (match s.entryOf ⟨n.toNat, h⟩ with | some e => _ | none => _) = _
    cases s.entryOf ⟨n.toNat, h⟩ <;> rfl
  · rfl

theorem actPlan_withLine (k : Byte) : actPlan k (withLine rx gap s) = (actPlan k s).withLine rx gap := by
  unfold actPlan
  split
  · rfl
  · simp only [withLine_frame]
    split
    · rfl
    · split <;> rfl

theorem actDemand_withLine (v : Current) : actDemand v (withLine rx gap s) = (actDemand v s).withLine rx gap := by
  unfold actDemand
  simp only [withLine_frame]
  split
  · exact congrArg okWith (setHostDemand_withLine ..)
  · rfl

theorem actNote_withLine : actNote (withLine rx gap s) = (actNote s).withLine rx gap := by
  unfold actNote
  change (match s.host.queue with | [] => _ | n :: rest => _) = _
  cases s.host.queue <;> rfl

theorem actClearCut_withLine : actClearCut (withLine rx gap s) = (actClearCut s).withLine rx gap := by
  unfold actClearCut
  simp only [withLine_frame]
  split <;> rfl

theorem actConfig_withLine (img : List Byte) : actConfig img (withLine rx gap s) = (actConfig img s).withLine rx gap := by
  unfold actConfig
  rw [endLoad_withLine]
  rfl

theorem act_withLine (c : Cmd) (p : List Byte) : act c p (withLine rx gap s) = (act c p s).withLine rx gap := by
  unfold act
  split
  · rfl
  · exact actDemand_withLine ..
  · exact actPeer_withLine ..
  · exact actPlan_withLine ..
  · rfl
  · exact actNote_withLine ..
  · exact actClearCut_withLine ..
  · exact congrArg okWith (enterLeaving_withLine ..)
  · exact congrArg (fun u => okWith (restartWindow u)) (enterListening_withLine ..)
  · rfl
  · exact actConfig_withLine ..
  all_goals rfl

theorem answerTo_withLine (cmd : HostCommand) : answerTo cmd (withLine rx gap s) = (answerTo cmd s).withLine rx gap := by
  unfold answerTo
  split
  · rfl
  · next c _ =>
    have hgate : (withLine rx gap s).gate c = s.gate c := gate_congr rfl rfl c
    rw [hgate]
    split
    · rfl
    · split
      · exact act_withLine ..
      · rfl

/-- A command that is taken leaves the frame that is being received alone, and does not look at it. -/
theorem takeCommand_withLine (cmd : HostCommand) :
    takeCommand cmd (withLine rx gap s) = withLine rx gap (takeCommand cmd s) := by
  unfold takeCommand
  rw [answerTo_withLine]
  rfl

end

theorem withLine_self (s : State) : withLine s.host.rx s.host.gap s = s := rfl

/-! ### The rate that waits (R157, log 28) -/

theorem applyRateDue_none {s : State} (h : s.loader.rateDue = none) : applyRateDue s = s := by
  unfold applyRateDue
  rw [h]

/-- A rate that changes discards the frame being received. -/
theorem applyRateDue_discards {s : State} {r : LineRate} {bytes : List Byte} (h : s.loader.rateDue = some r)
    (hr : r ≠ s.loader.lineRate) (hrx : s.host.rx = .collecting bytes) : applyRateDue s =
      { s with
        loader := { s.loader with lineRate := r, rateDue := none }
        host := { s.host with rx := .hunting, gap := none, framesDiscarded := bump s.host.framesDiscarded } } := by
  unfold applyRateDue
  rw [h]
  dsimp only [setRate]
  rw [if_neg (Ne.symm hr), discardHostFrame_collecting hrx]

/-- A rate that is the one in use, or that finds the assembly hunting, touches the Loader alone. -/
theorem applyRateDue_quiet {s : State} {r : LineRate} (h : s.loader.rateDue = some r)
    (hr : r = s.loader.lineRate ∨ s.host.rx = .hunting) :
    applyRateDue s = { s with loader := { s.loader with lineRate := r, rateDue := none } } := by
  unfold applyRateDue
  rw [h]
  dsimp only [setRate]
  split
  · rfl
  · next hne =>
    rcases hr with hr | hr
    · exact absurd hr.symm hne
    · rw [discardHostFrame_hunting hr]

/-! ### REPLY_SENT (R165) -/

/-- The last byte of a reply ends the command in progress. -/
theorem exec_replySent {t : Time} {p : InProgress} {s : State} (hr : s.restartInput = false)
    (hp : s.host.inProgress = some p) : exec (.replySent t) s = .next (finishReply p (s.atTime t)) := by
  have hends : replyEnds (s.atTime t) = finishReply p (s.atTime t) := by
    unfold replyEnds
    rw [show (s.atTime t).host.inProgress = some p from hp]
  exact (arrive_released hr).trans (congrArg _ hends)

theorem takeWaiting_none {s : State} (h : s.host.waiting = none) : takeWaiting s = s := by
  unfold takeWaiting
  rw [h]

theorem takeWaiting_some {s : State} {cmd : HostCommand} (h : s.host.waiting = some cmd) :
    takeWaiting s = takeCommand cmd { s with host := { s.host with waiting := none } } := by
  unfold takeWaiting
  rw [h]

/-- Without a restart the reply's end applies the rate that waits, and then takes the command that waits. -/
theorem finishReply_goes_on {p : InProgress} {s : State} (h : p.restarts = false) :
    finishReply p s = takeWaiting (applyRateDue { s with host := { s.host with inProgress := none } }) := by
  simp [finishReply, h]

/-- A command row with the port free takes its command. -/
theorem exec_row_free {c : Cmd} {t : Time} {p : List Byte} {s : State} (hp : PortFree s) (hl : p.length < 64) :
    exec (row c t p) s = .next (takeCommand ⟨c.code, p⟩ (endHostFrame (s.atTime t))) := by
  obtain ⟨hr, hi⟩ := hp
  rw [exec_row_busy hr hl, enterCommand_free (by simpa using hi)]

/-- The command that waited is taken as if it arrived with the assembly hunting. -/
theorem takeWaiting_eq_row {c : Cmd} {t : Time} {w : List Byte} {u v : State} (hw : u.host.waiting = some ⟨c.code, w⟩)
    (hv : PortFree v) (hl : w.length < 64)
    (heq : { u with host := { u.host with waiting := none } } = endHostFrame (v.atTime t)) :
    .next (takeWaiting u) = exec (row c t w) v := by
  rw [exec_row_free hv hl, takeWaiting_some hw, heq]

/-- RESTART is answered OK and marked to restart after its reply (R175). -/
theorem exec_restart {t : Time} {s : State} (hp : PortFree s) (hg : s.gate .restart = none) :
    exec (.restart t []) s = .next { s.atTime t with host := { s.host with
      rx := .hunting, gap := none, overrun := false
      inProgress := some { command := ⟨0x0A#8, []⟩, reply := replyFrame 0x0A#8 .ok s.host.overrun [], restarts := true } } } := by
  obtain ⟨hr, hi⟩ := hp
  exact commandArrives_taken (c := .restart) (p := []) hr hi (by simp) hg rfl

end Sys2Proof.Machine

section
open Sys2Proof Sys2Proof.Machine Sys2Proof.Safety Sys2Proof.Claims

/-- Settles O12: the restart; the rate that waits; and the command that waits, which does not look at the frame being
received. -/
theorem restartAndReplySentEndACommand : Obligations.RestartAndReplySentEndACommand := by
  refine ⟨fun t p s hr hp => ?_, fun t s hp hg => exec_restart hp hg⟩
  rw [exec_replySent hr hp]
  refine ⟨fun h => ?restarts, fun h hrate hw => ?plain, fun r bytes h hrate hw hne hrx => ?discards,
    fun r h hrate hw hquiet => ?quiet, fun c w h hrate hw hl hrx hgap => ?waits, fun r c w bytes h hrate hw hl hne hrx => ?both,
    fun r c w h hrate hw hl hrx hgap => ?rateWaits, fun c w bytes h hrate hw hl hrx => ?goesOn⟩
  case restarts =>
    have hrestart : finishReply p (s.atTime t) = restartWith .host (s.atTime t) := by simp [finishReply, h]
    have hreset := restartWith_atRestart .host (s.atTime t)
    rw [hrestart]
    rw [show (s.atTime t).restartInput = false from hr] at hreset
    exact ⟨_, rfl, hreset, hr, rfl, rfl⟩
  all_goals rw [finishReply_goes_on h]
  case plain =>
    rw [applyRateDue_none (by simpa using hrate), takeWaiting_none (by simpa using hw)]
    rfl
  case discards =>
    rw [applyRateDue_discards (bytes := bytes) (by simpa using hrate) (by simpa using hne) (by simpa using hrx),
      takeWaiting_none (by simpa using hw)]
    rfl
  case quiet =>
    rw [applyRateDue_quiet (by simpa using hrate) (by simpa using hquiet), takeWaiting_none (by simpa using hw)]
    rfl
  case waits =>
    rw [applyRateDue_none (by simpa using hrate)]
    refine takeWaiting_eq_row hw ⟨hr, rfl⟩ hl ?_
    simp [endHostFrame, State.atTime, hrx, hgap]
  case both =>
    rw [applyRateDue_discards (bytes := bytes) (by simpa using hrate) (by simpa using hne) (by simpa using hrx)]
    exact takeWaiting_eq_row hw ⟨hr, rfl⟩ hl rfl
  case rateWaits =>
    rw [applyRateDue_quiet (by simpa using hrate) (.inr (by simpa using hrx))]
    refine takeWaiting_eq_row hw ⟨hr, rfl⟩ hl ?_
    simp [endHostFrame, State.atTime, hrx, hgap]
  case goesOn =>
    have happlied : applyRateDue { s.atTime t with host := { (s.atTime t).host with inProgress := none } } =
        { s.atTime t with
          loader := { s.loader with rateDue := none }
          host := { s.host with inProgress := none } } := by
      rcases hrate with hrate | hrate
      · have hloader : { s.loader with rateDue := none } = s.loader := by rw [← hrate]
        rw [hloader]
        exact applyRateDue_none (s := { s.atTime t with host := { s.host with inProgress := none } }) hrate
      · exact applyRateDue_quiet (s := { s.atTime t with host := { s.host with inProgress := none } }) hrate (.inl rfl)
    have htaken := takeWaiting_some (cmd := ⟨c.code, w⟩) (s := { s.atTime t with
      loader := { s.loader with rateDue := none }
      host := { s.host with inProgress := none } }) hw
    rw [happlied]
    refine ⟨_, exec_row_free ⟨hr, rfl⟩ hl, congrArg _ (htaken.trans ?_)⟩
    exact takeCommand_withLine s.host.rx s.host.gap (endHostFrame { s.atTime t with
      loader := { s.loader with rateDue := none }
      host := { s.host with inProgress := none, waiting := none } }) ⟨c.code, w⟩

end
end

section
/-! What the shared operations leave of the request list, of the notifications and of the requests that stand: one lemma
for each operation, above the frames. -/

namespace Sys2Proof.Machine

open Sys2Proof.Safety Sys2Proof.Claims

/-! ### The request list but for its STATUS slot (T 6-1) -/

theorem slotsKept_of_sched {s u : State} (h : u.sched = s.sched) : SlotsKept s u := by simp [SlotsKept, h]

theorem slotsKept_refl (s : State) : SlotsKept s s := slotsKept_of_sched rfl

theorem slotsKept_trans {s u v : State} (h : SlotsKept s u) (k : SlotsKept u v) : SlotsKept s v := by
  obtain ⟨h1, h2, h3, h4, h5, h6⟩ := h
  obtain ⟨k1, k2, k3, k4, k5, k6⟩ := k
  exact ⟨k1.trans h1, k2.trans h2, k3.trans h3, k4.trans h4, k5.trans h5, k6.trans h6⟩

theorem raiseStatus_slotsKept (x : Current) (s : State) : SlotsKept s (raiseRequest .status x s) := by
  obtain ⟨h1, h2, h3⟩ := raiseRequest_status_sched x s
  exact ⟨h1, h2, h3, by simp, by simp, by simp⟩

theorem setGrant_slotsKept (g : Current) (s : State) : SlotsKept s (setGrant g s) := by simp [SlotsKept]

theorem takeShare_slotsKept (s : State) : SlotsKept s (takeShare s) := by simp [SlotsKept]

theorem weighRaise_slotsKept (s : State) : SlotsKept s (weighRaise s) := by
  unfold weighRaise
  split
  · exact setGrant_slotsKept _ _
  · exact slotsKept_refl s

theorem takeDigestChange_slotsKept (s : State) : SlotsKept s (takeDigestChange s) :=
  slotsKept_trans (slotsKept_of_sched (by simp)) (raiseStatus_slotsKept 0 (restartRaiseHold (clearConfirmations s)))

theorem enterActive_slotsKept (s : State) : SlotsKept s (enterActive s) :=
  slotsKept_trans (slotsKept_of_sched (by simp)) (takeShare_slotsKept (setStation .active .none s))

theorem evalSettled_slotsKept (s : State) : SlotsKept s (evalSettled s) := by
  unfold evalSettled
  dsimp only
  split_ifs
  · exact slotsKept_refl s
  · exact slotsKept_trans (slotsKept_of_sched rfl) (enterActive_slotsKept _)
  · exact slotsKept_trans (slotsKept_of_sched rfl) (weighRaise_slotsKept _)
  · exact slotsKept_of_sched rfl

/-- The list after a request depends on the list and on the station state alone (R105). -/
theorem raiseRequest_sched_congr {k : Kind} {x : Current} {a b : State} (hs : a.sched = b.sched)
    (hst : a.life.state = b.life.state) : (raiseRequest k x a).sched = (raiseRequest k x b).sched := by
  unfold raiseRequest
  rw [hst]
  split
  · dsimp only
    rw [hs]
  · exact hs

theorem takeDigestChange_sched {a b : State} (hs : a.sched = b.sched) (hst : a.life.state = b.life.state) :
    (takeDigestChange a).sched = (raiseRequest .status 0 b).sched := raiseRequest_sched_congr hs hst

theorem handed_sched (dig pln : Bool) (s : State) :
    (handed dig pln s).sched = if dig then (raiseRequest .status 0 s).sched else s.sched := by
  cases dig
  · unfold handed
    simp only [Bool.false_eq_true, if_false]
    split_ifs <;> simp
  · unfold handed
    simp only [if_true]
    split_ifs <;> exact takeDigestChange_sched rfl rfl

theorem handed_slotsKept (dig pln : Bool) (s : State) : SlotsKept s (handed dig pln s) := by
  cases dig with
  | true => exact slotsKept_trans (raiseStatus_slotsKept 0 s) (slotsKept_of_sched (by rw [handed_sched]; rfl))
  | false => exact slotsKept_of_sched (by rw [handed_sched]; rfl)

theorem handOn_slotsKept (dig pln : Bool) (s : State) : SlotsKept s (handOn dig pln s) := by
  rw [handOn_eq]
  split
  · exact slotsKept_trans (handed_slotsKept dig pln s) (takeShare_slotsKept _)
  · exact handed_slotsKept dig pln s

theorem commit_slotsKept (before s : State) : SlotsKept s (commit before s) := handOn_slotsKept _ _ s

theorem followDemand_slotsKept (s : State) : SlotsKept s (followDemand s) := by
  unfold followDemand
  (repeat' split) <;> first | exact setGrant_slotsKept _ _ | exact slotsKept_refl s

theorem commitDemand_slotsKept (before s : State) : SlotsKept s (commitDemand before s) := by
  have hcommit : SlotsKept s (commit before (formDemand s)) :=
    slotsKept_trans (slotsKept_of_sched (by simp)) (commit_slotsKept before _)
  have hhanded : SlotsKept s (demandHandedOn before s) := by
    unfold demandHandedOn
    split
    · exact hcommit
    · exact slotsKept_trans hcommit (slotsKept_trans (raiseStatus_slotsKept 0 _) (followDemand_slotsKept _))
  rw [commitDemand_eq]
  split
  · exact slotsKept_trans hhanded (evalSettled_slotsKept _)
  · exact hhanded

theorem noteRoster_slotsKept (before s : State) : SlotsKept s (noteRoster before s) := slotsKept_of_sched (by simp)

theorem handRoster_slotsKept (before s : State) : SlotsKept s (handRoster before s) :=
  slotsKept_trans (noteRoster_slotsKept before s) (commit_slotsKept before _)

/-! ### A STATUS request that stands (R105) -/

theorem setGrant_status_kept {g : Current} {s : State} (h : s.sched.status ≠ none) : (setGrant g s).sched.status ≠ none := by
  unfold setGrant
  split
  · exact h
  · exact raiseRequest_status_kept _ _ _ h

theorem weighRaise_status_kept {s : State} (h : s.sched.status ≠ none) : (weighRaise s).sched.status ≠ none := by
  unfold weighRaise
  split
  · exact setGrant_status_kept h
  · exact h

theorem takeShare_status_kept {s : State} (h : s.sched.status ≠ none) : (takeShare s).sched.status ≠ none := by
  unfold takeShare
  split
  · exact setGrant_status_kept h
  · exact weighRaise_status_kept h

theorem evalSettled_status_kept {s : State} (h : s.sched.status ≠ none) : (evalSettled s).sched.status ≠ none := by
  unfold evalSettled
  dsimp only
  split_ifs
  · exact h
  · exact takeShare_status_kept (by simpa using h)
  · exact weighRaise_status_kept h
  · exact h

theorem followDemand_status_kept {s : State} (h : s.sched.status ≠ none) : (followDemand s).sched.status ≠ none := by
  unfold followDemand
  (repeat' split) <;> first | exact setGrant_status_kept h | exact h

/-- A STATUS request stands where the station takes part (R105). -/
theorem raiseStatus_stands {x : Current} {s : State} (h : s.life.state.participates = true) :
    (raiseRequest .status x s).sched.status ≠ none := by
  obtain ⟨r, hr, -⟩ := raiseRequest_stands (k := .status) (x := x) (s := s) (by simp [StationState.accepts, h])
  exact fun hnone => nomatch hr.symm.trans hnone

/-! ### GRANT and the grant that stands (R59) -/

/-- One GRANT with the grant that stands, where it differs from the one before. -/
def GrantNoted (s u : State) : Prop :=
  u.host.queue = if u.grantCtl.grant = s.grantCtl.grant then s.host.queue else enterNote (.grant u.grantCtl.grant) s.host.queue

theorem grantNoted_of_same {s u : State} (hg : u.grantCtl.grant = s.grantCtl.grant) (hq : u.host.queue = s.host.queue) :
    GrantNoted s u := by simp [GrantNoted, hg, hq]

theorem grantNoted_from {s v u : State} (hg : v.grantCtl.grant = s.grantCtl.grant) (hq : v.host.queue = s.host.queue)
    (h : GrantNoted v u) : GrantNoted s u := by
  unfold GrantNoted at h ⊢
  rw [h, hg, hq]

theorem setGrant_grantNoted (g : Current) (s : State) : GrantNoted s (setGrant g s) := by
  unfold GrantNoted
  rw [setGrant_queue]
  simp [eq_comm]

theorem weighRaise_grantNoted (s : State) : GrantNoted s (weighRaise s) := by
  unfold weighRaise
  split
  · exact setGrant_grantNoted _ s
  · exact grantNoted_of_same rfl rfl

theorem takeShare_grantNoted (s : State) : GrantNoted s (takeShare s) := by
  unfold takeShare
  split
  · exact setGrant_grantNoted _ s
  · exact weighRaise_grantNoted s

theorem handed_host (dig pln : Bool) (s : State) : (handed dig pln s).host = s.host := by
  cases dig <;> unfold handed <;> dsimp only <;> (repeat' split) <;> simp

theorem handed_attention (dig pln : Bool) (s : State) : (handed dig pln s).attention = s.attention := by
  cases dig <;> unfold handed <;> dsimp only <;> (repeat' split) <;> simp

theorem handOn_grantNoted (dig pln : Bool) (s : State) : GrantNoted s (handOn dig pln s) := by
  have hhost := congrArg HostPort.queue (handed_host dig pln s)
  rw [handOn_eq]
  split
  · exact grantNoted_from (by simp) hhost (takeShare_grantNoted _)
  · exact grantNoted_of_same (by simp) hhost

/-! ### ATTENTION stays asserted (R178) -/

theorem setGrant_attention_kept {g : Current} {s : State} (h : s.attention = true) : (setGrant g s).attention = true := by
  rw [setGrant_attention]
  split
  · exact h
  · rfl

theorem takeShare_attention_kept {s : State} (h : s.attention = true) : (takeShare s).attention = true := by
  unfold takeShare weighRaise
  (repeat' split) <;> first | exact setGrant_attention_kept h | exact h

theorem handOn_attention_kept {dig pln : Bool} {s : State} (h : s.attention = true) : (handOn dig pln s).attention = true := by
  have hhanded : (handed dig pln s).attention = true := (handed_attention dig pln s).trans h
  rw [handOn_eq]
  split
  · exact takeShare_attention_kept hhanded
  · exact hhanded

/-! ### The raise hold and the grant of a hand-off (R5, R52, R54) -/

/-- The raise hold runs in full where the digest changed or the new plan is larger, and else stands. -/
theorem handed_raiseHold (dig pln : Bool) (s : State) : (handed dig pln s).grantCtl.raiseHold =
    if dig || ((pln && s.life.state.plans) && increases s.planner.plan s.planNow) then
      .running (s.now + s.params.raiseHold * Config.sec)
    else s.grantCtl.raiseHold := by
  have hplan : (recomputeDigest s).planNow = s.planNow := rfl
  have hparams : ∀ v : State, v.loader = s.loader → v.params = s.params := fun v hv => params_congr (by rw [hv])
  cases dig
  · unfold handed
    simp only [Bool.false_eq_true, if_false, Bool.false_or]
    split_ifs <;> simp [hparams]
  · unfold handed
    simp only [if_true, Bool.true_or]
    split_ifs <;> simp [takeDigestChange, hparams]

/-- The raise hold after a hand-off is that before our share meets the grant. -/
theorem handOn_raiseHold (dig pln : Bool) (s : State) : (handOn dig pln s).grantCtl.raiseHold =
    if dig || ((pln && s.life.state.plans) && increases s.planner.plan s.planNow) then
      .running (s.now + s.params.raiseHold * Config.sec)
    else s.grantCtl.raiseHold := by
  rw [← handed_raiseHold, handOn_eq]
  split
  · simp
  · rfl

end Sys2Proof.Machine
end

section
/-! Entries into station states field by field, and the commands and expiries that bring them about. -/

namespace Sys2Proof.Machine

open Sys2Proof.Safety Sys2Proof.Claims

/-! ### A request with no excess (R105) -/

/-- A request with excess 0 leaves the one that waits as it is, or stands afresh. -/
theorem raiseRequest_zero {k : Kind} {s : State} (h : s.life.state.accepts k = true) :
    raiseRequest k 0 s = { s with sched := s.sched.setSlot k (some ((s.sched.slot k).getD ⟨0, 0⟩)) } := by
  unfold raiseRequest
  rw [if_pos h]
  cases s.sched.slot k with
  | none => rfl
  | some r => simp

/-! ### JOINING and ACTIVE (R56, R57, R70, R71, R78) -/

/-- A share that can only lower the grant. -/
theorem lowered_eq_min (g share : Nat) : (if share < g then share else g) = min g share := by split <;> omega

/-- A share that lowers the grant, and raises it with the permission. -/
theorem compared_eq (p : Prop) [Decidable p] (g share : Nat) :
    (if share < g then share else if p ∧ g < share then share else g) = if p then share else min g share := by
  by_cases h : p
  · simp only [h, true_and, if_true]
    split_ifs <;> omega
  · simp only [h, false_and, if_false]
    exact lowered_eq_min g share

/-- In JOINING our share meets the grant from above alone. -/
theorem takeShare_joining {s : State} (h : s.life.state = .joining) :
    (takeShare s).grantCtl = { s.grantCtl with grant := min s.grantCtl.grant s.ownShare } := by
  have hperm : s.permission = false := by simp [State.permission, h]
  rw [takeShare_grant, h, hperm]
  refine GrantController.ext ?_ rfl rfl rfl rfl
  simp only [or_true, true_and, Bool.false_eq_true, false_and, if_false]
  exact lowered_eq_min _ _

/-- In ACTIVE our share lowers the grant, and raises it with the permission. -/
theorem takeShare_active {s : State} (h : s.life.state = .active) :
    (takeShare s).grantCtl = { s.grantCtl with grant :=
      (if s.grantCtl.settled = true ∧ s.grantCtl.raiseHold = .expired ∧ s.link.degraded = false then s.ownShare
      else min s.grantCtl.grant s.ownShare) } := by
  have hperm : s.permission = true ↔
      s.grantCtl.settled = true ∧ s.grantCtl.raiseHold = .expired ∧ s.link.degraded = false := by
    simp [permission_iff, h]
  rw [takeShare_grant, h]
  refine GrantController.ext ?_ rfl rfl rfl rfl
  simp only [true_or, true_and, hperm]
  exact compared_eq _ _ _

/-- Where JOINING ends the event it entered: at once in ACTIVE where the station is settled (R71). -/
theorem enterJoining_life (s : State) : (enterJoining s).life =
    { s.life with state := if s.grantCtl.settled then .active else .joining, phase := .none,
                  fallbackAt := none, spentAt := none } := by
  unfold enterJoining
  dsimp only
  cases h : s.grantCtl.settled <;> simp [h, enterActive]

/-- The grant after the entry: our share with the permission, else lowered to it (R56, R57). -/
theorem enterJoining_grantCtl (s : State) : (enterJoining s).grantCtl = { s.grantCtl with grant :=
    (if s.grantCtl.settled = true ∧ s.grantCtl.raiseHold = .expired ∧ s.link.degraded = false then s.ownShare
    else min s.grantCtl.grant s.ownShare) } := by
  unfold enterJoining
  dsimp only
  generalize hv : setStation .joining .none { s with life := { s.life with fallbackAt := none, spentAt := none } } = v
  have hgrant : v.grantCtl = s.grantCtl := by rw [← hv]; simp
  have hlink : v.link = s.link := by rw [← hv]; simp
  have hshare : v.ownShare = s.ownShare := ownShare_congr (by rw [← hv]; simp) (by rw [← hv]; simp)
  have hjoined := takeShare_joining (s := v) (by rw [← hv]; simp)
  rw [hgrant, hshare] at hjoined
  cases h : s.grantCtl.settled
  · simp [hgrant, hjoined, h]
  · have hshare' : (setStation .active .none (takeShare v)).ownShare = s.ownShare :=
      (ownShare_congr (by simp) (by simp)).trans hshare
    have hactive := takeShare_active (s := setStation .active .none (takeShare v)) (by simp)
    simp only [setStation_frame, hjoined, hshare', takeShare_frame, hlink, h] at hactive
    have hsettled : (takeShare v).grantCtl.settled = true := by simp [hjoined, h]
    rw [if_pos hsettled]
    unfold enterActive
    rw [hactive]
    refine GrantController.ext ?_ rfl rfl rfl rfl
    simp only [Nat.min_assoc, Nat.min_self]

/-- The CUT output is driven at the entry from another state (R147). -/
theorem enterJoining_cutOutput {s : State} (h : s.life.state ≠ .joining) : (enterJoining s).cutOutput = s.cutFlag := by
  unfold enterJoining
  dsimp only
  generalize hv : setStation .joining .none { s with life := { s.life with fallbackAt := none, spentAt := none } } = v
  have hcut : v.cutOutput = s.cutFlag := by rw [← hv, setStation_cutOutput (by simpa using h)]; rfl
  have hstate : v.life.state = .joining := by rw [← hv]; simp
  have henf : v.enf = s.enf := by rw [← hv]; simp
  split
  · unfold enterActive
    rw [(takeShare_frame _).2.2.2.1, setStation_cutOutput (by simp [hstate])]
    simp [State.cutFlag, henf]
  · simpa using hcut

/-- Of the list the entry touches the STATUS slot alone. -/
theorem enterJoining_slotsKept (s : State) : SlotsKept s (enterJoining s) := by
  unfold enterJoining
  dsimp only
  have hjoined : SlotsKept s (takeShare (setStation .joining .none
      { s with life := { s.life with fallbackAt := none, spentAt := none } })) :=
    slotsKept_trans (slotsKept_of_sched (by simp)) (takeShare_slotsKept _)
  split
  · exact slotsKept_trans hjoined (enterActive_slotsKept _)
  · exact hjoined

/-! ### LISTENING (R69, R87) -/

/-- The state right before the grant becomes 0 at an entry into LISTENING. -/
def listeningBegun (s : State) : State :=
  { setStation .listening .none (resetLine s) with
    life := { s.life with
      state := .listening, phase := .none
      listen := some (s.now + Config.listenCycles * s.params.cyclePeriod), tClean := some s.now, tAny := some s.now }
    sched := { s.sched with isolationCount := 0 } }

theorem enterListening_eq (s : State) : enterListening s = setGrant 0 (listeningBegun s) := by
  have hlife : (setStation .listening .none (resetLine s)).life = { s.life with state := .listening, phase := .none } := by
    simp
  have hparams : (setStation .listening .none (resetLine s)).params = s.params := params_congr (by simp)
  have hsched : (setStation .listening .none (resetLine s)).sched = s.sched := by simp
  have hnow : (setStation .listening .none (resetLine s)).now = s.now := by simp
  unfold enterListening listeningBegun
  dsimp only
  rw [hlife, hparams, hsched, hnow]

/-- From a state in which the grant is 0 LISTENING is entered with STATION STATE alone (R84). -/
theorem enterListening_of_zero {s : State} (hst : s.life.state ≠ .listening) (hg : s.grantCtl.grant = 0) :
    enterListening s = raiseNote (.stationState .listening .none s.loader.stage)
      { s with
        cutOutput := s.cutFlag
        bus := { s.bus with recessive := 0, idle := false, endLeft := 0, assembly := .empty }
        life := { s.life with
          state := .listening, phase := .none
          listen := some (s.now + Config.listenCycles * s.params.cyclePeriod), tClean := some s.now, tAny := some s.now }
        sched := { s.sched with isolationCount := 0 } } := by
  rw [enterListening_eq, setGrant_same (by simp [listeningBegun, hg])]
  unfold listeningBegun setStation
  rw [if_neg (by simp [hst])]
  rfl

/-! ### LEAVING (R79, R114) -/

theorem enterLeaving_life (s : State) : (enterLeaving s).life =
    { s.life with state := .leaving, phase := .none, listen := none, fallbackAt := none, spentAt := none } := by
  simp [enterLeaving]

theorem enterLeaving_grantCtl (s : State) : (enterLeaving s).grantCtl = { s.grantCtl with grant := 0 } := by
  simp [enterLeaving]

/-- The LEAVE request stands, the claims are cancelled, and SHED and the attempt in flight stay (R79, R114). -/
theorem enterLeaving_sched (s : State) : (enterLeaving s).sched =
    { s.sched with announce := none, status := none, leave := some (s.sched.leave.getD ⟨0, 0⟩) } := by
  unfold enterLeaving
  dsimp only
  generalize hv : setStation .leaving .none
    { s with life := { s.life with listen := none, fallbackAt := none, spentAt := none } } = v
  have hstate : v.life.state = .leaving := by rw [← hv]; simp
  have hsched : (setGrant 0 v).sched = s.sched := by
    rw [setGrant_sched_discarded (by rw [hstate]; rfl), ← hv]
    simp
  rw [raiseRequest_zero (by simp [hstate, StationState.accepts])]
  simp only [Scheduler.setSlot, Scheduler.slot, cancelClaims, hsched]

theorem enterLeaving_cutOutput {s : State} (h : s.life.state ≠ .leaving) : (enterLeaving s).cutOutput = s.cutFlag := by
  unfold enterLeaving
  simp only [raiseRequest_frame, cancelClaims_frame, setGrant_frame]
  exact setStation_cutOutput (s := { s with life := { s.life with listen := none, fallbackAt := none, spentAt := none } }) h

/-- STATION STATE, then GRANT where it changed (R66, R59). -/
theorem enterLeaving_queue {s : State} (h : s.life.state ≠ .leaving) : (enterLeaving s).host.queue =
    if s.grantCtl.grant = 0 then enterNote (.stationState .leaving .none s.loader.stage) s.host.queue
    else enterNote (.grant 0) (enterNote (.stationState .leaving .none s.loader.stage) s.host.queue) := by
  simp [enterLeaving, setGrant_queue, setStation_queue, h]

theorem enterLeaving_attention {s : State} (h : s.life.state ≠ .leaving) : (enterLeaving s).attention = true := by
  simp [enterLeaving, setGrant_attention, setStation_attention, h]

end Sys2Proof.Machine

section
open Sys2Proof Sys2Proof.Machine Sys2Proof.Safety Sys2Proof.Claims

/-- Settles O19: the two entries, each under its command. -/
theorem leaveEntersLeavingAndJoinListening : Obligations.LeaveEntersLeavingAndJoinListening := by
  refine ⟨fun t s hp hst => ?_, fun t s hp hst hg => ?_⟩
  · have hne : (endHostFrame (s.atTime t)).life.state ≠ .leaving := by
      simp only [List.mem_cons, List.not_mem_nil, or_false] at hst
      change s.life.state ≠ .leaving
      rcases hst with h | h | h | h <;> rw [h] <;> decide
    have hgate : s.gate .leave = none := by
      simp only [List.mem_cons, List.not_mem_nil, or_false] at hst
      unfold State.gate
      rcases hst with h | h | h | h <;> rw [h] <;> rfl
    refine ⟨enterLeaving (endHostFrame (s.atTime t)), exec_row_taken (c := .leave) (p := []) hp (by simp) hgate rfl (by decide),
      enterLeaving_life _, enterLeaving_grantCtl _, enterLeaving_sched _, enterLeaving_cutOutput hne,
      enterLeaving_attention hne, enterLeaving_queue hne, ?_⟩
    simp [PortKept]
  · have hgate : s.gate .join = none := by simp [State.gate, hst, runningGate]
    have htaken := exec_row_taken (c := .join) (t := t) (p := []) hp (by simp) hgate rfl (by decide)
    have hentered := enterListening_of_zero (s := endHostFrame (s.atTime t)) (by simp [hst]) hg
    refine htaken.trans ?_
    change Host.Outcome.next (answered ⟨0x09#8, []⟩ .ok [] (restartWindow (enterListening (endHostFrame (s.atTime t))))) = _
    rw [hentered]
    rfl

/-- Settles O38: JOINING is entered with a grant of 0, and the ANNOUNCE request raised after it. -/
theorem listenExpiryEntersJoining : Obligations.ListenExpiryEntersJoining := by
  intro d s hr hlisten hst hg
  let v : State := { s.atTime d with life := { s.life with listen := none } }
  have hexec : exec .listenTimerExpiry s = .next (raiseRequest .announce 0 (enterJoining v)) := by
    simp only [exec, execListenTimerExpiry, hlisten]
    exact (expire_released hr).trans (congrArg _ (onlyIf_holds (by simp [hst])))
  have hlife := enterJoining_life v
  obtain ⟨hshed, hleave, hannounce, hflight, -⟩ := enterJoining_slotsKept v
  have haccepts : (enterJoining v).life.state.accepts .announce = true := by
    rw [hlife]
    dsimp only
    split <;> rfl
  have hraised := raiseRequest_zero (k := .announce) haccepts
  have hcut : (enterJoining v).cutOutput = s.cutFlag := enterJoining_cutOutput (s := v) (by simp [v, hst])
  refine ⟨_, hexec, ?_, ?_, ?_, ?_, ?_, ?_, ?_, ?_⟩
  · rw [hraised]
    exact hlife
  · have hgrant := enterJoining_grantCtl v
    rw [hraised]
    have hzero : v.grantCtl.grant = 0 := hg
    rw [hzero, Nat.zero_min] at hgrant
    exact hgrant
  · rw [hraised]
    simp only [Scheduler.setSlot, Scheduler.slot, hannounce]
    rfl
  · rw [hraised]; exact hshed
  · rw [hraised]; exact hleave
  · rw [hraised]; exact hflight
  · rw [hraised]; exact hcut
  · simp [v, Apart, PortKept]

/-- Settles O40: the expiry weighs a raise, which the permission in ACTIVE makes or not. -/
theorem raiseHoldAndSpacingExpiry : Obligations.RaiseHoldAndSpacingExpiry := by
  refine ⟨fun d s hr hhold => ?_, fun d s hr hspacing => ?_⟩
  · let v : State := { s.atTime d with grantCtl := { s.grantCtl with raiseHold := .expired } }
    have hexec : exec .raiseHoldExpiry s = .next (weighRaise v) := by
      simp only [exec, execRaiseHoldExpiry, hhold, HoldTimer.due]
      exact expire_released hr
    have hpermission : v.permission = true ↔
        s.life.state = .active ∧ s.grantCtl.settled = true ∧ s.link.degraded = false := by
      simp [permission_iff, v]
    have hraises : (v.permission = true ∧ v.grantCtl.grant < v.ownShare) ↔ (s.life.state = .active ∧
        s.grantCtl.settled = true ∧ s.link.degraded = false ∧ s.grantCtl.grant < s.ownShare) := by
      rw [hpermission, and_assoc, and_assoc]
      rfl
    rw [hexec]
    refine ⟨fun hno => ?_, fun hyes => ?_⟩
    · rw [weighRaise, if_neg (fun h => hno (hraises.mp h))]
    · have hpermitted := hraises.mpr hyes
      obtain ⟨hactive, -, -, hlt⟩ := hyes
      have hne : v.grantCtl.grant ≠ v.ownShare := Nat.ne_of_lt hlt
      rw [weighRaise, if_pos hpermitted, setGrant, if_neg hne, raiseRequest_zero (by simp [v, hactive]; rfl)]
      rfl
  · simp only [exec, execStatusSpacingTimerExpiry, hspacing]
    exact expire_released hr

/-- Settles O42: each deadline sets its phase and the grant of that phase. -/
theorem isolationDeadlinesSetThePhase : Obligations.IsolationDeadlinesSetThePhase := by
  have hspent : ∀ {s : State}, s.life.state = .isolated →
      (enterSpent s).life = { s.life with phase := .spent } ∧ (enterSpent s).grantCtl = { s.grantCtl with grant := 0 } := by
    intro s hst
    simp [enterSpent, ← hst]
  refine ⟨fun d e s hr hst hph hd he => ?_, fun e s hr hst hph he => ?_, fun d s hr hph hd => ?_⟩
  · have hexec : exec .fallbackDeadline s = .next (fallbackReached (s.atTime d)) := by
      simp only [exec, execFallbackDeadline, hd]
      exact (expire_released hr).trans (congrArg _ (onlyIf_holds (by simp [hst, hph])))
    have hreached : (s.atTime d).spentReached = decide (e ≤ max s.now d) := by
      simp [State.spentReached, he]
    refine ⟨_, hexec, ?_⟩
    unfold fallbackReached
    rw [hreached]
    by_cases hle : e ≤ max s.now d
    · obtain ⟨hlife, hgrant⟩ := hspent (s := s.atTime d) hst
      have hslots : SlotsKept (s.atTime d) (enterSpent (s.atTime d)) :=
        slotsKept_trans (slotsKept_of_sched (by simp)) (setGrant_slotsKept 0 _)
      simp only [hle, decide_true, if_true]
      exact ⟨hlife, hgrant, by simp [Apart, PortKept], by simp, by simp, by simp, by simp, by simp, by simp,
        by simp [Apart, PortKept], hslots, by simp⟩
    · have hslots : SlotsKept (s.atTime d) (enterFallback (s.atTime d)) :=
        slotsKept_trans (slotsKept_of_sched (by simp)) (setGrant_slotsKept _ _)
      simp only [hle, decide_false, if_false, Bool.false_eq_true]
      exact ⟨by simp [enterFallback, ← hst], by simp [enterFallback]; rfl, by simp, by simp, by simp, by simp, by simp,
        by simp, by simp, by simp [Apart, PortKept], hslots, by simp⟩
  · have hexec : exec .spentDeadline s = .next (enterSpent (s.atTime e)) := by
      simp only [exec, execSpentDeadline, he]
      exact (expire_released hr).trans (congrArg _ (onlyIf_holds (by simpa [hst] using hph)))
    obtain ⟨hlife, hgrant⟩ := hspent (s := s.atTime e) hst
    have hslots : SlotsKept (s.atTime e) (enterSpent (s.atTime e)) :=
      slotsKept_trans (slotsKept_of_sched (by simp)) (setGrant_slotsKept 0 _)
    exact ⟨_, hexec, hlife, hgrant, by simp, by simp, by simp, by simp, by simp, by simp, by simp, by simp [Apart, PortKept],
      hslots, by simp⟩
  · simp only [exec, execFallbackDeadline, hd]
    exact (expire_released hr).trans (congrArg _ (onlyIf_fails (by simp [hph])))

end
end

section
/-! A demand that is formed again, handed on field by field (R3, R4), and the commands that form one: DEMAND, the entry into
CUT, the return from COOLING; with the end of the shed hold and the first entry into LISTENING. -/

namespace Sys2Proof.Machine

open Sys2Proof.Safety Sys2Proof.Claims

/-! ### The settled condition evaluated (R50, R51) -/

/-- The flag becomes its condition (R50). -/
theorem evalSettled_settled (s : State) : (evalSettled s).grantCtl.settled = s.settledCondition := by
  unfold evalSettled
  dsimp only
  split_ifs with h
  · exact h.symm
  all_goals simp

theorem settledCondition_congr {a b : State} (h : a.roster = b.roster) : a.settledCondition = b.settledCondition := by
  unfold State.settledCondition
  rw [h]

/-- After the evaluation the flag is its condition. -/
theorem evalSettled_fits (s : State) : (evalSettled s).grantCtl.settled = (evalSettled s).settledCondition :=
  (evalSettled_settled s).trans (settledCondition_congr (by simp)).symm

/-- Outside JOINING and ACTIVE the evaluation writes the flag alone. -/
theorem evalSettled_elsewhere {s : State} (hj : s.life.state ≠ .joining) (ha : s.life.state ≠ .active) :
    evalSettled s = { s with grantCtl := { s.grantCtl with settled := s.settledCondition } } := by
  unfold evalSettled
  split
  · next h => rw [h]
  · simp [hj, weighRaise, State.permission, ha]

/-- Where the flag does not become set the evaluation writes the flag alone. -/
theorem evalSettled_of_no_rise {s : State} (h : s.settledCondition = true → s.grantCtl.settled = true) :
    evalSettled s = { s with grantCtl := { s.grantCtl with settled := s.settledCondition } } := by
  unfold evalSettled
  split
  · next hsame => rw [hsame]
  · next hne =>
    have hclear : s.settledCondition = false := Bool.eq_false_iff.mpr fun hset => hne (hset.trans (h hset).symm)
    simp [hclear]

/-- The evaluation raises no grant while the raise hold is not expired, and lowers none that our share does not. -/
theorem evalSettled_grant {s : State} (hhold : s.grantCtl.raiseHold ≠ .expired)
    (hshare : s.life.state = .joining → s.grantCtl.grant ≤ s.ownShare) :
    (evalSettled s).grantCtl.grant = s.grantCtl.grant := by
  unfold evalSettled
  dsimp only
  split_ifs with _ _ hj
  · rfl
  · have hle := hshare hj
    unfold enterActive
    have hsame : ∀ v : State, (setStation .active .none v).ownShare = v.ownShare := fun v =>
      ownShare_congr (by simp) (by simp)
    rw [takeShare_active (by simp), if_neg (by simp [hhold]), hsame]
    simp only [setStation_frame]
    exact Nat.min_eq_left hle
  · simp [weighRaise, State.permission, hhold]
  · rfl

/-! ### What digest and plan look at -/

theorem digestNow_of_same {a b : State} (hl : a.loader = b.loader) (hc : a.planner.claim = b.planner.claim)
    (hr : a.roster = b.roster) : a.digestNow = b.digestNow := digestNow_congr (by rw [hl]) (by rw [hc]) (by rw [hr])

theorem planNow_of_same {a b : State} (hl : a.loader = b.loader) (hc : a.planner.claim = b.planner.claim)
    (hr : a.roster = b.roster) (hm : a.meter = b.meter) (hd : a.grantCtl.deficit = b.grantCtl.deficit) :
    a.planNow = b.planNow := planNow_congr hc (by rw [hm]) hd (by rw [hl]) (by rw [hr])

/-! ### A hand-off while the raise hold runs (R54) -/

/-- A hand-off that restarts the raise hold raises no grant: it lowers it to our share in ACTIVE and JOINING. -/
theorem handOn_grant_lowers {dig : Bool} {s : State} (hplans : s.life.state.plans = true)
    (hhold : (handed dig true s).grantCtl.raiseHold ≠ .expired) : (handOn dig true s).grantCtl.grant =
      if s.life.state = .active ∨ s.life.state = .joining then min s.grantCtl.grant (handOn dig true s).ownShare
      else s.grantCtl.grant := by
  have hperm : (handed dig true s).permission = false := by simp [State.permission, hhold]
  have hshare : (takeShare (handed dig true s)).ownShare = (handed dig true s).ownShare :=
    ownShare_congr (by simp) (by simp)
  rw [handOn_eq, hplans, Bool.and_self, if_pos rfl, takeShare_grant, hshare, hperm]
  simp only [handed_frame, Bool.false_eq_true, false_and, if_false]
  by_cases hst : s.life.state = .active ∨ s.life.state = .joining
  · simp only [hst, true_and, if_true]
    exact lowered_eq_min _ _
  · simp only [hst, false_and, if_false]

/-! ### A demand formed again (R2, R3) -/

theorem formDemand_same {s : State} (h : s.demandFormed = s.planner.claim.effectiveDemand) : formDemand s = s := if_pos h

/-- The value changes, and the serial moves (R3). -/
theorem formDemand_changed {s : State} (h : s.demandFormed ≠ s.planner.claim.effectiveDemand) : formDemand s =
    { s with planner := { s.planner with claim := { s.planner.claim with
        effectiveDemand := s.demandFormed, serial := s.planner.claim.serial + 1 } } } := if_neg h

theorem serial_ne_succ (b : Byte) : b ≠ b + 1 := by
  intro h
  have := congrArg BitVec.toNat h
  rw [BitVec.toNat_add] at this
  have hlt := b.isLt
  have hone : (1 : Byte).toNat = 1 := rfl
  omega

/-- An event that changes no input of digest and plan is handed on as it is. -/
theorem commit_same {s m : State} (hr : m.roster = s.roster) (hc : m.planner.claim.serial = s.planner.claim.serial)
    (he : m.planner.claim.effectiveDemand = s.planner.claim.effectiveDemand) (hu : m.meter.estimate = s.meter.estimate)
    (hd : m.grantCtl.deficit = s.grantCtl.deficit) : commit s m = m := by
  have hdig : digestChanged s m = false := digestChanged_eq_false.mpr ⟨by rw [hr], hc.symm⟩
  have hpln : planInputChanged s m = false := planInputChanged_eq_false.mpr ⟨by rw [hr], he.symm, hu.symm, hd.symm⟩
  unfold commit
  rw [hdig, hpln]
  rfl

/-- An event after which the demand is formed as it stood, with no other input changed, is handed on as it is (R3). -/
theorem commitDemand_same {s m : State} (hr : m.roster = s.roster) (hc : m.planner.claim.serial = s.planner.claim.serial)
    (he : m.planner.claim.effectiveDemand = s.planner.claim.effectiveDemand) (hu : m.meter.estimate = s.meter.estimate)
    (hd : m.grantCtl.deficit = s.grantCtl.deficit) (hf : m.demandFormed = m.planner.claim.effectiveDemand) :
    commitDemand s m = m := by
  have hdig : digestChanged s m = false := digestChanged_eq_false.mpr ⟨by rw [hr], hc.symm⟩
  rw [commitDemand_eq, formDemand_same hf, hdig]
  simp only [Bool.false_eq_true, if_false]
  unfold demandHandedOn
  rw [formDemand_same hf, if_pos he.symm, commit_same hr hc he hu hd]

/-- What a demand that changes in `m` brings, the claim apart from it being that of `s`. -/
structure DemandChanges (s m : State) : Prop where
  changed : m.demandFormed ≠ m.planner.claim.effectiveDemand
  effective : m.planner.claim.effectiveDemand = s.planner.claim.effectiveDemand
  serial : m.planner.claim.serial = s.planner.claim.serial
  plans : m.life.state.plans = true

section
variable {s m : State} (h : DemandChanges s m)
include h

/-- The hand-off of a changed demand computes digest and plan. -/
theorem DemandChanges.commit_eq : commit s (formDemand m) = handOn true true (formDemand m) := by
  have hserial : s.planner.claim.serial ≠ (formDemand m).planner.claim.serial := by
    rw [formDemand_changed h.changed, ← h.serial]
    exact serial_ne_succ _
  have heffective : s.planner.claim.effectiveDemand ≠ (formDemand m).planner.claim.effectiveDemand := by
    rw [formDemand_changed h.changed, ← h.effective]
    exact h.changed.symm
  unfold commit
  simp [digestChanged, planInputChanged, hserial, heffective]

theorem DemandChanges.commitDemand_eq : commitDemand s m =
    evalSettled (followDemand (raiseRequest .status 0 (handOn true true (formDemand m)))) := by
  have hserial : s.planner.claim.serial ≠ (formDemand m).planner.claim.serial := by
    rw [formDemand_changed h.changed, ← h.serial]
    exact serial_ne_succ _
  have heffective : s.planner.claim.effectiveDemand ≠ (formDemand m).planner.claim.effectiveDemand := by
    rw [formDemand_changed h.changed, ← h.effective]
    exact h.changed.symm
  rw [Machine.commitDemand_eq, if_pos (by simp [digestChanged, hserial])]
  unfold demandHandedOn
  rw [if_neg heffective, h.commit_eq]

/-- The state before the settled condition is evaluated: digest and plan are new, every confirmation is clear and the raise
hold runs in full (R4). -/
theorem DemandChanges.handedOn_writes :
    let v := followDemand (raiseRequest .status 0 (handOn true true (formDemand m)))
    v.planner = { claim := { m.planner.claim with
                    effectiveDemand := m.demandFormed, serial := m.planner.claim.serial + 1 }
                  digest := v.digestNow, plan := some v.planNow } ∧
    v.roster = (clearConfirmations m).roster ∧
    v.grantCtl.raiseHold = .running (m.now + m.params.raiseHold * Config.sec) ∧
    v.life = m.life := by
  intro v
  have hclaim : (handOn true true (formDemand m)).planner.claim = { m.planner.claim with
      effectiveDemand := m.demandFormed, serial := m.planner.claim.serial + 1 } := by
    simp [formDemand_changed h.changed]
  have hplans : (formDemand m).life.state.plans = true := by simpa using h.plans
  have hdigest : v.digestNow = (formDemand m).digestNow :=
    (digestNow_of_same (by simp [v]) (by simp [v]) (by simp [v])).trans (handOn_digestNow true true _)
  have hplan : v.planNow = (formDemand m).planNow :=
    (planNow_of_same (b := handOn true true (formDemand m)) (by simp [v]) (by simp [v]) (by simp [v]) (by simp [v])
      (by simp [v])).trans (handOn_planNow true true _)
  refine ⟨?_, ?_, ?_, by simp [v]⟩
  · rw [hdigest, hplan]
    refine SharePlanner.ext ?_ ?_ ?_
    · simpa [v] using hclaim
    · simpa [v, h.plans] using handOn_plan true true (formDemand m)
    · simpa [v] using handOn_digest true true (formDemand m)
  · have hroster := handOn_roster true true (formDemand m)
    simp only [if_true] at hroster
    simp only [v, followDemand_frame, raiseRequest_frame, hroster]
    simp [clearConfirmations]
  · have hhold := handOn_raiseHold true true (formDemand m)
    have hparams : (formDemand m).params = m.params := params_congr (by simp)
    simp only [Bool.true_or, if_true, formDemand_frame, hparams] at hhold
    simpa [v] using hhold

/-- The grant that a changed demand leaves, by station state and phase (R54, R75, R77). -/
theorem DemandChanges.grant_eq : (commitDemand s m).grantCtl.grant =
    (if m.life.state = .active ∨ m.life.state = .joining then min m.grantCtl.grant (commitDemand s m).ownShare
     else if m.life.state = .isolated ∧ m.life.phase = .hold then min m.grantCtl.grant m.demandFormed
     else if m.life.state = .isolated ∧ m.life.phase = .fallback then min m.params.fallback m.demandFormed
     else m.grantCtl.grant) := by
  obtain ⟨hplanner, -, hhold, hlife⟩ := h.handedOn_writes
  have heq := h.commitDemand_eq
  have hplans : (formDemand m).life.state.plans = true := by simpa using h.plans
  have hrunning : (handed true true (formDemand m)).grantCtl.raiseHold ≠ .expired := by simp [handed_raiseHold]
  have hlowered := handOn_grant_lowers (s := formDemand m) hplans hrunning
  generalize hv : followDemand (raiseRequest .status 0 (handOn true true (formDemand m))) = v at hplanner hhold hlife heq
  have hshare : (commitDemand s m).ownShare = v.ownShare := ownShare_congr (by rw [heq]; simp) (by rw [heq]; simp)
  have hshare' : (handOn true true (formDemand m)).ownShare = v.ownShare := ownShare_congr (by rw [← hv]; simp) (by rw [← hv]; simp)
  have hvgrant : v.grantCtl.grant =
      (if m.life.state = .active ∨ m.life.state = .joining then min m.grantCtl.grant v.ownShare
       else if m.life.state = .isolated ∧ m.life.phase = .hold then min m.grantCtl.grant m.demandFormed
       else if m.life.state = .isolated ∧ m.life.phase = .fallback then min m.params.fallback m.demandFormed
       else m.grantCtl.grant) := by
    rw [hshare'] at hlowered
    simp only [formDemand_frame] at hlowered
    have heffective : (raiseRequest .status 0 (handOn true true (formDemand m))).planner.claim.effectiveDemand =
        m.demandFormed := by simp [formDemand_changed h.changed]
    have hparams : (raiseRequest .status 0 (handOn true true (formDemand m))).params = m.params := params_congr (by simp)
    rw [← hv] at hlowered ⊢
    unfold followDemand at hlowered ⊢
    by_cases hiso : m.life.state = .isolated
    · cases hph : m.life.phase <;> simp_all
    · simp_all
  rw [hshare, ← hvgrant, heq]
  refine evalSettled_grant (by simp [hhold]) fun hj => ?_
  rw [hlife] at hj
  rw [hvgrant, if_pos (.inr hj)]
  exact Nat.min_le_right _ _

end

end Sys2Proof.Machine
end

section
/-! The commands and expiries that form a demand again: DEMAND, the entry into CUT, the return from COOLING, and CLEAR CUT. -/

namespace Sys2Proof.Machine

open Sys2Proof.Safety Sys2Proof.Claims

/-! ### A changed demand in a settled station -/

/-- With every confirmation cleared the station settles only where it was settled before (R50). -/
theorem settled_of_clearConfirmations {s : State} (h : (clearConfirmations s).settledCondition = true) :
    s.settledCondition = true := by
  simp only [State.settledCondition, clearConfirmations, Bool.and_eq_true, Bool.not_eq_true', List.all_map,
    List.all_eq_true] at h ⊢
  obtain ⟨hoverflow, hall⟩ := h
  refine ⟨hoverflow, fun e he => ?_⟩
  have := hall e he
  simp only [Function.comp_apply, Entry.agrees, Bool.or_false] at this
  simp [Entry.agrees, this]

/-- A STATUS request stands after a changed demand where the station takes part (R4). -/
theorem DemandChanges.status_stands {s m : State} (h : DemandChanges s m) (hp : m.life.state.participates = true) :
    (commitDemand s m).sched.status ≠ none := by
  rw [h.commitDemand_eq]
  exact evalSettled_status_kept (followDemand_status_kept (raiseStatus_stands (by simpa using hp)))

/-- What of the rest the changed demand leaves or writes (R4). -/
theorem DemandChanges.commitDemand_writes {s m : State} (h : DemandChanges s m) :
    (commitDemand s m).planner =
      { claim := { m.planner.claim with
          effectiveDemand := m.demandFormed, serial := m.planner.claim.serial + 1 }
        digest := (commitDemand s m).digestNow, plan := some (commitDemand s m).planNow } ∧
    (commitDemand s m).roster = (clearConfirmations m).roster ∧
    (commitDemand s m).grantCtl.raiseHold = .running (m.now + m.params.raiseHold * Config.sec) ∧
    (commitDemand s m).grantCtl.settled = (commitDemand s m).settledCondition := by
  obtain ⟨hplanner, hroster, hhold, -⟩ := h.handedOn_writes
  rw [h.commitDemand_eq]
  generalize followDemand (raiseRequest .status 0 (handOn true true (formDemand m))) = v at hplanner hroster hhold ⊢
  have hdigest : (evalSettled v).digestNow = v.digestNow := digestNow_of_same (by simp) (by simp) (by simp)
  have hplan : (evalSettled v).planNow = v.planNow := planNow_of_same (by simp) (by simp) (by simp) (by simp) (by simp)
  refine ⟨?_, by simpa using hroster, by simpa using hhold, evalSettled_fits v⟩
  rw [hdigest, hplan]
  simpa using hplanner

/-- A station whose flag stands as its condition says keeps its state through a changed demand (R49, R50). -/
theorem DemandChanges.commitDemand_keeps {s m : State} (h : DemandChanges s m)
    (hset : m.grantCtl.settled = m.settledCondition) :
    (commitDemand s m).life = m.life ∧ (commitDemand s m).cutOutput = m.cutOutput := by
  obtain ⟨-, hroster, -, hlife⟩ := h.handedOn_writes
  have hsettled : (followDemand (raiseRequest .status 0 (handOn true true (formDemand m)))).grantCtl.settled =
      m.grantCtl.settled := by simp
  have hcut : (followDemand (raiseRequest .status 0 (handOn true true (formDemand m)))).cutOutput = m.cutOutput := by simp
  rw [h.commitDemand_eq]
  generalize followDemand (raiseRequest .status 0 (handOn true true (formDemand m))) = v at hroster hlife hsettled hcut ⊢
  have hrise : v.settledCondition = true → v.grantCtl.settled = true := fun hv => by
    rw [hsettled, hset]
    exact settled_of_clearConfirmations ((settledCondition_congr hroster).symm.trans hv)
  rw [evalSettled_of_no_rise hrise]
  exact ⟨hlife, hcut⟩

theorem plans_of_demandTaken {s : State} (h : DemandTaken s) : s.life.state.plans = true := by
  obtain ⟨h1, -, h3⟩ := h
  cases hs : s.life.state <;> simp_all [StationState.plans]

/-- The demand that stands is the one R2 forms (R3). -/
theorem commitDemand_effective (before m : State) :
    (commitDemand before m).planner.claim.effectiveDemand = m.demandFormed := by
  have hformed : (formDemand m).demandFormed = m.demandFormed := by simp [State.demandFormed]
  have hlaw := formDemand_demandLaw m
  unfold DemandLaw at hlaw
  rw [hformed] at hlaw
  unfold commitDemand
  dsimp only
  split_ifs <;> simpa using hlaw

/-- Neither LOADING nor FAULT is entered through a changed demand. -/
theorem DemandChanges.commitDemand_plans {s m : State} (h : DemandChanges s m) :
    (commitDemand s m).life.state.plans = true := by
  obtain ⟨-, -, -, hlife⟩ := h.handedOn_writes
  rw [h.commitDemand_eq]
  generalize followDemand (raiseRequest .status 0 (handOn true true (formDemand m))) = v at hlife ⊢
  by_cases hj : v.life.state = .joining
  · unfold evalSettled
    dsimp only
    split_ifs <;> simp [StationState.plans, enterActive_state, hj]
  · rw [evalSettled_life hj, hlife]
    exact h.plans

/-- With neither LOADING nor FAULT the CUT output is driven by the enforcement state alone (R147). -/
theorem cutCondition_of_plans {s : State} (h : s.life.state.plans = true) : s.cutCondition = s.cutFlag := by
  unfold State.cutCondition
  cases hs : s.life.state <;> simp_all [StationState.plans]

/-! ### DEMAND (R169) -/

theorem gate_demand {s : State} (h : DemandTaken s) : s.gate .demand = none := by
  obtain ⟨h1, h2, h3⟩ := h
  unfold State.gate
  cases hs : s.life.state <;> simp_all [runningGate]

/-- The state a new host demand brings before it is handed on (R1, R131, R133). -/
def hostDemandSet (v : Current) (s : State) : State :=
  { s with
    planner := { s.planner with claim := { s.planner.claim with hostDemand := v } }
    meter := { s.meter with trim := none, watch := none } }

theorem setHostDemand_same {v : Current} {s : State} (h : v = s.planner.claim.hostDemand) : setHostDemand v s = s := if_pos h

theorem setHostDemand_changed {v : Current} {s : State} (h : v ≠ s.planner.claim.hostDemand) :
    setHostDemand v s = commitDemand s (hostDemandSet v s) := if_neg h

/-- DEMAND with the port free: the value is judged by the held configuration, then set (R169). -/
theorem exec_demand {t : Time} {v1 v0 : Byte} {s : State} (hp : PortFree s) (hd : DemandTaken s) :
    exec (.demand t [v1, v0]) s =
      if s.params.acceptsDemand (word16 v1 v0).toNat then .next (answered ⟨0x02#8, [v1, v0]⟩ .ok []
        (setHostDemand (word16 v1 v0).toNat (endHostFrame (s.atTime t))))
      else .next (answered ⟨0x02#8, [v1, v0]⟩ .range [] (s.atTime t)) := by
  have hexec := exec_row_taken (c := .demand) (t := t) (p := [v1, v0]) hp (by simp) (gate_demand hd) rfl (by decide)
  have hparams : (endHostFrame (s.atTime t)).params = s.params := params_congr rfl
  have hact : act .demand [v1, v0] (endHostFrame (s.atTime t)) = if s.params.acceptsDemand (word16 v1 v0).toNat then
      okWith (setHostDemand (word16 v1 v0).toNat (endHostFrame (s.atTime t)))
    else refuse .range (endHostFrame (s.atTime t)) := by rw [← hparams]; rfl
  rw [hact] at hexec
  refine hexec.trans ?_
  split <;> rfl

theorem cutOrCooling_iff (e : EnfState) : e.cutOrCooling = true ↔ e = .cut ∨ e = .cooling := by
  cases e <;> simp [EnfState.cutOrCooling]

theorem demandFormed_hostDemandSet (v : Current) (s : State) : (hostDemandSet v s).demandFormed =
    if s.enf.state = .cut ∨ s.enf.state = .cooling then 0 else v := by
  simp only [← cutOrCooling_iff]
  rfl

/-! ### CLEAR CUT and the return from COOLING (R145, R146) -/

theorem exec_clearCut {t : Time} {s : State} (hp : PortFree s) (hg : s.gate .clearCut = none) :
    exec (.clearCut t []) s = .next (answered ⟨0x07#8, []⟩ (actClearCut (endHostFrame (s.atTime t))).status
      (actClearCut (endHostFrame (s.atTime t))).payload (actClearCut (endHostFrame (s.atTime t))).after) :=
  exec_row_taken (c := .clearCut) hp (by simp) hg rfl (by decide)

theorem actClearCut_of_cut {s : State} (h : s.enf.state = .cut) :
    actClearCut s = okWith (noteCut (setEnf .cooling { s with enf := { s.enf with
      recovery := .running (s.now + s.params.recoveryHold * Config.sec) } })) := by
  unfold actClearCut
  rw [h]

theorem actClearCut_elsewhere {s : State} (h : s.enf.state ≠ .cut) : actClearCut s = refuse .state s := by
  unfold actClearCut
  split <;> simp_all

theorem mem_enterNote (n : Notification) (q : List Notification) : n ∈ enterNote n q := by
  unfold enterNote
  split
  · next h =>
    obtain ⟨m, hm, hkind⟩ := List.any_eq_true.mp h
    exact List.mem_map.mpr ⟨m, hm, if_pos (by simpa using hkind)⟩
  · split <;> simp

/-- The CUT notification last raised stands in the queue (R148). -/
theorem noteCut_mem (s : State) : Notification.cut s.enf.state s.cutOutput ∈ (noteCut s).host.queue := mem_enterNote _ _

/-- The enforcement states CUT and COOLING assert the output (R147). -/
theorem setEnf_of_cutOrCooling {e : EnfState} {s : State} (h : e.cutOrCooling = true) :
    setEnf e s = { s with cutOutput := true, enf := { s.enf with state := e } } := by
  simp [setEnf, driveCut, State.cutCondition, State.cutFlag, h]

theorem exec_recoveryTimerExpiry {d : Time} {s : State} (hr : s.restartInput = false) (hd : s.enf.recovery = .running d)
    (hcool : s.enf.state = .cooling) : exec .recoveryTimerExpiry s = .next (leaveCooling (s.atTime d)) := by
  have hcooling : onlyIf (fun s => decide (s.enf.state = .cooling)) leaveCooling (s.atTime d) = leaveCooling (s.atTime d) :=
    onlyIf_holds (by simp [hcool])
  simp only [exec, execRecoveryTimerExpiry, hd, EnfTimer.due]
  exact (expire_released hr).trans (congrArg _ hcooling)

/-- The state at the return from COOLING before the demand is formed (R146). -/
def coolingLeft (s : State) : State := setEnf .clear { s with enf := { s.enf with recovery := .stopped } }

theorem leaveCooling_eq (s : State) : leaveCooling s = noteCut (commitDemand s (coolingLeft s)) := rfl

theorem coolingLeft_frame (s : State) :
    coolingLeft s = { s with cutOutput := (coolingLeft s).cutOutput, enf := { s.enf with state := .clear, recovery := .stopped } } := rfl

/-- The output is released at the return from COOLING (R146, R147). -/
theorem leaveCooling_cutOutput {s : State} (h : (commitDemand s (coolingLeft s)).life.state.plans = true) :
    (commitDemand s (coolingLeft s)).cutOutput = false := by
  have hcut : CutLaw (commitDemand s (coolingLeft s)) :=
    (commitDemand_changes s _).keep (fun _ _ => Change.cutLaw) (s := coolingLeft s) rfl
  rw [hcut, cutCondition_of_plans h]
  simp [State.cutFlag, coolingLeft, EnfState.cutOrCooling]

/-! ### The entry into CUT (R144) -/

theorem exec_overdrawTimerExpiry {d : Time} {s : State} (hr : s.restartInput = false) (hd : s.enf.overdraw = .running d)
    (hover : s.enf.state = .over) : exec .overdrawTimerExpiry s = .next (enterCut (s.atTime d)) := by
  have hholds : onlyIf (fun s => decide (s.enf.state = .over)) enterCut (s.atTime d) = enterCut (s.atTime d) :=
    onlyIf_holds (by simp [hover])
  simp only [exec, execOverdrawTimerExpiry, hd, EnfTimer.due]
  exact (expire_released hr).trans (congrArg _ hholds)

/-- The state at the entry into CUT before the demand is formed (R144). -/
def cutEntered (s : State) : State :=
  { s with
    cutOutput := true
    enf := { s.enf with state := .cut, overdraw := .stopped }
    meter := { s.meter with trim := none, watch := none } }

theorem enterCut_eq (s : State) : enterCut s = noteCut (commitDemand s (cutEntered s)) := by
  unfold enterCut
  rw [setEnf_of_cutOrCooling rfl]
  rfl

theorem demandFormed_cutEntered (s : State) : (cutEntered s).demandFormed = 0 := rfl

theorem commitDemand_cutEntered_cutOutput (s : State) : (commitDemand s (cutEntered s)).cutOutput = true := by
  have hlaw : CutLaw (cutEntered s) := by simp [CutLaw, cutEntered, State.cutCondition, State.cutFlag, EnfState.cutOrCooling]
  have hcut : CutLaw (commitDemand s (cutEntered s)) := (commitDemand_changes s _).keep (fun _ _ => Change.cutLaw) hlaw
  rw [hcut]
  simp [State.cutCondition, State.cutFlag, cutEntered, EnfState.cutOrCooling]

/-- In CUT no grant is left in ACTIVE and JOINING: our share is at most the demand, which is 0 (R13, R54). -/
theorem DemandChanges.grant_zero {s m : State} (h : DemandChanges s m) (hzero : m.demandFormed = 0)
    (hst : m.life.state = .active ∨ m.life.state = .joining) (hroster : RosterLaw m) : (commitDemand s m).grantCtl.grant = 0 := by
  obtain ⟨hplanner, -, -, -⟩ := h.commitDemand_writes
  have hentries : EntriesLaw m := ⟨hroster, fun hl => by rcases hst with hst | hst <;> simp [hst] at hl⟩
  have heffective := commitDemand_effective s m
  have hshare : OwnShareLaw (commitDemand s m) :=
    ownShareLaw_of_planNow ((commitDemand_changes s m).rosterLaw hentries) (.inl (heffective.trans hzero))
      (congrArg SharePlanner.plan hplanner) rfl rfl
  have hle : (commitDemand s m).ownShare ≤ 0 := hshare.trans (heffective.trans hzero).le
  rw [h.grant_eq, if_pos hst]
  exact Nat.le_zero.mp ((Nat.min_le_right _ _).trans hle)

/-! ### The end of the shed hold (R63) -/

/-- The state at the end of the shed hold before it is handed on (R63, R64). -/
def shedEnded (s : State) : State :=
  raiseNote (.shed 0 false) { s with grantCtl := { s.grantCtl with deficit := 0, shedHold := none } }

theorem exec_shedHoldExpiry {d : Time} {s : State} (hr : s.restartInput = false) (hd : s.grantCtl.shedHold = some d) :
    exec .shedHoldExpiry s = .next (commit (s.atTime d) (shedEnded (s.atTime d))) := by
  simp only [exec, execShedHoldExpiry, hd]
  exact expire_released hr

/-- A deficit that ends is handed on as a change of the plan alone. -/
theorem commit_shedEnded {s : State} (h : s.grantCtl.deficit ≠ 0) : commit s (shedEnded s) = handOn false true (shedEnded s) := by
  have hdig : digestChanged s (shedEnded s) = false := digestChanged_eq_false.mpr ⟨rfl, rfl⟩
  have hpln : planInputChanged s (shedEnded s) = true := by
    simp [planInputChanged, shedEnded, h]
  unfold commit
  rw [hdig, hpln]

end Sys2Proof.Machine

section
open Sys2Proof Sys2Proof.Machine Sys2Proof.Safety Sys2Proof.Claims

/-- Settles O18: CLEAR CUT by the enforcement state, and the return from COOLING by whether the demand changes. -/
theorem clearCutCoolsAndRecoveryClears : Obligations.ClearCutCoolsAndRecoveryClears := by
  refine ⟨fun t s hp hg => ⟨fun hcut => ?_, fun hcut => ?_⟩, fun d s hr hd hcool htrim hplans => ?_⟩
  · rw [exec_clearCut hp hg, actClearCut_of_cut (s := endHostFrame (s.atTime t)) hcut, setEnf_of_cutOrCooling rfl]
    rfl
  · rw [exec_clearCut hp hg, actClearCut_elsewhere (s := endHostFrame (s.atTime t)) hcut]
    rfl
  · have hformed : (coolingLeft (s.atTime d)).demandFormed = s.planner.claim.hostDemand := by
      simp [State.demandFormed, coolingLeft, EnfState.cutOrCooling, htrim]
    have hnote := noteCut_mem (commitDemand (s.atTime d) (coolingLeft (s.atTime d)))
    have hslots := commitDemand_slotsKept (s.atTime d) (coolingLeft (s.atTime d))
    have henf : (commitDemand (s.atTime d) (coolingLeft (s.atTime d))).enf =
        { s.enf with state := .clear, recovery := .stopped } := by simp [coolingLeft, setEnf, driveCut]
    refine ⟨_, exec_recoveryTimerExpiry hr hd hcool, ?_⟩
    rw [leaveCooling_eq]
    by_cases hsame : s.planner.claim.hostDemand = s.planner.claim.effectiveDemand
    · have hwhole : commitDemand (s.atTime d) (coolingLeft (s.atTime d)) = coolingLeft (s.atTime d) :=
        commitDemand_same rfl rfl rfl rfl rfl (hformed.trans hsame)
      have hcut := leaveCooling_cutOutput (s := s.atTime d) (by rw [hwhole]; exact hplans)
      rw [hwhole] at hcut hnote ⊢
      rw [hcut] at hnote
      exact ⟨rfl, hcut, rfl, hnote, hsame.symm, fun hne => absurd hsame hne, fun _ => ⟨rfl, rfl⟩, rfl, rfl, rfl, rfl,
        ⟨rfl, rfl, ⟨rfl, rfl, rfl⟩, rfl, rfl, rfl⟩, slotsKept_of_sched rfl, rfl⟩
    · have hchanges : DemandChanges (s.atTime d) (coolingLeft (s.atTime d)) :=
        ⟨fun h => hsame (hformed.symm.trans h), rfl, rfl, hplans⟩
      have hcut := leaveCooling_cutOutput hchanges.commitDemand_plans
      obtain ⟨hplanner, -, -, -⟩ := hchanges.commitDemand_writes
      have hgrant := hchanges.grant_eq
      have hlife : (coolingLeft (s.atTime d)).life = s.life := rfl
      rw [hformed, hlife] at hgrant
      rw [henf, hcut] at hnote
      refine ⟨henf, hcut, rfl, hnote, (commitDemand_effective _ _).trans hformed, fun _ => ⟨congrArg (fun p => p.claim.serial) hplanner,
        congrArg SharePlanner.digest hplanner, congrArg SharePlanner.plan hplanner, fun hst => ?_, fun hst hph => ?_⟩,
        fun h => absurd h hsame, by simp [coolingLeft], by simp [coolingLeft], by simp [coolingLeft], by simp [coolingLeft],
        by simp [Apart, PortKept, coolingLeft], hslots, by simp [coolingLeft]⟩
      · rw [hst] at hgrant
        exact hgrant
      · rw [hst, hph] at hgrant
        exact hgrant

/-- Settles O48: the entry into CUT by whether a demand stood. -/
theorem overdrawExpiryCuts : Obligations.OverdrawExpiryCuts := by
  intro d s hr hd hover
  refine ⟨_, exec_overdrawTimerExpiry hr hd hover, ?_⟩
  rw [enterCut_eq]
  have hcut := commitDemand_cutEntered_cutOutput (s.atTime d)
  have henf : (commitDemand (s.atTime d) (cutEntered (s.atTime d))).enf =
      { s.enf with state := .cut, overdraw := .stopped } := by simp [cutEntered]
  have hnote := noteCut_mem (commitDemand (s.atTime d) (cutEntered (s.atTime d)))
  rw [henf, hcut] at hnote
  have hchanges : s.planner.claim.effectiveDemand ≠ 0 → s.life.state.plans = true →
      DemandChanges (s.atTime d) (cutEntered (s.atTime d)) := fun hne hplans => ⟨fun h => hne h.symm, rfl, rfl, hplans⟩
  refine ⟨henf, hcut, rfl, hnote, by simp [cutEntered], commitDemand_effective _ _, by simp [cutEntered], fun hzero => ?_,
    fun hne hplans => ?_, fun hne hst hroster => ?_, fun hst hph hne => ?_, by simp [cutEntered], by simp [cutEntered],
    by simp [cutEntered], ?_, commitDemand_slotsKept (s.atTime d) (cutEntered (s.atTime d)), by simp [cutEntered]⟩
  · rw [commitDemand_same (s := s.atTime d) (m := cutEntered (s.atTime d)) rfl rfl rfl rfl rfl hzero.symm]
    exact ⟨rfl, rfl, rfl, rfl, rfl⟩
  · obtain ⟨hplanner, -, -, -⟩ := (hchanges hne hplans).commitDemand_writes
    exact ⟨congrArg (fun p => p.claim.serial) hplanner, congrArg SharePlanner.digest hplanner,
      congrArg SharePlanner.plan hplanner, fun hp => (hchanges hne hplans).status_stands hp⟩
  · have hplans : s.life.state.plans = true := by rcases hst with hst | hst <;> rw [hst] <;> rfl
    exact (hchanges hne hplans).grant_zero rfl hst hroster
  · have hgrant := (hchanges hne (by rw [hst]; rfl)).grant_eq
    have hlife : (cutEntered (s.atTime d)).life = s.life := rfl
    rw [demandFormed_cutEntered, hlife] at hgrant
    rcases hph with hph | hph <;> simpa [hst, hph] using hgrant
  · simp [Apart, PortKept, cutEntered]

/-- Settles O41: the end of the shed hold, by whether a deficit stood. -/
theorem shedHoldExpiryReturnsTheHeadroom : Obligations.ShedHoldExpiryReturnsTheHeadroom := by
  intro d s hr hd
  rw [exec_shedHoldExpiry hr hd]
  refine ⟨fun hzero => ?_, fun hne => ?_⟩
  · have hshed : { s.atTime d with grantCtl := { s.grantCtl with deficit := 0, shedHold := none } } =
        { s.atTime d with grantCtl := { s.grantCtl with shedHold := none } } := by rw [← hzero]
    rw [commit_same (s := s.atTime d) (m := shedEnded (s.atTime d)) rfl rfl rfl rfl hzero.symm]
    exact congrArg _ (congrArg _ hshed)
  · rw [commit_shedEnded (s := s.atTime d) hne]
    have hnoted := handOn_grantNoted false true (shedEnded (s.atTime d))
    have hplan := handOn_plan false true (shedEnded (s.atTime d))
    have hhold := handOn_raiseHold false true (shedEnded (s.atTime d))
    have hslots := handOn_slotsKept false true (shedEnded (s.atTime d))
    have hroster := handOn_roster false true (shedEnded (s.atTime d))
    have hnow := handOn_planNow false true (shedEnded (s.atTime d))
    refine ⟨_, rfl, by simp [shedEnded], by simp [shedEnded], handOn_attention_kept rfl, hnoted, fun hplans => ?_, fun hplans => ?_,
      fun p hplans hp hgrown => ?_, by simp [shedEnded], hroster, by simp [shedEnded], by simp [shedEnded],
      by simp [shedEnded], by simp [shedEnded], by simp [shedEnded], by simp [shedEnded],
      by simp [Apart, PortKept, shedEnded], hslots, by simp [shedEnded]⟩
    · refine SharePlanner.ext (by simp [shedEnded]) (hplan.trans ?_) (by simp [handOn_digest, shedEnded])
      rw [hnow]
      exact if_pos hplans
    · refine SharePlanner.ext (by simp [shedEnded]) (hplan.trans (if_neg ?_)) (by simp [handOn_digest, shedEnded])
      simpa [shedEnded] using hplans
    · have hlarger : increases s.planner.plan (shedEnded (s.atTime d)).planNow = true := by
        rw [hp, ← hnow]
        exact (Bool.or_eq_true _ _).mpr (hgrown.imp (fun h => decide_eq_true h) fun h => decide_eq_true h)
      refine hhold.trans (if_pos ?_)
      have hst : (shedEnded (s.atTime d)).life.state.plans = true := hplans
      rw [hst]
      exact hlarger

/-- Settles O17: the value is judged; a new one is set, and a changed demand is handed on. -/
theorem demandSetsTheClaim : Obligations.DemandSetsTheClaim := by
  intro t v1 v0 s hp hd c v e
  have hexec := exec_demand (t := t) (v1 := v1) (v0 := v0) hp hd
  refine ⟨fun hne hout => ?_, fun hin heq => ?_, fun hin hne he => ?_, fun hin hne he hset => ?_⟩
  · have hrange : s.params.acceptsDemand (word16 v1 v0).toNat = false := by
      simp only [Params.acceptsDemand, decide_eq_false_iff_not, not_or, not_and_or, Nat.not_le]
      exact ⟨hne, hout⟩
    rw [hexec, if_neg (by simp [hrange])]
  all_goals
    have haccepts : s.params.acceptsDemand (word16 v1 v0).toNat = true := by simpa [Params.acceptsDemand] using hin
    rw [if_pos haccepts] at hexec
  · rw [hexec, setHostDemand_same (s := endHostFrame (s.atTime t)) heq]
    rfl
  all_goals
    rw [setHostDemand_changed (s := endHostFrame (s.atTime t)) hne] at hexec
    have hformed := demandFormed_hostDemandSet (word16 v1 v0).toNat (endHostFrame (s.atTime t))
  · rw [hexec, commitDemand_same (s := endHostFrame (s.atTime t))
      (m := hostDemandSet (word16 v1 v0).toNat (endHostFrame (s.atTime t))) rfl rfl rfl rfl rfl (hformed.trans he)]
    rfl
  · have hchanges : DemandChanges (endHostFrame (s.atTime t)) (hostDemandSet (word16 v1 v0).toNat (endHostFrame (s.atTime t))) :=
      ⟨fun h => he (hformed.symm.trans h), rfl, rfl, plans_of_demandTaken hd⟩
    obtain ⟨hplanner, hroster, hhold, hsettled⟩ := hchanges.commitDemand_writes
    obtain ⟨hlife, hcut⟩ := hchanges.commitDemand_keeps (hset hd.1 hd.2.2)
    obtain ⟨hs1, hs2, hs3, hs4, hs5, -⟩ := commitDemand_slotsKept (endHostFrame (s.atTime t))
      (hostDemandSet (word16 v1 v0).toNat (endHostFrame (s.atTime t)))
    have hgrant := hchanges.grant_eq
    rw [hformed] at hplanner hgrant
    refine ⟨_, hexec, hplanner, ?_, hroster, hhold, hsettled, ?_, ?_, fun h => hchanges.status_stands h, hgrant, hlife, ?_⟩
    iterate 3 simp [hostDemandSet]
    refine ⟨by simp [hostDemandSet], by simp [hostDemandSet], by simp [hostDemandSet], by simp [hostDemandSet], hcut,
      by simp [hostDemandSet], by simp [hostDemandSet], by simp [hostDemandSet], by simp [PortKept, hostDemandSet],
      by simp [hostDemandSet], hs1, hs2, hs3, hs4, hs5, by simp [hostDemandSet]⟩

end
end

section
/-! The first entry into LISTENING, at the end of a load (R157). -/

namespace Sys2Proof.Machine

open Sys2Proof.Safety Sys2Proof.Claims

/-! ### A plan of our own row alone (R14) -/

/-- With an empty roster and a demand of 0 the pool is divided among no claimant. -/
theorem divide_own_idle (pool : Current) (n : Station) (pr : Fin 4) (mn : Current) :
    divide pool [claimRow n pr mn 0] = ([claimRow n pr mn 0], pool) := by
  simp [divide, floorWalk, claimRow, fillRounds, Row.unfilled, Row.close]

/-- The plan of a station alone, with no demand, no deficit and no estimate. -/
theorem planNow_alone {s : State} (hroster : s.roster.entries = []) (hdemand : s.planner.claim.effectiveDemand = 0)
    (hdeficit : s.grantCtl.deficit = 0) (hestimate : s.meter.estimate = none) : s.planNow =
      { rows := [claimRow s.ownStation s.planner.claim.priority s.planner.claim.min 0]
        pool := s.params.feederLimit - s.params.reserve, remainder := s.params.feederLimit - s.params.reserve
        headroom := s.params.feederLimit - s.params.reserve, umax := 0, deficit := 0 } := by
  have hown : s.ownEstimate = none := by simp [State.ownEstimate, hestimate]
  have humax : s.umax = 0 := by simp [State.umax, hroster, hown]
  have hheadroom : s.headroom = s.params.feederLimit - s.params.reserve := by simp [State.headroom, humax, hdeficit]
  have hpool : s.pool = s.params.feederLimit - s.params.reserve := by
    simp [State.pool, State.reserved, hroster, hheadroom]
  have hrows : s.claimRows = [claimRow s.ownStation s.planner.claim.priority s.planner.claim.min 0] := by
    simp [State.claimRows, hroster, sortRows, insertRow, OwnClaim.row, hdemand]
  simp [State.planNow, hrows, hpool, hheadroom, humax, hdeficit, divide_own_idle]

/-! ### A hand-off in LISTENING with an empty roster -/

/-- Digest and plan are computed and the raise hold runs in full; no request is taken and no grant compared (R17, R58,
R105). -/
theorem handOn_listening {s : State} (hst : s.life.state = .listening) (hroster : s.roster.entries = []) :
    handOn true true s = { s with
      planner := { s.planner with digest := s.digestNow, plan := some s.planNow }
      grantCtl := { s.grantCtl with raiseHold := .running (s.now + s.params.raiseHold * Config.sec) } } := by
  have hplans : s.life.state.plans = true := by rw [hst]; rfl
  have hcleared : clearConfirmations (replacePlan (recomputeDigest s)) = replacePlan (recomputeDigest s) := by
    have hentries : (replacePlan (recomputeDigest s)).roster.entries = [] := hroster
    unfold clearConfirmations
    rw [hentries, List.map_nil, ← hentries]
  have htaken : takeDigestChange (replacePlan (recomputeDigest s)) = restartRaiseHold (replacePlan (recomputeDigest s)) := by
    unfold takeDigestChange
    rw [hcleared]
    exact raiseRequest_discarded (by simp [hst, StationState.accepts, StationState.participates])
  have hhanded : handed true true s = restartRaiseHold (replacePlan (recomputeDigest s)) := by
    have hstate : (recomputeDigest s).life.state.plans = true := hplans
    unfold handed
    simp only [if_true, hstate, Bool.and_self, Bool.true_and, htaken]
    split <;> rfl
  rw [handOn_eq, hplans, Bool.and_self, if_pos rfl, takeShare_elsewhere (by simp [hst]) (by simp [hst]), hhanded]
  rfl

/-! ### The end of a load (R157) -/

/-- The Loader with the image held, at a moment. -/
def Loader.held (l : Loader) (img : List Byte) (now : Time) : Loader :=
  { l with
    stage := .held, readStep := .idle, heldCopy := some img, networkDigest := some (networkDigestOf img), reason := .none
    reverify := some (now + Config.reverifyPeriod) }

/-- The state at the first entry into LISTENING, before the first digest and plan. -/
def firstListening (img : List Byte) (s : State) : State :=
  startTimers (enterListening (takeStationRecord (paramsOf img) (placeImage img s)))

/-- Its values, where `s` stands at the values of LOADING. -/
theorem firstListening_eq (img : List Byte) {s : State} (h : Resting s) : firstListening img s =
    raiseNote (.stationState .listening .none .held) { s with
      cutOutput := false
      planner := { s.planner with claim := { s.planner.claim with
        priority := Fin.ofNat 4 (paramsOf img).priority, min := (paramsOf img).min, max := (paramsOf img).max } }
      life := { s.life with
        state := .listening, phase := .none, listen := some (s.now + Config.listenCycles * (paramsOf img).cyclePeriod)
        cycle := some (s.now + (paramsOf img).cyclePeriod), tClean := some s.now, tAny := some s.now }
      meter := { s.meter with update := some (s.now + Config.updatePeriod) }
      loader := s.loader.held img s.now } := by
  unfold firstListening
  rw [enterListening_of_zero (by simp [h.loading]) (by simp [h.2.2.2.2.1, State.reset, GrantController.initial])]
  obtain ⟨now, pending, restartInput, cutOutput, attention, bus, sched, roster, planner, grantCtl, life, meter, enf, link,
    loader, host⟩ := s
  obtain ⟨rfl, rfl, rfl, rfl, rfl, rfl, rfl, rfl, rfl⟩ := h
  rfl

/-- What a rate that is set, or that waits, leaves to the image (R157). -/
def rateChosen (img : List Byte) (replyFollows : Bool) (s : State) : State :=
  if replyFollows then { s with loader := { s.loader with rateDue := some (lineRateOf (paramsOf img).lineRate) } }
  else setRate (lineRateOf (paramsOf img).lineRate) s

theorem imageHeld_eq (img : List Byte) (replyFollows : Bool) (s : State) : imageHeld img replyFollows s =
    evalSettled (handOn true true (firstListening img (rateChosen img replyFollows s))) := by
  unfold imageHeld rateChosen firstListening
  cases replyFollows
  · simp only [Bool.false_eq_true, if_false, setRate_placeImage]
  · rfl

/-- The values with which LISTENING is entered for the first time. -/
theorem firstListening_imageHeld (img : List Byte) {s : State} (h : Resting s) :
    ImageHeld img s.loader.lineRate s.loader.rateDue s (evalSettled (handOn true true (firstListening img s))) := by
  have heq := firstListening_eq img h
  obtain ⟨-, -, hroster, hplanner, hgrantCtl, -, hmeter, -, -⟩ := h
  generalize hv : firstListening img s = v at heq
  have hst : v.life.state = .listening := by rw [heq]; rfl
  have hentries : v.roster.entries = [] := by rw [heq]; exact congrArg RosterUnit.entries hroster
  have hsettled : v.settledCondition = true := by
    have : v.roster = RosterUnit.initial := by rw [heq]; exact hroster
    rw [State.settledCondition, this]
    rfl
  have hparams : v.params = paramsOf img := by rw [heq]; rfl
  have hown : v.ownStation = Fin.ofNat 64 (paramsOf img).station := by unfold State.ownStation; rw [hparams]
  have hplan := planNow_alone (s := v) hentries (by rw [heq]; exact congrArg (fun p => p.claim.effectiveDemand) hplanner)
    (by rw [heq]; exact congrArg GrantController.deficit hgrantCtl) (by rw [heq]; exact congrArg Meter.estimate hmeter)
  have hdigest : v.digestNow = crc16 (digestElement v.ownStation .live v.planner.claim.serial) := by
    unfold State.digestNow
    rw [hentries]
    rfl
  rw [handOn_listening hst hentries, evalSettled_elsewhere (by simp [hst]) (by simp [hst]), hplan, hdigest, hparams, hown]
  subst heq
  refine ⟨rfl, rfl, rfl, ?_, ?_, rfl, rfl, rfl, rfl, rfl, rfl, rfl, rfl, rfl, rfl, rfl, rfl, rfl, rfl⟩
  · simp only [raiseNote_frame, hplanner]
    rfl
  · exact GrantController.ext rfl hsettled rfl rfl rfl

/-- The line rate of the image takes effect at once, or waits for the reply (R157). -/
theorem imageHeld_imageHeld (img : List Byte) (replyFollows : Bool) {s : State} (h : Resting s) :
    ImageHeld img (if replyFollows then s.loader.lineRate else lineRateOf (paramsOf img).lineRate)
      (if replyFollows then some (lineRateOf (paramsOf img).lineRate) else none) s (imageHeld img replyFollows s) := by
  rw [imageHeld_eq]
  cases replyFollows with
  | true => exact firstListening_imageHeld (s := rateChosen img true s) img h
  | false =>
    have hheld := firstListening_imageHeld (s := setRate (lineRateOf (paramsOf img).lineRate) s) img (h.setRate _)
    have hrate : ∀ r, (setRate r s).loader = { s.loader with lineRate := r, rateDue := none } := fun r => by
      refine Loader.ext ?_ ?_ ?_ ?_ ?_ ?_ ?_ rfl rfl <;> simp
    unfold ImageHeld at hheld ⊢
    simp only [setRate_frame, hrate] at hheld
    exact hheld

theorem endLoad_valid {img : List Byte} {replyFollows : Bool} {s : State} (h : judgeImage img = .none) :
    endLoad img replyFollows s = imageHeld img replyFollows s := by
  unfold endLoad
  rw [h]

end Sys2Proof.Machine

section
open Sys2Proof Sys2Proof.Machine Sys2Proof.Safety Sys2Proof.Claims

/-- Settles O5: the three ways a valid image comes in. -/
theorem validImageEndsTheLoadInListening : Obligations.ValidImageEndsTheLoadInListening := by
  refine ⟨fun t b0 b1 rest s hr hst hlaw hstage hstep hlen hvalid hidle => ?_,
    fun t b0 b1 rest s hr hst hlaw hstage hstep hlen hvalid hbusy => ?_, fun t img s hp hst hlaw hstage hlen hvalid => ?_⟩
  · rw [exec_imageRead hr hst hstage hstep hlen, hidle, endLoad_valid hvalid]
    exact ⟨_, rfl, imageHeld_imageHeld _ false (s := s.atTime t) (hlaw hst)⟩
  · have hreply : s.host.inProgress.isSome = true := Option.isSome_iff_ne_none.mpr hbusy
    rw [exec_imageRead hr hst hstage hstep hlen, hreply, endLoad_valid hvalid]
    exact ⟨_, rfl, imageHeld_imageHeld _ true (s := s.atTime t) (hlaw hst)⟩
  · have hheld := imageHeld_imageHeld img true (s := endHostFrame (s.atTime t)) (hlaw hst)
    rw [exec_config hp hst hstage hlen, endLoad_valid hvalid]
    refine ⟨_, ?_, hheld⟩
    obtain ⟨hloader, hlife, -⟩ := hheld
    rw [hlife, hloader]
    rfl

end
end

section
/-! The notification queue by kinds, and the bits at which the bus becomes idle. -/

namespace Sys2Proof.Machine

open Sys2Proof.Safety Sys2Proof.Claims

/-! ### The queue by kinds (R176) -/

theorem any_kind_eq_false {n : Notification} {q : List Notification} (h : ∀ x ∈ q, x.kindCode ≠ n.kindCode) :
    q.any (fun m => m.kindCode == n.kindCode) = false := by simpa using h

/-- Where no other notification is of the kind, the one that is gives its place (R176). -/
theorem enterNote_in_place {n m : Notification} {front rest : List Notification} (hm : m.kindCode = n.kindCode)
    (hfront : ∀ x ∈ front, x.kindCode ≠ n.kindCode) (hrest : ∀ x ∈ rest, x.kindCode ≠ n.kindCode) :
    enterNote n (front ++ m :: rest) = front ++ n :: rest := by
  have hkeep : ∀ l : List Notification, (∀ x ∈ l, x.kindCode ≠ n.kindCode) →
      l.map (fun x => if x.kindCode = n.kindCode then n else x) = l := fun l hl =>
    (List.map_congr_left fun x hx => if_neg (hl x hx)).trans (List.map_id l)
  have hany : (front ++ m :: rest).any (fun x => x.kindCode == n.kindCode) = true := by simp [hm]
  unfold enterNote
  rw [if_pos hany, List.map_append, List.map_cons, hkeep front hfront, hkeep rest hrest, if_pos hm]

theorem enterNote_full {n m : Notification} {rest : List Notification} (hkind : ∀ x ∈ m :: rest, x.kindCode ≠ n.kindCode)
    (hlen : (m :: rest).length = Config.queueCapacity) : enterNote n (m :: rest) = rest ++ [n] := by
  unfold enterNote
  rw [if_neg (by rw [any_kind_eq_false hkind]; decide), if_neg (by omega)]
  rfl

/-- The others of a queue with one of each kind are of other kinds. -/
theorem kinds_around {m : Notification} {front rest : List Notification}
    (h : ((front ++ m :: rest).map Notification.kindCode).Nodup) :
    (∀ x ∈ front, x.kindCode ≠ m.kindCode) ∧ (∀ x ∈ rest, x.kindCode ≠ m.kindCode) := by
  rw [List.map_append, List.map_cons] at h
  obtain ⟨-, hrest, happart⟩ := List.nodup_append.mp h
  exact ⟨fun x hx => happart _ (List.mem_map_of_mem hx) _ List.mem_cons_self,
    fun x hx heq => (List.nodup_cons.mp hrest).1 (heq ▸ List.mem_map_of_mem hx)⟩

/-! ### The bits at which the bus becomes idle (R88, R100) -/

/-- We drive no slot from here to the end of the frame. -/
def Trailer.silentFrom (t : Trailer) (left : Nat) : Prop := ∀ l ≤ left, t.drives l = false

theorem silentFrom_of_neither (left : Nat) : Trailer.neither.silentFrom left := fun _ _ => rfl

theorem silentFrom_of_le {t : Trailer} {left : Nat} (h : left ≤ 8) : t.silentFrom left := by
  intro l hl
  cases t with
  | neither => rfl
  | accept => exact decide_eq_false (by simp only [Config.slotBits, Config.endBits]; omega)
  | refuse => exact decide_eq_false (by simp only [Config.endBits]; omega)

theorem silentFrom_accept {left : Nat} (h : left ≤ 9) : Trailer.accept.silentFrom left := fun l hl =>
  decide_eq_false (by simp only [Config.slotBits, Config.endBits]; omega)

/-- How many recessive bits in a row bring the idle bus. -/
def idleLeast (count left : Nat) : Nat := max (max 1 left) (10 - count)

/-- Fewer recessive bits do not bring the idle bus. -/
theorem idleAfter_replicate_short {t : Trailer} {n : Nat} : ∀ {count left : Nat}, t.silentFrom left →
    n < idleLeast count left → idleAfter t count left (List.replicate n true) = none := by
  induction n with
  | zero => exact fun _ _ => rfl
  | succ n ih =>
    intro count left hs hn
    simp only [idleLeast] at hn
    rw [List.replicate_succ, idleAfter_recessive (hs left le_rfl) (by simp only [Config.idleCount]; omega)]
    exact ih (fun l hl => hs l (by omega)) (by simp only [idleLeast]; omega)

/-- The last of so many recessive bits brings the idle bus. -/
theorem idleAfter_replicate {t : Trailer} {n : Nat} : ∀ {count left : Nat}, t.silentFrom left →
    n = idleLeast count left → idleAfter t count left (List.replicate n true) = some (count + n) := by
  induction n with
  | zero =>
    intro count left _ hn
    simp only [idleLeast] at hn
    omega
  | succ n ih =>
    intro count left hs hn
    simp only [idleLeast] at hn
    by_cases hlast : Config.idleCount ≤ count + 1 ∧ left ≤ 1
    · have hzero : n = 0 := by simp only [Config.idleCount] at hlast; omega
      subst hzero
      simp [idleAfter, hs left le_rfl, hlast]
    · rw [List.replicate_succ, idleAfter_recessive (hs left le_rfl) (by omega)]
      rw [ih (fun l hl => hs l (by omega)) (by simp only [idleLeast, Config.idleCount] at hlast ⊢; omega)]
      congr 1
      omega

/-- Bits before the last of the end field do not bring the idle bus. -/
theorem idleAfter_within_frame {t : Trailer} {rest : List Bool} (front : List Bool) : ∀ {count left : Nat},
    front.length < left → ∃ c, idleAfter t count left (front ++ rest) = idleAfter t c (left - front.length) rest := by
  induction front with
  | nil => exact fun _ => ⟨_, rfl⟩
  | cons b front ih =>
    intro count left hlen
    simp only [List.length_cons] at hlen
    obtain ⟨c, hc⟩ := ih (count := if b && !t.drives left then count + 1 else 0) (left := left - 1) (by omega)
    refine ⟨c, ?_⟩
    rw [List.cons_append, idleAfter]
    rw [if_neg (by omega), hc, List.length_cons, Nat.sub_sub, Nat.add_comm 1]

/-- Recessive bits outside a frame that stay below ten do not bring the idle bus. -/
theorem idleAfter_below_ten {t : Trailer} {rest : List Bool} {k : Nat} : ∀ {count : Nat}, count + k < 10 →
    idleAfter t count 0 (List.replicate k true ++ rest) = idleAfter t (count + k) 0 rest := by
  induction k with
  | zero => exact fun _ => rfl
  | succ k ih =>
    intro count hk
    rw [List.replicate_succ, List.cons_append,
      idleAfter_recessive (silentFrom_of_le (Nat.zero_le 8) 0 le_rfl) (.inl (by simp only [Config.idleCount]; omega)),
      ih (by omega)]
    congr 1
    omega

/-- A slot that we drive restarts the count (R98, R100). -/
theorem idleAfter_driven {t : Trailer} {count left : Nat} {b : Bool} {rest : List Bool} (h : t.drives left = true) :
    idleAfter t count left (b :: rest) = idleAfter t 0 (left - 1) rest := by simp [idleAfter, h, Config.idleCount]

/-- The bits reach a line that is free. -/
theorem exec_busIdle {t : Time} {bits : List Bool} {s : State} (hr : s.restartInput = false)
    (htakes : s.life.state.takesFrames = true) (ha : s.bus.attempt = none) (hg : s.bus.assembly.isGood = false)
    (hi : s.bus.idle = false) : exec (.busIdle ⟨t, bits⟩) s = .next (carryBits bits (s.atTime t)) := by
  have hfree : onlyIf State.lineFree (carryBits bits) (s.atTime t) = carryBits bits (s.atTime t) :=
    onlyIf_holds (by simp [State.lineFree, htakes, ha, hg, hi])
  exact (arrive_released hr).trans (congrArg _ hfree)

theorem carryBits_some {bits : List Bool} {n : Nat} {s : State}
    (h : idleAfter s.bus.trailer s.bus.recessive s.bus.endLeft bits = some n) : carryBits bits s = becomeIdle n s := by
  unfold carryBits
  rw [h]

theorem carryBits_none {bits : List Bool} {s : State}
    (h : idleAfter s.bus.trailer s.bus.recessive s.bus.endLeft bits = none) : carryBits bits s = s := by
  unfold carryBits
  rw [h]

end Sys2Proof.Machine

section
open Sys2Proof Sys2Proof.Machine Sys2Proof.Safety Sys2Proof.Claims

/-- Settles O51: the three branches of the entry, by what the queue holds. -/
theorem notificationsEnterByTheirKind : Obligations.NotificationsEnterByTheirKind := by
  intro n s hlaw u
  refine ⟨fun front m rest hq hm => ?_, fun hkind hlen => ?_, fun m rest hkind hlen hq => ?_, (raiseNote_notesLaw n hlaw).2, rfl⟩
  · obtain ⟨-, hkinds, -⟩ := hlaw
    rw [hq] at hkinds
    obtain ⟨hfront, hrest⟩ := kinds_around hkinds
    rw [hm] at hfront hrest
    have hany : s.host.queue.any (fun x => x.kindCode == n.kindCode) = true := by simp [hq, hm]
    have hqueue : enterNote n s.host.queue = front ++ n :: rest := by rw [hq, enterNote_in_place hm hfront hrest]
    simp [u, raiseNote, hqueue, discardsOldest, hany]
  · have hqueue := enterNote_of_kind_absent hkind hlen
    have hroom : ¬ Config.queueCapacity ≤ s.host.queue.length := by simp only [Config.queueCapacity]; omega
    simp [u, raiseNote, hqueue, discardsOldest, hroom]
  · have hqueue : enterNote n s.host.queue = rest ++ [n] := by
      rw [hq] at hkind hlen ⊢
      exact enterNote_full hkind hlen
    have hdiscards : discardsOldest n s.host.queue = true := by
      simp only [discardsOldest, any_kind_eq_false hkind, hlen]
      rfl
    simp [u, raiseNote, hqueue, hdiscards]

/-- Settles O20: the bits up to the idle bus in each case of our own slots, and the start bit. -/
theorem lineBecomesIdleAndAssembliesBegin : Obligations.LineBecomesIdleAndAssembliesBegin := by
  intro t s hr htakes ha
  refine ⟨fun hg hi => ?_, fun hi => ?_⟩
  · intro after least
    have hidle : ∀ {bits n}, idleAfter s.bus.trailer s.bus.recessive s.bus.endLeft bits = some n →
        exec (.busIdle ⟨t, bits⟩) s = .next (after n) := fun h =>
      (exec_busIdle hr htakes ha hg hi).trans (congrArg _ (carryBits_some (s := s.atTime t) h))
    have hnot : ∀ {bits}, idleAfter s.bus.trailer s.bus.recessive s.bus.endLeft bits = none →
        exec (.busIdle ⟨t, bits⟩) s = .next (s.atTime t) := fun h =>
      (exec_busIdle hr htakes ha hg hi).trans (congrArg _ (carryBits_none (s := s.atTime t) h))
    refine ⟨fun hquiet => ?_, fun k hleft hk => ?_, fun hleft htrailer => ?_, fun hleft htrailer => ?_⟩
    · have hsilent : s.bus.trailer.silentFrom s.bus.endLeft := by
        rcases hquiet with hquiet | hquiet
        · rw [hquiet]; exact silentFrom_of_neither _
        · exact silentFrom_of_le hquiet
      refine ⟨hidle (idleAfter_replicate hsilent rfl), fun n hn => hnot (idleAfter_replicate_short hsilent hn), ?_⟩
      intro front hfront n
      obtain ⟨c, hc⟩ := idleAfter_within_frame (t := s.bus.trailer) (count := s.bus.recessive)
        (rest := false :: List.replicate n true) front hfront
      refine hidle ?_
      rw [hc, idleAfter_dominant, idleAfter_replicate (fun l hl => hsilent l (by omega))
        (by simp only [idleLeast, n]; omega), Nat.zero_add]
    · refine hidle ?_
      rw [hleft, idleAfter_below_ten hk, idleAfter_dominant, idleAfter_replicate (silentFrom_of_le (by omega)) (by rfl)]
    · have hdrives : s.bus.trailer.drives s.bus.endLeft = true := by rw [hleft, htrailer]; rfl
      have hsilent : s.bus.trailer.silentFrom (s.bus.endLeft - 1) := by rw [hleft, htrailer]; exact silentFrom_accept le_rfl
      refine ⟨hidle ?_, fun n hn => hnot ?_⟩
      · rw [List.replicate_succ, idleAfter_driven hdrives, idleAfter_replicate hsilent (by rw [hleft]; rfl)]
      · cases n with
        | zero => rfl
        | succ n =>
          rw [List.replicate_succ, idleAfter_driven hdrives]
          exact idleAfter_replicate_short hsilent (by rw [hleft]; simp only [idleLeast]; omega)
    · have hfirst : s.bus.trailer.drives s.bus.endLeft = false := by rw [hleft, htrailer]; rfl
      have hsecond : s.bus.trailer.drives (s.bus.endLeft - 1) = true := by rw [hleft, htrailer]; rfl
      have hsilent : s.bus.trailer.silentFrom (s.bus.endLeft - 1 - 1) := silentFrom_of_le (by omega)
      refine ⟨hidle ?_, fun n hn => hnot ?_⟩
      · rw [List.replicate_succ, idleAfter_recessive hfirst (.inr (by omega)), List.replicate_succ,
          idleAfter_driven hsecond, idleAfter_replicate hsilent (by rw [hleft]; rfl)]
      · match n with
        | 0 => rfl
        | 1 =>
          rw [List.replicate_succ, idleAfter_recessive hfirst (.inr (by omega))]
          rfl
        | n + 2 =>
          rw [List.replicate_succ, idleAfter_recessive hfirst (.inr (by omega)), List.replicate_succ,
            idleAfter_driven hsecond]
          exact idleAfter_replicate_short hsilent (by rw [hleft]; simp only [idleLeast]; omega)
  · have hawaits : onlyIf State.awaitsStart beginAssembly (s.atTime t) = beginAssembly (s.atTime t) :=
      onlyIf_holds (by simp [State.awaitsStart, htakes, hi, ha])
    exact (arrive_released hr).trans (congrArg _ hawaits)

end
end

section
/-! The rows of a plan: their order, and the outcomes of a division (R7 to R12). -/

namespace Sys2Proof.Machine

open Sys2Proof.Safety Sys2Proof.Claims

/-! ### Claimant order (R8) -/

/-- Claimant order between two rows (R8). -/
def Row.Precedes (a b : Row) : Prop := b.priority < a.priority ∨ (a.priority = b.priority ∧ a.station < b.station)

theorem Row.before_iff (a b : Row) : a.before b = true ↔ a.Precedes b := by simp [Row.before, Row.Precedes]

theorem Row.Precedes.trans {a b c : Row} (h : a.Precedes b) (k : b.Precedes c) : a.Precedes c := by
  simp only [Row.Precedes, Fin.lt_def, Fin.ext_iff, ne_eq] at *
  omega

/-- Of two rows with different numbers one precedes the other. -/
theorem Row.precedes_of_not {a b : Row} (h : ¬ a.Precedes b) (hn : a.station ≠ b.station) : b.Precedes a := by
  simp only [Row.Precedes, Fin.lt_def, Fin.ext_iff, ne_eq] at *
  omega

theorem mem_insertRow {r x : Row} {rows : List Row} : x ∈ insertRow r rows ↔ x = r ∨ x ∈ rows := by
  rw [(insertRow_perm r rows).mem_iff, List.mem_cons]

theorem insertRow_pairwise {r : Row} {rows : List Row} (hrows : rows.Pairwise Row.Precedes)
    (hnew : ∀ x ∈ rows, r.station ≠ x.station) : (insertRow r rows).Pairwise Row.Precedes := by
  induction rows with
  | nil => exact List.pairwise_singleton _ _
  | cons x xs ih =>
    obtain ⟨hx, hxs⟩ := List.pairwise_cons.mp hrows
    obtain ⟨hne, hnews⟩ := List.forall_mem_cons.mp hnew
    unfold insertRow
    split
    · next hbefore =>
      have hrx := (Row.before_iff r x).mp hbefore
      exact .cons (List.forall_mem_cons.mpr ⟨hrx, fun y hy => hrx.trans (hx y hy)⟩) hrows
    · next hafter =>
      have hxr : x.Precedes r := Row.precedes_of_not (fun h => hafter ((Row.before_iff r x).mpr h)) hne
      refine .cons (fun y hy => ?_) (ih hxs hnews)
      rcases mem_insertRow.mp hy with rfl | hy
      · exact hxr
      · exact hx y hy

/-- Rows with different numbers stand in claimant order once sorted (R8). -/
theorem sortRows_pairwise {rows : List Row} (h : (rows.map Row.station).Nodup) : (sortRows rows).Pairwise Row.Precedes := by
  induction rows with
  | nil => exact .nil
  | cons r rs ih =>
    obtain ⟨hr, hrs⟩ := List.nodup_cons.mp h
    refine insertRow_pairwise (ih hrs) fun x hx heq => hr ?_
    exact heq ▸ List.mem_map_of_mem ((sortRows_perm rs).mem_iff.mp hx)

/-! ### The rows of a new plan (R7) -/

theorem Entry.row?_station {e : Entry} {r : Row} (h : e.row? = some r) : r.station = e.station := by
  obtain ⟨p, -, -, rfl⟩ := Entry.row?_eq_some h
  rfl

theorem peerRows_sublist (es : List Entry) : ((es.filterMap Entry.row?).map Row.station).Sublist (es.map Entry.station) := by
  induction es with
  | nil => exact .slnil
  | cons e es ih =>
    cases hrow : e.row? with
    | none =>
      rw [List.filterMap_cons_none hrow]
      exact ih.cons _
    | some r =>
      rw [List.filterMap_cons_some hrow, List.map_cons, List.map_cons, Entry.row?_station hrow]
      exact ih.cons_cons _

/-- The numbers of the rows before the division, our own first. -/
theorem claimStations_nodup {s : State} (h : RosterLaw s) :
    ((s.planner.claim.row s.ownStation :: s.roster.entries.filterMap Entry.row?).map Row.station).Nodup := by
  obtain ⟨-, hasc, hentry⟩ := h
  have hnodup : (s.roster.entries.map Entry.station).Nodup := hasc.imp fun hlt => hlt.ne
  rw [List.map_cons]
  refine List.nodup_cons.mpr ⟨fun hown => ?_, hnodup.sublist (peerRows_sublist _)⟩
  obtain ⟨e, he, hne⟩ := List.mem_map.mp ((peerRows_sublist _).subset hown)
  exact (hentry e he).1 hne

theorem claimRows_pairwise {s : State} (h : RosterLaw s) : s.claimRows.Pairwise Row.Precedes :=
  sortRows_pairwise (claimStations_nodup h)

/-- A LIVE entry has a row (R7, R24). -/
theorem Entry.row?_of_live {e : Entry} (h : EntryLaw e) (hlive : e.cls = .live) : ∃ r, e.row? = some r := by
  obtain ⟨p, hp⟩ : ∃ p, e.origin = .heard p := by
    cases horigin : e.origin with
    | heard p => exact ⟨p, rfl⟩
    | hearsay => simp [EntryLaw, hlive, horigin] at h
  exact ⟨claimRow e.station p.priority p.min p.demand, by simp [Entry.row?, hlive, hp]⟩

/-- The rows of a new plan are our own and one for each LIVE entry (R7). -/
theorem mem_claimStations {s : State} (h : RosterLaw s) (n : Station) :
    n ∈ s.claimRows.map Row.station ↔ n = s.ownStation ∨ ∃ e ∈ s.roster.entries, e.station = n ∧ e.cls = .live := by
  obtain ⟨-, -, hentry⟩ := h
  constructor
  · intro hn
    obtain ⟨r, hr, rfl⟩ := List.mem_map.mp hn
    rcases mem_claimRows hr with rfl | ⟨e, he, p, hlive, -, rfl⟩
    · exact .inl rfl
    · exact .inr ⟨e, he, rfl, hlive⟩
  · rintro (rfl | ⟨e, he, rfl, hlive⟩)
    · exact List.mem_map.mpr ⟨_, (sortRows_perm _).mem_iff.mpr List.mem_cons_self, rfl⟩
    · obtain ⟨r, hr⟩ := Entry.row?_of_live (hentry e he).2 hlive
      exact List.mem_map.mpr ⟨r, (sortRows_perm _).mem_iff.mpr (List.mem_cons_of_mem _ (List.mem_filterMap.mpr ⟨e, he, hr⟩)),
        Entry.row?_station hr⟩

theorem claimRows_length {s : State} (h : RosterLaw s) : s.claimRows.length ≤ 25 := by
  obtain ⟨hcapacity, -, -⟩ := h
  have hpeers : (s.roster.entries.filterMap Entry.row?).length ≤ s.roster.entries.length := List.length_filterMap_le _ _
  have hlen : s.claimRows.length = (s.roster.entries.filterMap Entry.row?).length + 1 := (sortRows_perm _).length_eq
  simp only [Config.rosterCapacity] at hcapacity
  omega

/-! ### What a division leaves of a row -/

/-- What of a row the division does not write. -/
def Row.claims (r : Row) : Station × Fin 4 × Current × Current := (r.station, r.priority, r.min, r.demand)

theorem Row.Walked.claims_eq {a b : Row} (h : a.Walked b) : a.claims = b.claims := by cases h <;> rfl

theorem Row.RaisedTo.claims_eq {a b : Row} (h : a.RaisedTo b) : a.claims = b.claims := by
  obtain ⟨k, rfl, -⟩ := h
  rfl

theorem Row.close_claims (r : Row) : r.close.claims = r.claims := by
  unfold Row.close
  split <;> rfl

theorem divide_claims (pool : Current) (rows : List Row) : (divide pool rows).1.map Row.claims = rows.map Row.claims := by
  have hclose : Row.claims ∘ Row.close = Row.claims := funext Row.close_claims
  rw [divide_eq, List.map_map, hclose]
  calc (filledRows pool rows).1.map Row.claims
      = (floorWalk pool rows).1.map Row.claims :=
        (map_eq_of_forall₂ (fun _ _ h => h.claims_eq) (fillRounds_raised _ _ _)).symm
    _ = rows.map Row.claims := (map_eq_of_forall₂ (fun _ _ h => h.claims_eq) (floorWalk_walked _ _)).symm

/-- The rows of a plan stand in claimant order (R8). -/
theorem planNow_pairwise {s : State} (h : RosterLaw s) : s.planNow.rows.Pairwise Row.Precedes := by
  have hkeys : ∀ rows : List Row, rows.Pairwise Row.Precedes ↔ (rows.map Row.claims).Pairwise
      (fun a b => b.2.1 < a.2.1 ∨ (a.2.1 = b.2.1 ∧ a.1 < b.1)) := fun rows => by
    rw [List.pairwise_map]
    rfl
  rw [hkeys]
  show ((divide s.pool s.claimRows).1.map Row.claims).Pairwise _
  rw [divide_claims, ← hkeys]
  exact claimRows_pairwise h

/-! ### Outcomes while the pool is filled in (R12) -/

/-- A row after the floor walk: its share fits, it is IDLE exactly without a demand, and none is FULL yet. -/
def Row.Underway (r : Row) : Prop := r.Fits ∧ (r.outcome = .idle ↔ r.demand = 0) ∧ r.outcome ≠ .full

theorem Row.Walked.underway {a b : Row} (h : a.Walked b) (hfresh : a.Fresh) (hidle : a.outcome = .idle ↔ a.demand = 0) :
    b.Underway := by
  have hnotFull : a.outcome ≠ .full := by
    obtain ⟨-, hoc | ⟨hoc, -⟩⟩ := hfresh <;> simp [hoc]
  refine ⟨h.fits hfresh, ?_⟩
  cases h with
  | idle hoc => exact ⟨hidle, hnotFull⟩
  | given hoc => exact ⟨hidle, hnotFull⟩
  | parked hoc => exact ⟨⟨fun hp => (nomatch hp), fun hd => absurd (hidle.mpr hd) hoc⟩, fun hp => (nomatch hp)⟩

theorem Row.RaisedTo.underway {a b : Row} (h : a.RaisedTo b) (ha : a.Underway) : b.Underway := by
  obtain ⟨hfits, hidle, hfull⟩ := ha
  refine ⟨h.fits hfits, ?_⟩
  obtain ⟨k, rfl, -⟩ := h
  exact ⟨hidle, hfull⟩

/-- The outcomes of a row once the division is complete (R12). -/
theorem Row.Underway.close {r : Row} (h : r.Underway) :
    (r.close.outcome = .idle ↔ r.close.demand = 0) ∧ (r.close.outcome = .full → r.close.share = r.close.demand) ∧
    (r.close.outcome = .partly → r.close.share < r.close.demand) ∧ (r.close.outcome = .parked → r.close.share = 0) := by
  obtain ⟨hfits, hidle, hfull⟩ := h
  unfold Row.Fits at hfits
  unfold Row.close
  split
  · next hdone =>
    obtain ⟨hpartly, hshare⟩ := hdone
    have hdemand : r.demand ≠ 0 := fun hz => by simp [hidle.mpr hz] at hpartly
    simp [hdemand, hshare]
  · next hopen =>
    refine ⟨hidle, fun hf => absurd hf hfull, fun hp => ?_, fun hp => ?_⟩
    · rw [if_pos hp] at hfits
      exact lt_of_le_of_ne hfits.2 fun heq => hopen ⟨hp, heq⟩
    · rwa [if_neg (by simp [hp])] at hfits

/-- A row that stays PARTIAL is one that the fill has not filled (R12). -/
theorem Row.Underway.unfilled {r : Row} (h : r.Underway) (hp : r.close.outcome = .partly) : r.unfilled = true := by
  obtain ⟨-, -, hlt, -⟩ := h.close
  have hshare := hlt hp
  simp only [Row.close_frame] at hshare
  refine r.unfilled_iff.mpr ⟨?_, hshare⟩
  unfold Row.close at hp
  split at hp
  · cases hp
  · exact hp

/-- A claimant that is not PARKED takes part in the fill. -/
theorem Row.Underway.partly {r : Row} (h : r.Underway) (hd : r.close.demand ≠ 0) (hp : r.close.outcome ≠ .parked) :
    r.outcome = .partly := by
  obtain ⟨-, hidle, hfull⟩ := h
  simp only [Row.close_frame] at hd
  have hparked : r.outcome ≠ .parked := fun heq => hp (by simp [Row.close, heq])
  cases hoc : r.outcome with
  | idle => exact absurd (hidle.mp hoc) hd
  | parked => exact absurd hoc hparked
  | partly => rfl
  | full => exact absurd hoc hfull

/-! ### The floor walk parks by the mins (R9) -/

/-- What the floor walk leaves that later steps do not write: min, demand, and whether the row is PARKED. -/
def Row.floorKey (r : Row) : Current × Current × Bool := (r.min, r.demand, decide (r.outcome = .parked))

theorem Row.RaisedTo.floorKey_eq {a b : Row} (h : a.RaisedTo b) : a.floorKey = b.floorKey := by
  obtain ⟨k, rfl, -⟩ := h
  rfl

theorem Row.close_floorKey (r : Row) : r.close.floorKey = r.floorKey := by
  unfold Row.close
  split
  · next h => simp [Row.floorKey, h.1]
  · rfl

/-- The mins that the claimants which were not PARKED have taken. -/
def floorTaken (front : List Row) : Current :=
  ((front.filter (fun x => decide (x.demand ≠ 0 ∧ x.outcome ≠ .parked))).map Row.min).sum

theorem floorTaken_eq (front : List Row) : floorTaken front =
    (((front.map Row.floorKey).filter (fun k => decide (k.2.1 ≠ 0) && !k.2.2)).map (fun k => k.1)).sum := by
  unfold floorTaken
  rw [List.filter_map, List.map_map]
  congr 2
  refine List.filter_congr fun x _ => ?_
  rw [Function.comp_apply, Bool.decide_and, decide_not, decide_not, decide_not]
  rfl

/-- In the floor walk a claimant is PARKED exactly when its min exceeds what is left (R9). -/
theorem floorWalk_parked {rem : Current} {rows front back : List Row} {r : Row}
    (hrows : ∀ x ∈ rows, (x.outcome = .idle ↔ x.demand = 0) ∧ x.outcome ≠ .parked)
    (h : (floorWalk rem rows).1 = front ++ r :: back) (hd : r.demand ≠ 0) :
    r.outcome = .parked ↔ rem < floorTaken front + r.min := by
  induction rows generalizing rem front with
  | nil => simp [floorWalk] at h
  | cons x xs ih =>
    obtain ⟨⟨hidle, hparked⟩, hxs⟩ := List.forall_mem_cons.mp hrows
    unfold floorWalk at h
    split at h
    · next hx =>
      cases front with
      | nil =>
        obtain ⟨rfl, -⟩ := List.cons.inj h
        exact absurd (hidle.mp hx) hd
      | cons f front =>
        obtain ⟨rfl, hrest⟩ := List.cons.inj h
        have hskip : floorTaken (x :: front) = floorTaken front := by simp [floorTaken, hidle.mp hx]
        rw [hskip]
        exact ih hxs hrest
    · next hx =>
      have hdemand : x.demand ≠ 0 := fun hz => hx (hidle.mpr hz)
      split at h
      · next hlasts =>
        cases front with
        | nil =>
          obtain ⟨rfl, -⟩ := List.cons.inj h
          simp [floorTaken, hparked, hlasts]
        | cons f front =>
          obtain ⟨rfl, hrest⟩ := List.cons.inj h
          have htaken : floorTaken ({ x with share := x.min } :: front) = x.min + floorTaken front := by
            simp [floorTaken, hdemand, hparked]
          rw [htaken, ih hxs hrest]
          unfold Current at *
          omega
      · next hshort =>
        cases front with
        | nil =>
          obtain ⟨rfl, -⟩ := List.cons.inj h
          simpa [floorTaken] using hshort
        | cons f front =>
          obtain ⟨rfl, hrest⟩ := List.cons.inj h
          have hskip : floorTaken ({ x with outcome := .parked } :: front) = floorTaken front := by simp [floorTaken]
          rw [hskip]
          exact ih hxs hrest

/-! ### The fill runs to its end (R10, R11) -/

/-- How many rows are still unfilled. -/
def openRows (rows : List Row) : Nat := (rows.filter Row.unfilled).length

theorem openRows_cons_of_unfilled {r : Row} {rows : List Row} (h : r.unfilled = true) :
    openRows (r :: rows) = openRows rows + 1 := by simp [openRows, h]

theorem openRows_cons_of_filled {r : Row} {rows : List Row} (h : r.unfilled = false) :
    openRows (r :: rows) = openRows rows := by simp [openRows, h]

/-- A round fills a member, or gives q to each (R10). -/
theorem giveRound_progress (q : Current) (rows : List Row) :
    openRows (giveRound q rows).1 < openRows rows ∨
    (openRows (giveRound q rows).1 = openRows rows ∧ (giveRound q rows).2 = q * openRows rows) := by
  induction rows with
  | nil => exact .inr ⟨rfl, rfl⟩
  | cons r rs ih =>
    unfold giveRound
    dsimp only
    split
    · next hopen =>
      obtain ⟨hpartly, hlt⟩ := r.unfilled_iff.mp hopen
      rw [openRows_cons_of_unfilled hopen]
      by_cases hq : q < r.demand - r.share
      · have hstill : ({ r with share := r.share + min q (r.demand - r.share) } : Row).unfilled = true := by
          refine (Row.unfilled_iff _).mpr ⟨hpartly, ?_⟩
          show r.share + min q (r.demand - r.share) < r.demand
          unfold Current at *
          omega
        rw [openRows_cons_of_unfilled hstill, Nat.min_eq_left hq.le, Nat.mul_succ]
        unfold Current at *
        omega
      · have hfilled : ({ r with share := r.share + min q (r.demand - r.share) } : Row).unfilled = false := by
          refine Bool.eq_false_iff.mpr fun h => ?_
          have hlt' : r.share + min q (r.demand - r.share) < r.demand := ((Row.unfilled_iff _).mp h).2
          unfold Current at *
          omega
        rw [openRows_cons_of_filled hfilled]
        unfold Current at *
        omega
    · next hfilled =>
      rw [openRows_cons_of_filled (by simpa using hfilled), openRows_cons_of_filled (by simpa using hfilled)]
      exact ih

/-- The leftover step gives 1 unit to each member until none is left (R11). -/
theorem leftover_left (rem : Current) (rows : List Row) : (leftover rem rows).2 = rem - openRows rows := by
  induction rows generalizing rem with
  | nil => rfl
  | cons r rs ih =>
    unfold leftover
    split
    · next hgive =>
      rw [openRows_cons_of_unfilled hgive.1]
      dsimp only
      rw [ih]
      unfold Current at *
      omega
    · next hnot =>
      dsimp only
      rw [ih]
      by_cases hopen : r.unfilled = true
      · have hzero : rem = 0 := Nat.eq_zero_of_not_pos fun h => hnot ⟨hopen, h⟩
        simp [hzero]
      · rw [openRows_cons_of_filled (by simpa using hopen)]

theorem fillRounds_succ (fuel : Nat) (rem : Current) (rows : List Row) : fillRounds (fuel + 1) rem rows =
    if openRows rows = 0 ∨ rem = 0 then (rows, rem)
    else if rem / openRows rows = 0 then leftover rem rows
    else fillRounds fuel (rem - (giveRound (rem / openRows rows) rows).2) (giveRound (rem / openRows rows) rows).1 := rfl

/-- With enough rounds something is left only where every member is filled (R10, R11). -/
theorem fillRounds_done {fuel : Nat} : ∀ {rem : Current} {rows : List Row},
    openRows rows + 2 ≤ fuel ∨ (1 ≤ fuel ∧ rem < openRows rows) →
    0 < (fillRounds fuel rem rows).2 → ∀ r ∈ (fillRounds fuel rem rows).1, r.unfilled = false := by
  induction fuel with
  | zero => intro rem rows hfuel; omega
  | succ fuel ih =>
    intro rem rows hfuel
    rw [fillRounds_succ]
    split
    · next hstop =>
      intro hleft r hr
      rcases hstop with hnone | hzero
      · exact Bool.eq_false_iff.mpr fun h => List.ne_nil_of_mem (List.mem_filter.mpr ⟨hr, h⟩) (List.eq_nil_of_length_eq_zero hnone)
      · exact absurd hzero hleft.ne'
    · next hgo =>
      have hpos : 0 < openRows rows := Nat.pos_of_ne_zero fun h => hgo (.inl h)
      split
      · next hsmall =>
        have hlt : rem < openRows rows := (Nat.div_eq_zero_iff_lt hpos).mp hsmall
        intro hleft
        rw [leftover_left, Nat.sub_eq_zero_of_le hlt.le] at hleft
        exact absurd hleft (lt_irrefl 0)
      · next hround =>
        have hle : openRows rows ≤ rem := not_lt.mp fun hlt => hround (Nat.div_eq_of_lt hlt)
        have hfuel' : openRows rows + 2 ≤ fuel + 1 := hfuel.resolve_right fun h => absurd h.2 (not_lt.mpr hle)
        refine ih ?_
        rcases giveRound_progress (rem / openRows rows) rows with hless | ⟨hsame, hgiven⟩
        · exact .inl (by omega)
        · have hrest : rem - rem / openRows rows * openRows rows = rem % openRows rows := by
            rw [Nat.mul_comm]
            exact (Nat.mod_eq_sub_mul_div).symm
          refine .inr ⟨by omega, ?_⟩
          rw [hsame, hgiven, hrest]
          exact Nat.mod_lt rem hpos

/-! ### The fill is even (R10, R11) -/

/-- What a row has gained beyond its min. -/
def Row.gain (r : Row) : Current := r.share - r.min

/-- Every row that takes part has gained at most `g`, and exactly `g` where it is not filled. -/
def LevelAt (g : Current) (rows : List Row) : Prop :=
  ∀ r ∈ rows, r.outcome = .partly → r.min ≤ r.share ∧ r.gain ≤ g ∧ (r.unfilled = true → r.gain = g)

/-- What an even fill says of two claimants in claimant order. -/
def Row.EvenWith (a b : Row) : Prop :=
  a.outcome = .partly → b.outcome = .partly →
    (a.unfilled = true → b.gain ≤ a.gain) ∧ (b.unfilled = true → a.gain ≤ b.gain + 1)

theorem LevelAt.even {g : Current} {rows : List Row} (h : LevelAt g rows) : rows.Pairwise Row.EvenWith := by
  refine List.pairwise_iff_forall_sublist.mpr fun {a b} hab ha hb => ?_
  have hsub := hab.subset
  obtain ⟨-, hga, hua⟩ := h a (hsub List.mem_cons_self) ha
  obtain ⟨-, hgb, hub⟩ := h b (hsub (List.mem_cons_of_mem _ List.mem_cons_self)) hb
  refine ⟨fun hu => ?_, fun hu => ?_⟩
  · rw [hua hu]; exact hgb
  · rw [hub hu]; exact hga.trans (Nat.le_succ g)

theorem giveRound_levelAt {g q : Current} {rows : List Row} (h : LevelAt g rows) : LevelAt (g + q) (giveRound q rows).1 := by
  induction rows with
  | nil => exact fun r hr => nomatch hr
  | cons r rs ih =>
    obtain ⟨hr, hrs⟩ := List.forall_mem_cons.mp h
    unfold giveRound
    dsimp only
    split
    · next hopen =>
      obtain ⟨hpartly, hlt⟩ := r.unfilled_iff.mp hopen
      obtain ⟨hmin, -, hgain⟩ := hr hpartly
      have hg : r.share - r.min = g := hgain hopen
      refine List.forall_mem_cons.mpr ⟨fun _ => ?_, ih hrs⟩
      have hopenAfter : ({ r with share := r.share + min q (r.demand - r.share) } : Row).unfilled = true →
          r.share + min q (r.demand - r.share) < r.demand := fun hu => ((Row.unfilled_iff _).mp hu).2
      refine ⟨?_, ?_, fun hu => ?_⟩
      · show r.min ≤ r.share + min q (r.demand - r.share)
        unfold Current at *
        omega
      · show r.share + min q (r.demand - r.share) - r.min ≤ g + q
        unfold Current at *
        omega
      · have := hopenAfter hu
        show r.share + min q (r.demand - r.share) - r.min = g + q
        unfold Current at *
        omega
    · next hfilled =>
      refine List.forall_mem_cons.mpr ⟨fun hpartly => ?_, ih hrs⟩
      obtain ⟨hmin, hle, -⟩ := hr hpartly
      exact ⟨hmin, hle.trans (Nat.le_add_right g q), fun hu => absurd hu hfilled⟩

/-- With nothing left the step gives nothing. -/
theorem leftover_zero (rows : List Row) : (leftover 0 rows).1 = rows := by
  induction rows with
  | nil => rfl
  | cons r rs ih =>
    unfold leftover
    rw [if_neg (by simp)]
    dsimp only
    rw [ih]

/-- After the leftover step a row has gained at most one unit more, and one that is not filled no less (R11). -/
theorem leftover_bounds {g rem : Current} {rows : List Row} (h : LevelAt g rows) :
    ∀ r ∈ (leftover rem rows).1, r.outcome = .partly → r.gain ≤ g + 1 ∧ (r.unfilled = true → g ≤ r.gain) := by
  induction rows generalizing rem with
  | nil => exact fun r hr => nomatch hr
  | cons r rs ih =>
    obtain ⟨hr, hrs⟩ := List.forall_mem_cons.mp h
    unfold leftover
    split
    · next hgive =>
      obtain ⟨hpartly, -⟩ := r.unfilled_iff.mp hgive.1
      obtain ⟨hmin, -, hgain⟩ := hr hpartly
      have hg : r.share - r.min = g := hgain hgive.1
      refine List.forall_mem_cons.mpr ⟨fun _ => ?_, ih hrs⟩
      constructor
      · show r.share + 1 - r.min ≤ g + 1
        unfold Current at *
        omega
      · intro _
        show g ≤ r.share + 1 - r.min
        unfold Current at *
        omega
    · refine List.forall_mem_cons.mpr ⟨fun hpartly => ?_, ih hrs⟩
      obtain ⟨-, hle, hgain⟩ := hr hpartly
      exact ⟨hle.trans (Nat.le_succ g), fun hu => (hgain hu).ge⟩

theorem leftover_even {g rem : Current} {rows : List Row} (h : LevelAt g rows) :
    (leftover rem rows).1.Pairwise Row.EvenWith := by
  induction rows generalizing rem with
  | nil => exact .nil
  | cons r rs ih =>
    obtain ⟨hr, hrs⟩ := List.forall_mem_cons.mp h
    have hbounds := leftover_bounds (rem := rem) hrs
    unfold leftover
    split
    · next hgive =>
      obtain ⟨hpartly, -⟩ := r.unfilled_iff.mp hgive.1
      obtain ⟨hmin, -, hgain⟩ := hr hpartly
      have hg : r.share - r.min = g := hgain hgive.1
      refine .cons (fun b hb _ hpb => ?_) (ih hrs)
      obtain ⟨hle, hge⟩ := leftover_bounds hrs b hb hpb
      constructor
      · intro _
        show b.gain ≤ r.share + 1 - r.min
        unfold Current at *
        omega
      · intro hu
        have := hge hu
        show r.share + 1 - r.min ≤ b.gain + 1
        unfold Current at *
        omega
    · next hnot =>
      refine .cons (fun b hb hpa hpb => ?_) (ih hrs)
      obtain ⟨-, hle, hgain⟩ := hr hpa
      obtain ⟨-, hge⟩ := hbounds b hb hpb
      refine ⟨fun hu => ?_, fun hu => (hle.trans (hge hu)).trans (Nat.le_succ _)⟩
      have hzero : rem = 0 := Nat.eq_zero_of_not_pos fun hpos => hnot ⟨hu, hpos⟩
      rw [hzero, leftover_zero] at hb
      rw [hgain hu]
      exact (hrs b hb hpb).2.1

/-- The fill is even (R10, R11). -/
theorem fillRounds_even {fuel : Nat} : ∀ {g rem : Current} {rows : List Row}, LevelAt g rows →
    (fillRounds fuel rem rows).1.Pairwise Row.EvenWith := by
  induction fuel with
  | zero => exact fun h => h.even
  | succ fuel ih =>
    intro g rem rows h
    rw [fillRounds_succ]
    split
    · exact h.even
    · split
      · exact leftover_even h
      · exact ih (giveRound_levelAt h)

/-- After the floor walk no row has gained anything beyond its min. -/
theorem floorWalk_levelAt {rem : Current} {rows : List Row} (h : ∀ r ∈ rows, r.Fresh) : LevelAt 0 (floorWalk rem rows).1 := by
  have hzero : ∀ r ∈ (floorWalk rem rows).1, r.outcome = .partly → r.share = r.min := by
    refine forall_mem_of_forall₂ (p := Row.Fresh) (fun a b hab hfresh hpartly => ?_) (floorWalk_walked rem rows) h
    cases hab with
    | idle hoc => rw [hoc] at hpartly; cases hpartly
    | given _ => rfl
    | parked _ => cases hpartly
  intro r hr hpartly
  have heq := hzero r hr hpartly
  simp [Row.gain, heq]

/-! ### The division whole -/

theorem Row.Fresh.walkable {r : Row} (h : r.Fresh) : r.outcome ≠ .parked := by
  obtain ⟨-, hoc | ⟨hoc, -⟩⟩ := h <;> simp [hoc]

/-- Rows before the division that claim their min at least, and are IDLE exactly without a demand. -/
def Divisible (rows : List Row) : Prop := ∀ r ∈ rows, r.Fresh ∧ (r.outcome = .idle ↔ r.demand = 0)

theorem divisible_claims {claims : List (Station × Fin 4 × Current × Current)}
    (h : ∀ c ∈ claims, c.2.2.2 = 0 ∨ c.2.2.1 ≤ c.2.2.2) :
    Divisible (claims.map (fun c => claimRow c.1 c.2.1 c.2.2.1 c.2.2.2)) := by
  refine List.forall_mem_map.mpr fun c hc => ⟨claimRow_fresh (h c hc), ?_⟩
  by_cases hz : c.2.2.2 = 0 <;> simp [claimRow, hz]

section
variable {pool : Current} {rows : List Row} (h : Divisible rows)
include h

theorem Divisible.underway : ∀ r ∈ (filledRows pool rows).1, r.Underway := by
  have hwalked : ∀ r ∈ (floorWalk pool rows).1, r.Underway :=
    forall_mem_of_forall₂ (fun _ _ hw hd => hw.underway hd.1 hd.2) (floorWalk_walked pool rows) h
  exact forall_mem_of_forall₂ (fun _ _ hr hu => hr.underway hu) (fillRounds_raised _ _ _) hwalked

/-- Every row of the division with its outcome (R12). -/
theorem Divisible.outcomes : ∀ r ∈ (divide pool rows).1, (r.outcome = .idle ↔ r.demand = 0) ∧
    (r.outcome = .full → r.share = r.demand) ∧ (r.outcome = .partly → r.share < r.demand) ∧
    (r.outcome = .parked → r.share = 0) := by
  rw [divide_eq]
  exact List.forall_mem_map.mpr fun r hr => (h.underway r hr).close

/-- A remainder is left only when no claimant stays PARTIAL (R12). -/
theorem Divisible.remainder (hleft : 0 < (divide pool rows).2) : ∀ r ∈ (divide pool rows).1, r.outcome ≠ .partly := by
  have hopen : openRows (floorWalk pool rows).1 ≤ rows.length :=
    (List.length_filter_le _ _).trans (floorWalk_walked pool rows).length_eq.ge
  rw [divide_eq] at hleft ⊢
  refine List.forall_mem_map.mpr fun r hr hp => ?_
  have hfilled : r.unfilled = false := fillRounds_done (.inl (Nat.add_le_add_right hopen 2)) hleft r hr
  exact Bool.false_ne_true (hfilled.symm.trans ((h.underway r hr).unfilled hp))

/-- A claimant is PARKED exactly when its min exceeds what the claimants before it have left of the pool (R9). -/
theorem Divisible.parked {front back : List Row} {r : Row} (heq : (divide pool rows).1 = front ++ r :: back)
    (hd : r.demand ≠ 0) : r.outcome = .parked ↔ pool < floorTaken front + r.min := by
  have hclose : Row.floorKey ∘ Row.close = Row.floorKey := funext Row.close_floorKey
  have hkeys : (floorWalk pool rows).1.map Row.floorKey = (front ++ r :: back).map Row.floorKey := by
    rw [← heq, divide_eq, List.map_map, hclose]
    exact map_eq_of_forall₂ (fun _ _ hr => hr.floorKey_eq) (fillRounds_raised _ _ _)
  rw [List.map_append, List.map_cons] at hkeys
  obtain ⟨front', rest, hsplit, hfront, hrest⟩ := List.map_eq_append_iff.mp hkeys
  obtain ⟨r', back', rfl, hr, -⟩ := List.map_eq_cons_iff.mp hrest
  simp only [Row.floorKey, Prod.mk.injEq, decide_eq_decide] at hr
  obtain ⟨hmin, hdemand, hparked⟩ := hr
  have hwalk := floorWalk_parked (fun x hx => ⟨(h x hx).2, (h x hx).1.walkable⟩) hsplit (hdemand.symm ▸ hd)
  rw [← hparked, hwalk, floorTaken_eq, floorTaken_eq, hfront, hmin]

/-- The fill is even (R10, R11). -/
theorem Divisible.even : (divide pool rows).1.Pairwise (fun a b => a.demand ≠ 0 → b.demand ≠ 0 → a.outcome ≠ .parked →
    b.outcome ≠ .parked → (a.outcome = .partly → b.share - b.min ≤ a.share - a.min) ∧
    (b.outcome = .partly → a.share - a.min ≤ (b.share - b.min) + 1)) := by
  have hlevel : LevelAt 0 (floorWalk pool rows).1 := floorWalk_levelAt fun r hr => (h r hr).1
  have heven := fillRounds_even (fuel := rows.length + 2) (rem := (floorWalk pool rows).2) hlevel
  rw [divide_eq, List.pairwise_map]
  refine heven.imp_of_mem fun {a b} ha hb hab hda hdb hpa hpb => ?_
  have hua := h.underway a ha
  have hub := h.underway b hb
  obtain ⟨hfirst, hsecond⟩ := hab (hua.partly hda hpa) (hub.partly hdb hpb)
  simp only [Row.close_frame]
  exact ⟨fun hp => hfirst (hua.unfilled hp), fun hp => hsecond (hub.unfilled hp)⟩

end

/-- What a relation of all pairs says of two members of the list. -/
theorem pairwise_split {α : Type} {R : α → α → Prop} {l front mid back : List α} {a b : α} (h : l.Pairwise R)
    (heq : l = front ++ a :: (mid ++ b :: back)) : R a b := by
  rw [heq] at h
  exact (List.pairwise_cons.mp (List.pairwise_append.mp h).2.1).1 b (by simp)

end Sys2Proof.Machine

section
open Sys2Proof Sys2Proof.Machine Sys2Proof.Safety Sys2Proof.Claims

/-- Settles O50: claimant order by the insertion sort, the outcomes by the floor walk and the even fill. -/
theorem planRowsStandInOrderWithTheirOutcomes : Obligations.PlanRowsStandInOrderWithTheirOutcomes := by
  refine ⟨fun s hroster => ⟨planNow_pairwise hroster, fun n => ?_, ?_⟩, ?_⟩
  · exact (divide_station s.pool s.claimRows).symm ▸ mem_claimStations hroster n
  · have hlen := congrArg List.length (divide_station s.pool s.claimRows)
    rw [List.length_map, List.length_map] at hlen
    exact hlen.trans_le (claimRows_length hroster)
  · intro pool claims hclaims rows
    have hdiv : Divisible rows := divisible_claims hclaims
    exact ⟨hdiv.outcomes, hdiv.remainder, fun front r back heq hd => hdiv.parked heq hd,
      fun front a mid b back heq => pairwise_split hdiv.even heq⟩

end
end

section
/-! The judgement of an image, its parameters and their ranges, and the network digest (R150, R155, R156, R159). -/

namespace Sys2Proof.Machine

open Sys2Proof.Safety Sys2Proof.Claims

/-! ### Fields and their defaults (R150) -/

theorem imageByte_le (img : List Byte) (i : Nat) : imageByte img i ≤ 255 := Nat.le_of_lt_succ (img.getD i 0).isLt

theorem imageWord_le (img : List Byte) (i : Nat) : imageWord img i ≤ 65535 := by
  have h1 := imageByte_le img i
  have h2 := imageByte_le img (i + 1)
  unfold imageWord
  omega

/-- A property of the default holds of the parameter in use where it holds of an unmasked field. -/
theorem orDefault_iff {img : List Byte} {bit dflt field : Nat} (P : Nat → Prop) (hd : P dflt) :
    P (orDefault img bit dflt field) ↔ ((imageWord img 2).testBit bit = false → P field) := by
  unfold orDefault
  cases (imageWord img 2).testBit bit <;> simp [hd]

theorem orDefault_of_unmasked {img : List Byte} {bit dflt field : Nat} (h : (imageWord img 2).testBit bit = false) :
    orDefault img bit dflt field = field := by simp [orDefault, h]

/-- The ranges of T 10-2 over the fields in use (R156). -/
theorem paramsOf_inRange_iff (img : List Byte) : (paramsOf img).inRange = true ↔
    imageByte img 4 ≤ 63 ∧ ((imageWord img 2).testBit 0 = false → imageByte img 5 ≤ 3) ∧ imageWord img 6 ≤ imageWord img 8 ∧
    (1 ≤ imageWord img 8 ∧ imageWord img 8 ≤ 10000) ∧ imageByte img 10 ≤ 3 ∧
    ((imageWord img 2).testBit 1 = false → 5 ≤ imageWord img 11 ∧ imageWord img 11 ≤ 200) ∧
    ((imageWord img 2).testBit 2 = false → 30 ≤ imageWord img 13 ∧ imageWord img 13 ≤ 600) ∧
    ((imageWord img 2).testBit 3 = false → imageWord img 15 ≤ 100) ∧
    ((imageWord img 2).testBit 4 = false → 1 ≤ imageByte img 17 ∧ imageByte img 17 ≤ 60) ∧
    ((imageWord img 2).testBit 5 = false → 5 ≤ imageWord img 18 ∧ imageWord img 18 ≤ 300) ∧ 10 ≤ imageWord img 20 ∧
    ((imageByte img 10).testBit 0 = true → 10 ≤ imageWord img 22) ∧
    ((imageWord img 2).testBit 6 = false → 16 ≤ imageByte img 24) ∧
    ((imageWord img 2).testBit 8 = false → imageByte img 26 ≤ 3) ∧ (10 ≤ imageWord img 27 ∧ imageWord img 27 ≤ 20000) ∧
    ((imageWord img 2).testBit 11 = false → 2 ≤ imageByte img 33 ∧ imageByte img 33 ≤ 50) ∧
    ((imageWord img 2).testBit 12 = false → 3 ≤ imageByte img 34 ∧ imageByte img 34 ≤ 15) ∧
    ((imageWord img 2).testBit 13 = false → 10 ≤ imageWord img 35 ∧ imageWord img 35 ≤ 600) ∧
    ((imageWord img 2).testBit 14 = false → 1 ≤ imageByte img 37 ∧ imageByte img 37 ≤ 60) ∧
    ((imageWord img 2).testBit 15 = false → 1 ≤ imageByte img 38 ∧ imageByte img 38 ≤ 120) ∧ imageByte img 39 ≤ 2 := by
  have hload := imageWord_le img 20
  have hfeeder := imageWord_le img 22
  have hwindow := imageByte_le img 24
  have hscale : (!(paramsOf img).feederSensing ||
      decide (10 ≤ (paramsOf img).feederScale ∧ (paramsOf img).feederScale ≤ 65535)) = true ↔
      ((imageByte img 10).testBit 0 = true → 10 ≤ imageWord img 22) := by
    have hbit : (paramsOf img).feederSensing = (imageByte img 10).testBit 0 := rfl
    have hfield : (paramsOf img).feederScale = imageWord img 22 := rfl
    rw [hbit, hfield]
    cases (imageByte img 10).testBit 0 <;> simp [hfeeder]
  unfold Params.inRange
  simp only [Bool.and_eq_true, decide_eq_true_eq]
  rw [hscale]
  simp only [paramsOf]
  rw [orDefault_iff (· ≤ 3) (by decide), orDefault_iff (fun x => 5 ≤ x ∧ x ≤ 200) (by decide),
    orDefault_iff (fun x => 30 ≤ x ∧ x ≤ 600) (by decide), orDefault_iff (· ≤ 100) (by decide),
    orDefault_iff (fun x => 1 ≤ x ∧ x ≤ 60) (by decide), orDefault_iff (fun x => 5 ≤ x ∧ x ≤ 300) (by decide),
    orDefault_iff (fun x => 16 ≤ x ∧ x ≤ 255) (by decide), orDefault_iff (· ≤ 3) (by decide),
    orDefault_iff (fun x => 2 ≤ x ∧ x ≤ 50) (by decide), orDefault_iff (fun x => 3 ≤ x ∧ x ≤ 15) (by decide),
    orDefault_iff (fun x => 10 ≤ x ∧ x ≤ 600) (by decide), orDefault_iff (fun x => 1 ≤ x ∧ x ≤ 60) (by decide),
    orDefault_iff (fun x => 1 ≤ x ∧ x ≤ 120) (by decide)]
  simp only [and_assoc, hload, hwindow, and_true, Nat.lt_succ_iff, true_and]

/-! ### The judgement (R155, R156) -/

/-- The consistency checks of R156, the last at full width in the machine's units of time. -/
theorem consistent_iff (p : Params) : p.consistent = true ↔ p.min ≤ p.max ∧ p.reserve ≤ p.feederLimit ∧
    p.fallback ≤ p.feederLimit ∧ p.threshold ≤ p.window ∧ (p.silenceLimit + 3) * p.cyclePeriod ≤ p.forgetPeriod := by
  have hunits : (p.silenceLimit + 3) * (p.cycleUnits * 100) ≤ p.forgetTime * 1000 ↔
      (p.silenceLimit + 3) * p.cyclePeriod ≤ p.forgetPeriod := by
    have hcycle : (p.silenceLimit + 3) * p.cyclePeriod = (p.silenceLimit + 3) * (p.cycleUnits * 100) * 1000 := by
      rw [Nat.mul_assoc]
      rfl
    have hforget : p.forgetPeriod = p.forgetTime * 1000 * 1000 := by
      rw [Nat.mul_assoc]
      rfl
    rw [hcycle, hforget]
    exact (Nat.mul_le_mul_right_iff (by decide)).symm
  simp only [Params.consistent, Bool.and_eq_true, decide_eq_true_eq, hunits, and_assoc]

theorem judgeImage_format {img : List Byte} (h : ¬(imageByte img 0 = 0x31 ∧ imageByte img 1 = 42)) : judgeImage img = .format :=
  if_pos h

theorem judgeImage_of_header {img : List Byte} (h : imageByte img 0 = 0x31 ∧ imageByte img 1 = 42) : judgeImage img =
    if ¬ checkWordOk img then .check else if (paramsOf img).inRange && (paramsOf img).consistent then .none else .range :=
  if_neg (not_not.mpr h)

theorem checkWordOk_iff (img : List Byte) : checkWordOk img = true ↔ (crc16 (img.take 40)).toNat = imageWord img 40 :=
  decide_eq_true_iff

/-! ### The network record (R159) -/

theorem take_drop_eq_map {n k : Nat} (img : List Byte) (h : k + n ≤ img.length) :
    (img.drop k).take n = (List.range n).map (fun i => img.getD (k + i) 0) := by
  refine List.ext_getElem (by simp; omega) fun i hi hi' => ?_
  have hlt : k + i < img.length := by simp at hi'; omega
  simp [List.getD_eq_getElem?_getD, List.getElem?_eq_getElem hlt]

theorem ofNat_imageByte (img : List Byte) (i : Nat) : BitVec.ofNat 8 (imageByte img i) = img.getD i 0 :=
  by
  unfold imageByte
  rw [BitVec.ofNat_toNat, BitVec.setWidth_eq]

/-- The two bytes of a field of the image. -/
theorem bytesOf_imageWord (img : List Byte) (i : Nat) : bytesOf (imageWord img i) = [img.getD i 0, img.getD (i + 1) 0] := by
  have hhi := (img.getD i 0).isLt
  have hlo := (img.getD (i + 1) 0).isLt
  have hfirst : hiByte (BitVec.ofNat 16 (imageWord img i)) = img.getD i 0 := by
    apply BitVec.eq_of_toNat_eq
    simp only [hiByte, BitVec.extractLsb'_toNat, BitVec.toNat_ofNat, imageWord, imageByte, Nat.shiftRight_eq_div_pow]
    omega
  have hsecond : loByte (BitVec.ofNat 16 (imageWord img i)) = img.getD (i + 1) 0 := by
    apply BitVec.eq_of_toNat_eq
    simp only [loByte, BitVec.extractLsb'_toNat, BitVec.toNat_ofNat, imageWord, imageByte, Nat.shiftRight_eq_div_pow]
    omega
  rw [bytesOf, bytes16, hfirst, hsecond]

/-- With no network default in use the record is bytes 27 to 39 as they stand (R159). -/
theorem networkRecord_unmasked {img : List Byte} (hlen : img.length = 42)
    (h : ∀ i, 9 ≤ i → i ≤ 15 → (imageWord img 2).testBit i = false) :
    networkRecord (paramsOf img) = (img.drop 27).take 13 := by
  have hfield : ∀ i dflt field, 9 ≤ i → i ≤ 15 → orDefault img i dflt field = field := fun i _ _ h9 h15 =>
    orDefault_of_unmasked (h i h9 h15)
  rw [take_drop_eq_map img (by omega)]
  simp only [networkRecord, paramsOf]
  rw [hfield 9 _ _ (by decide) (by decide), hfield 10 _ _ (by decide) (by decide), hfield 11 _ _ (by decide) (by decide),
    hfield 12 _ _ (by decide) (by decide), hfield 13 _ _ (by decide) (by decide), hfield 14 _ _ (by decide) (by decide),
    hfield 15 _ _ (by decide) (by decide)]
  simp only [bytesOf_imageWord, ofNat_imageByte]
  rfl

theorem networkDigestOf_congr {a b : List Byte} (h : networkRecord (paramsOf a) = networkRecord (paramsOf b)) :
    networkDigestOf a = networkDigestOf b := congrArg crc16 h

end Sys2Proof.Machine

section
open Sys2Proof Sys2Proof.Machine Sys2Proof.Safety Sys2Proof.Claims

/-- Settles O7: the three steps of the judgement, the parameters with their ranges, and the network digest. -/
theorem imageIsJudgedAndItsNetworkDigested : Obligations.ImageIsJudgedAndItsNetworkDigested := by
  refine ⟨fun img => ?_, fun img => ⟨rfl, paramsOf_inRange_iff img⟩, fun img hlen h => ?_, ?_⟩
  · have hheader : ((img.getD 0 0).toNat = 0x31 ∧ (img.getD 1 0).toNat = 42) ↔
        (imageByte img 0 = 0x31 ∧ imageByte img 1 = 42) := Iff.rfl
    have hword : 256 * (img.getD 40 0).toNat + (img.getD 41 0).toNat = imageWord img 40 := rfl
    simp only [ne_eq, hheader, hword, ← checkWordOk_iff, ← consistent_iff]
    by_cases hh : imageByte img 0 = 0x31 ∧ imageByte img 1 = 42
    · rw [judgeImage_of_header hh]
      by_cases hc : checkWordOk img = true
      · by_cases hp : (paramsOf img).inRange = true ∧ (paramsOf img).consistent = true
        · simp [hh, hc, hp]
        · simp only [hh, hc, ← Bool.and_eq_true] at hp ⊢
          simp [hp]
      · simp [hh, hc]
    · rw [judgeImage_format hh]
      simp [hh]
  · exact congrArg crc16 (networkRecord_unmasked hlen h)
  · intro a b h1 h2 h3 h4 h5 h6 h7 h8 h9
    refine networkDigestOf_congr ?_
    rw [networkRecord, networkRecord, h1, h2, h3, h4, h5, h6, h7, h8, h9]

end
end

section
/-! A frame read back from its bytes (R90, R91, R96). -/

namespace Sys2Proof.Machine

open Sys2Proof.Safety Sys2Proof.Claims

/-! ### Fields and their bytes -/

theorem word16_bytes (w : Word16) : word16 (hiByte w) (loByte w) = w := by
  apply BitVec.eq_of_getLsbD_eq
  intro i hi
  simp only [word16, hiByte, loByte, BitVec.getLsbD_append, BitVec.getLsbD_extractLsb', Nat.zero_add]
  by_cases h : i < 8
  · simp [h]
  · have hsub : 8 + (i - 8) = i := by omega
    have hlt : i - 8 < 8 := by omega
    simp [h, hsub, hlt]

/-- The state/flags byte gives its fields back (T 5-4). -/
theorem readStateFlags_byte (f : StateFlags) : readStateFlags (stateFlagsByte f) = some f := by
  obtain ⟨state, priority, degraded, cut, parked⟩ := f
  revert priority degraded cut parked
  cases state <;> decide

theorem readClaim_bytes (c : ClaimPart) : readClaim c.serial (stateFlagsByte c.flags) (hiByte c.min) (loByte c.min)
    (hiByte c.max) (loByte c.max) (hiByte c.demand) (loByte c.demand) = some c := by
  simp [readClaim, readStateFlags_byte, word16_bytes]

/-- The presence byte tells which optional fields follow (R91). -/
theorem readOptional_bytes (draw estimate : Option Word16) :
    readOptional (presenceByte draw estimate) (optionalBytes draw ++ optionalBytes estimate) = some (draw, estimate) := by
  cases draw <;> cases estimate <;> simp [presenceByte, optionalBytes, bytes16, readOptional, word16_bytes]

/-- The eight bytes of the quiet set put together again (T 5-4). -/
theorem quiet_bytes (q : BitVec 64) :
    (q.extractLsb' 56 8 ++ q.extractLsb' 48 8 ++ q.extractLsb' 40 8 ++ q.extractLsb' 32 8 ++ q.extractLsb' 24 8 ++
      q.extractLsb' 16 8 ++ q.extractLsb' 8 8 ++ q.extractLsb' 0 8 : BitVec 64) = q := by
  apply BitVec.eq_of_getLsbD_eq
  intro i hi
  simp only [BitVec.getLsbD_append, BitVec.getLsbD_extractLsb']
  split_ifs with h0 h1 h2 h3 h4 h5 h6
  all_goals
    rw [decide_eq_true (by omega), Bool.true_and]
    congr 1
    omega

/-! ### The identifier (R90) -/

theorem identifier_toNat (k : Kind) (n : Station) : (identifier k n).toNat = k.code.toNat * 64 + n.val := by
  have hn : n.val < 2 ^ 6 := n.isLt
  simp only [identifier, BitVec.toNat_append, BitVec.toNat_ofFin]
  rw [← Nat.shiftLeft_add_eq_or_of_lt hn, Nat.shiftLeft_eq]

theorem identifier_kind (k : Kind) (n : Station) : (identifier k n).toNat / 64 = k.code.toNat := by
  have hn := n.isLt
  rw [identifier_toNat]
  omega

theorem identifier_station (k : Kind) (n : Station) : ((identifier k n).extractLsb' 0 6).toFin = n := by
  have hn := n.isLt
  apply Fin.ext
  show ((identifier k n).extractLsb' 0 6).toNat = n.val
  rw [BitVec.extractLsb'_toNat, identifier_toNat]
  simp only [Nat.shiftRight_zero]
  omega

/-! ### The frame whole -/

theorem payload_length_lt (f : Frame) : f.payload.length < 254 := by
  cases f with
  | status _ _ _ s => cases hd : s.draw <;> cases he : s.estimate <;>
      simp [Frame.payload, bytes16, quietBytes, optionalBytes, hd, he]
  | _ => simp [Frame.payload, bytes16]

/-- Payload and identifier give the fields of the frame back. -/
theorem readPayload_payload (f : Frame) : readPayload f.kind.code.toNat f.station f.payload = some f := by
  cases f with
  | shed n net excess =>
    show some (Frame.shed n (word16 _ _) (word16 _ _)) = _
    rw [word16_bytes, word16_bytes]
  | leave n net serial =>
    show some (Frame.leave n (word16 _ _) serial) = _
    rw [word16_bytes]
  | announce n net c =>
    show (readClaim _ _ _ _ _ _ _ _).map (fun c => Frame.announce n (word16 _ _) c) = _
    rw [readClaim_bytes, word16_bytes]
    rfl
  | status n net c s =>
    have hpayload : (Frame.status n net c s).payload = hiByte net :: loByte net :: hiByte s.rosterDigest ::
        loByte s.rosterDigest :: c.serial :: stateFlagsByte c.flags :: hiByte c.min :: loByte c.min :: hiByte c.max ::
        loByte c.max :: hiByte c.demand :: loByte c.demand :: hiByte s.grant :: loByte s.grant ::
        s.quiet.extractLsb' 56 8 :: s.quiet.extractLsb' 48 8 :: s.quiet.extractLsb' 40 8 :: s.quiet.extractLsb' 32 8 ::
        s.quiet.extractLsb' 24 8 :: s.quiet.extractLsb' 16 8 :: s.quiet.extractLsb' 8 8 :: s.quiet.extractLsb' 0 8 ::
        presenceByte s.draw s.estimate :: (optionalBytes s.draw ++ optionalBytes s.estimate) := rfl
    rw [hpayload]
    show readPayload 3 n _ = _
    simp only [readPayload, readClaim_bytes, readOptional_bytes, word16_bytes, quiet_bytes]

/-- The check field is split off again (R95). -/
theorem splitFrame_bytes (f : Frame) :
    splitFrame f.bytes = some (identifier f.kind f.station, f.payload, crc16 f.body) := by
  have hlen := payload_length_lt f
  have hnat : (BitVec.ofNat 8 f.payload.length).toNat = f.payload.length := by
    rw [BitVec.toNat_ofNat]
    exact Nat.mod_eq_of_lt (by omega)
  simp [Frame.bytes, Frame.body, splitFrame, hnat, bytes16, word16_bytes]

end Sys2Proof.Machine

section
open Sys2Proof Sys2Proof.Machine Sys2Proof.Safety Sys2Proof.Claims

/-- Settles O52: the check field is the CRC of the bytes before it, and each field comes back from its bytes. -/
theorem framesAreReadBackFromTheirBytes : Obligations.FramesAreReadBackFromTheirBytes := by
  intro f hf
  have hcheck : crc16 (identifier f.kind f.station :: BitVec.ofNat 8 f.payload.length :: f.payload) = crc16 f.body := rfl
  unfold judgeFrame
  rw [splitFrame_bytes, Option.map_some]
  dsimp only
  rw [if_pos hcheck, identifier_kind, identifier_station, readPayload_payload]
  exact congrArg some (if_pos hf)

end
end

section
/-! Own attempts: the request that comes back, the end of an attempt case by case, and the content of our frames
(R92 to R94, R99, R104 to R113). -/

namespace Sys2Proof.Machine

open Sys2Proof.Safety Sys2Proof.Claims

/-! ### The count of recessive bits (R88) -/

/-- From 0 the count is that of the recessive bits at the end. -/
theorem countRecessive_eq_trailing (bits : List Bool) : countRecessive 0 bits = trailingRecessive bits := by
  induction bits using List.reverseRecOn with
  | nil => rfl
  | append_singleton bits b ih =>
    cases b with
    | false => simp [trailingRecessive]
    | true => simp [ih, trailingRecessive]

/-- The count after our two slots (R88, R99). -/
theorem countRecessive_slots (bits : List Bool) (accept refuse : Bool) : countRecessive 0 (bits ++ [!accept, !refuse]) =
    if refuse then 0 else if accept then 1 else trailingRecessive bits + 2 := by
  rw [countRecessive_append, countRecessive_eq_trailing]
  cases refuse <;> cases accept <;> simp [countRecessive]

/-! ### The request that comes back (R110, R111) -/

/-- One request of two: the larger retry count and the larger excess. -/
def Request.merged (r : Request) : Option Request → Request
  | none => r
  | some q => { retry := max r.retry q.retry, excess := max r.excess q.excess }

/-- The list with a request back in its slot, where the state keeps its kind (R110, R111). -/
def State.listWith (s : State) (k : Kind) (r : Request) : Scheduler :=
  if s.life.state.keeps k then s.sched.setSlot k (some (r.merged (s.sched.slot k))) else s.sched

theorem returnRequest_eq (k : Kind) (r : Request) (s : State) : returnRequest k r s = { s with sched := s.listWith k r } := by
  unfold returnRequest State.listWith
  split
  · cases s.sched.slot k <;> rfl
  · rfl

/-- The spacing timer after an attempt that took the bus (R109). -/
def State.gapAfter (s : State) (k : Kind) : Timer :=
  if k = .status then some (s.now + s.params.cyclePeriod / 4) else s.sched.spacing

theorem startSpacing_eq {o : AttemptOutcome} (h : o ≠ .lost) (k : Kind) (s : State) :
    startSpacing o k s = { s with sched := { s.sched with spacing := s.gapAfter k } } := by
  unfold startSpacing State.gapAfter
  by_cases hk : k = .status <;> simp [hk, h]

/-! ### The bookkeeping at the end of an attempt (R101, R110) -/

/-- The bus after an outcome: counted, with no attempt on the line. -/
def State.busAfter (s : State) (o : AttemptOutcome) : BusInterface :=
  { s.bus.count o with attempt := none, trailer := s.trailerAfterAttempt }

/-- ACCEPTED and UNHEARD remove the request. -/
theorem finishAttempt_removed {o : AttemptOutcome} (h : o = .accepted ∨ o = .unheard) (f : InFlight) (s : State) :
    finishAttempt o f s = { s with
      bus := s.busAfter o, sched := { s.sched with inFlight := none, spacing := s.gapAfter f.kind } } := by
  unfold finishAttempt
  rcases h with rfl | rfl <;> rw [startSpacing_eq (by decide)] <;> rfl

/-- LOST returns the request as it was. -/
theorem finishAttempt_lost (f : InFlight) (s : State) : finishAttempt .lost f s = { s with
    bus := s.busAfter .lost, sched := { s.listWith f.kind f.request with inFlight := none } } := by
  have hdispose : ∀ v : State, disposeRequest .lost f v = returnRequest f.kind f.request v := fun _ => rfl
  unfold finishAttempt
  rw [startSpacing, if_neg (by simp), hdispose, returnRequest_eq]
  refine congrArg (fun c => ({ s with bus := s.busAfter .lost, sched := c } : State)) ?_
  unfold State.listWith
  dsimp only
  split
  · cases f.kind <;> rfl
  · rfl

/-- PARTIAL and ABORTED below the last retry return the request with its count raised. -/
theorem finishAttempt_retried {o : AttemptOutcome} {f : InFlight} (h : o = .partly ∨ o = .aborted)
    (hretry : f.request.retry < 3) (s : State) : finishAttempt o f s = { s with
      bus := s.busAfter o
      sched := { s.listWith f.kind { f.request with retry := f.request.retry + 1 } with
        inFlight := none, spacing := s.gapAfter f.kind } } := by
  have hdrops : o.drops f.request = false := by simp [AttemptOutcome.drops, hretry]
  have hdispose : ∀ v : State, disposeRequest o f v =
      returnRequest f.kind { f.request with retry := f.request.retry + 1 } v := fun v => by
    rcases h with rfl | rfl <;> exact if_neg (by rw [hdrops]; decide)
  have hne : o ≠ .lost := by rcases h with rfl | rfl <;> decide
  unfold finishAttempt
  rw [startSpacing_eq hne, hdispose, returnRequest_eq]
  refine congrArg (fun c => ({ s with bus := s.busAfter o, sched := c } : State)) ?_
  unfold State.listWith State.gapAfter
  dsimp only
  split
  · cases f.kind <;> rfl
  · cases f.kind <;> rfl

/-- PARTIAL and ABORTED at the last retry drop the request and count it. -/
theorem finishAttempt_dropped {o : AttemptOutcome} {f : InFlight} (h : o = .partly ∨ o = .aborted)
    (hretry : f.request.retry = 3) (s : State) : finishAttempt o f s = { s with
      bus := s.busAfter o
      sched := { s.sched with
        inFlight := none, spacing := s.gapAfter f.kind, requestsDropped := bump s.sched.requestsDropped } } := by
  have hdrops : o.drops f.request = true := by rcases h with rfl | rfl <;> simp [AttemptOutcome.drops, AttemptOutcome.retried, hretry]
  have hdispose : ∀ v : State, disposeRequest o f v =
      { v with sched := { v.sched with requestsDropped := bump v.sched.requestsDropped } } := fun v => by
    rcases h with rfl | rfl <;> exact if_pos hdrops
  have hne : o ≠ .lost := by rcases h with rfl | rfl <;> decide
  unfold finishAttempt
  rw [startSpacing_eq hne, hdispose]
  rfl

/-! ### The hand-off at the end of an attempt (R112) -/

/-- In a window that stays open an outcome is one frame event more (R117, R118). -/
theorem reportOutcome_open {o : AttemptOutcome} {s : State} (hopen : s.link.events + 1 < s.params.window) (h : o ≠ .lost) :
    reportOutcome o s = { s with link := { s.link with
      events := s.link.events + 1, damaged := s.link.damaged + (if o.retried then 1 else 0) } } := by
  cases o with
  | lost => exact absurd rfl h
  | _ => exact frameEvent_of_lt_window _ hopen

theorem endAttempt_open {o : AttemptOutcome} {f : InFlight} {s : State} (hopen : s.link.events + 1 < s.params.window)
    (h : o ≠ .lost) : endAttempt o f s = lifecycleOutcome o f.kind (s.limitReached o) (o.drops f.request)
      (countIsolation o { finishAttempt o f s with link := { s.link with
        events := s.link.events + 1, damaged := s.link.damaged + (if o.retried then 1 else 0) } }) := by
  have hparams : (finishAttempt o f s).params = s.params := params_congr (by simp)
  have hlimit : (finishAttempt o f s).limitReached o = s.limitReached o := by simp [State.limitReached]
  rw [endAttempt_eq, reportOutcome_open (by simpa [hparams] using hopen) h, hlimit]
  simp only [finishAttempt_frame]

/-- An outcome that neither enters nor ends ISOLATED, nor ends LEAVING, sets the marks alone (R73). -/
theorem lifecycleOutcome_marks {o : AttemptOutcome} {k : Kind} {dropped : Bool} {s : State}
    (hiso : ¬(s.life.state = .isolated ∧ o.heard = true))
    (hleave : ¬(s.life.state = .leaving ∧ k = .leave ∧ o.endsLeave dropped = true)) :
    lifecycleOutcome o k false dropped s = setMarks o s := by
  unfold lifecycleOutcome
  simp only [Bool.false_eq_true, if_false, setMarks_frame]
  rw [if_neg hiso, if_neg hleave]

theorem countIsolation_elsewhere {o : AttemptOutcome} {s : State} (h : s.life.state.participates = false) :
    countIsolation o s = s := if_neg (by simp [h])

theorem countIsolation_unheard {s : State} (h : s.life.state.participates = true) : countIsolation .unheard s =
    { s with sched := { s.sched with isolationCount := min 5 (s.sched.isolationCount + 1) } } := if_pos h

theorem countIsolation_heard {o : AttemptOutcome} {s : State} (h : s.life.state.participates = true) (ho : o.heard = true) :
    countIsolation o s = { s with sched := { s.sched with isolationCount := 0 } } := by
  cases o with
  | accepted => exact if_pos h
  | partly => exact if_pos h
  | _ => cases ho

theorem countIsolation_aborted (s : State) : countIsolation .aborted s = s := ite_self s

theorem limitReached_of_ne {o : AttemptOutcome} {s : State} (h : o ≠ .unheard) : s.limitReached o = false := by
  simp [State.limitReached, h]

/-- LOST hands nothing on (R112, R117). -/
theorem endAttempt_lost (f : InFlight) (s : State) : endAttempt .lost f s = finishAttempt .lost f s := by
  have hcount : ∀ v : State, countIsolation .lost v = v := fun v => ite_self v
  have hreport : ∀ v : State, reportOutcome .lost v = v := fun _ => rfl
  rw [endAttempt_eq, limitReached_of_ne (by decide), hreport, hcount,
    lifecycleOutcome_marks (by simp [AttemptOutcome.heard])
      (by simp [AttemptOutcome.endsLeave, AttemptOutcome.drops, AttemptOutcome.retried])]
  rfl

/-! ### The attempt on the line -/

section
variable {s : State} {a : Attempt} {f : InFlight} (ha : s.bus.attempt = some a) (hf : s.sched.inFlight = some f)
include ha hf

theorem ownAttempt_some : s.ownAttempt = some (a, f) := by
  unfold State.ownAttempt
  rw [ha, hf]

theorem takeOutcome_open {accept refuse : Bool} (hfirst : a.first ≠ .broken) : takeOutcome accept refuse s =
    endAttempt (outcomeOf accept refuse) f (slotsRead accept refuse a.frame s) := by
  have hopen : s.openAttempt = some (a, f) :=
    (openAttempt_of_not_broken ((firstFrame_of_attempt ha).trans_ne hfirst)).trans (ownAttempt_some ha hf)
  unfold takeOutcome
  rw [hopen]

theorem loseAt_own {pos : Nat} (h : a.lostAt pos = true) :
    loseAt pos s = endAttempt .lost f (keepAssembling .afterLost a.frame pos s) := by
  unfold loseAt
  rw [ownAttempt_some ha hf]
  exact if_pos h

theorem abortAt_own {pos : Nat} (h : a.breaksAt pos = true) :
    abortAt pos s = endAttempt .aborted f (keepAssembling .afterAborted a.frame pos s) := by
  unfold abortAt
  rw [ownAttempt_some ha hf]
  exact if_pos h

end

theorem trailerAfter_of_attempt {s : State} {a : Attempt} (h : s.bus.attempt = some a) :
    s.trailerAfterAttempt = if a.first = .nothing then .neither else s.bus.trailer := by
  unfold State.trailerAfterAttempt
  rw [firstFrame_of_attempt h]

theorem Attempt.breaksAt_of {a : Attempt} {pos : Nat} (h : abortsAt a.frame pos = true) (hpeer : a.first ≠ .peer)
    (hbroken : a.first = .broken → pos = a.frame.lastBit) : a.breaksAt pos = true := by
  unfold Attempt.breaksAt
  cases hfirst : a.first with
  | nothing => simp [h]
  | broken => simp [← hbroken hfirst, h]
  | peer => exact absurd hfirst hpeer

end Sys2Proof.Machine
end

section
/-! ATTEMPT_START with the content of our frames, and the ends of an attempt by LOST, ABORTED and the trailer. -/

namespace Sys2Proof.Machine

open Sys2Proof.Safety Sys2Proof.Claims

/-! ### The offered request (R107) -/

theorem eligible_of_empty {s : State} {k : Kind} (h : s.sched.slot k = none) : s.eligible k = false := by
  simp [State.eligible, h]

theorem eligible_status_held {s : State} (h : s.sched.spacing ≠ none) : s.eligible .status = false := by
  have hgap : s.sched.spacing.isNone = false := by
    cases hs : s.sched.spacing with
    | none => exact absurd hs h
    | some _ => rfl
  simp [State.eligible, hgap]

theorem eligible_of_some {s : State} {k : Kind} {r : Request} (h : s.sched.slot k = some r)
    (hk : s.life.state.keeps k = true) (hgap : k = .status → s.sched.spacing = none) : s.eligible k = true := by
  by_cases hs : k = .status
  · simp [State.eligible, h, hk, hgap hs]
  · simp [State.eligible, h, hk, hs]

/-- The first eligible kind in the order of R107 is the one offered. -/
theorem offered_eq (s : State) : s.offered = if s.eligible .shed then some .shed else if s.eligible .leave then some .leave
    else if s.eligible .announce then some .announce else if s.eligible .status then some .status else none := by
  unfold State.offered
  simp only [List.find?_cons, List.find?_nil]
  cases s.eligible .shed <;> cases s.eligible .leave <;> cases s.eligible .announce <;> cases s.eligible .status <;> rfl

theorem startOffered_some {s : State} {k : Kind} {r : Request} (h : s.offered = some k) (hr : s.sched.slot k = some r) :
    startOffered s = startAttempt k r s := by
  have hoffer : s.offer = some (k, r) := by
    unfold State.offer
    rw [h]
    dsimp only
    rw [hr]
    rfl
  unfold startOffered
  rw [hoffer]

theorem startOffered_none {s : State} (h : s.offered = none) : startOffered s = s := by
  have hoffer : s.offer = none := by
    unfold State.offer
    rw [h]
  unfold startOffered
  rw [hoffer]

theorem exec_attemptStart {t : Time} {s : State} (hr : s.restartInput = false) (hi : s.bus.idle = true)
    (ha : s.bus.attempt = none) (hf : s.sched.inFlight = none) :
    exec (.attemptStart t) s = .next (startOffered (s.atTime t)) := by
  have hmay : onlyIf State.mayStart startOffered (s.atTime t) = startOffered (s.atTime t) :=
    onlyIf_holds (by simp [State.mayStart, hi, ha, hf])
  exact (arrive_released hr).trans (congrArg _ hmay)

theorem keeps_sent {st : StationState} {k : Kind} (h : st ∈ [StationState.joining, .active, .isolated]) :
    st.keeps k = true := by
  simp only [List.mem_cons, List.not_mem_nil, or_false] at h
  rcases h with rfl | rfl | rfl <;> rfl

theorem keeps_sent_leaving {st : StationState} {k : Kind} (h : st ∈ [StationState.joining, .active, .isolated, .leaving])
    (hk : k = .shed ∨ k = .leave) : st.keeps k = true := by
  simp only [List.mem_cons, List.not_mem_nil, or_false] at h
  rcases h with rfl | rfl | rfl | rfl <;> rcases hk with rfl | rfl <;> rfl

/-! ### The content of our frames (T 6-4) -/

/-- The state code stands in the three most significant bits (T 5-4). -/
theorem stateFlagsByte_code (f : StateFlags) : (stateFlagsByte f).toNat / 32 = f.state.code.toNat := by
  obtain ⟨state, priority, degraded, cut, parked⟩ := f
  revert priority degraded cut parked
  cases state <;> decide

/-- The bit of one station in the quiet set. -/
theorem quietBit_getMsbD (k n : Station) : (0x8000000000000000#64 >>> k.val).getMsbD n.val = decide (k = n) := by
  have hpow : 0x8000000000000000#64 = BitVec.twoPow 64 63 := by decide
  have hk := k.isLt
  have hn := n.isLt
  rw [hpow, BitVec.getMsbD, BitVec.getLsbD_ushiftRight, BitVec.getLsbD_twoPow, decide_eq_true hn, Bool.true_and]
  have hsame : (63 = k.val + (64 - 1 - n.val)) ↔ k = n := by
    rw [Fin.ext_iff]
    omega
  exact decide_eq_decide.mpr hsame

theorem quietFold_getMsbD (n : Station) (es : List Entry) (q : BitVec 64) :
    (es.foldl (fun q e => if e.cls = .quiet then q ||| (0x8000000000000000#64 >>> e.station.val) else q) q).getMsbD n.val =
      true ↔ q.getMsbD n.val = true ∨ ∃ e ∈ es, e.station = n ∧ e.cls = .quiet := by
  induction es generalizing q with
  | nil => simp
  | cons e es ih =>
    rw [List.foldl_cons, ih, List.exists_mem_cons_iff]
    by_cases hq : e.cls = .quiet
    · rw [if_pos hq, BitVec.getMsbD_or, quietBit_getMsbD, Bool.or_eq_true, decide_eq_true_eq]
      simp only [hq, and_true, or_assoc]
    · rw [if_neg hq]
      simp only [hq, and_false, false_or]

/-- The quiet set holds the numbers of the QUIET entries and no other (R33). -/
theorem quietSet_getMsbD (n : Station) (es : List Entry) :
    (quietSet es).getMsbD n.val = true ↔ ∃ e ∈ es, e.station = n ∧ e.cls = .quiet := by
  rw [quietSet, quietFold_getMsbD]
  simp

theorem ownNetwork_some {s : State} {d : Word16} (h : s.loader.networkDigest = some d) : s.ownNetwork = d := by
  rw [State.ownNetwork, h]
  rfl

theorem cutFlag_eq_decide (s : State) : s.cutFlag = decide (s.enf.state = .cut ∨ s.enf.state = .cooling) := by
  unfold State.cutFlag
  cases s.enf.state <;> rfl

theorem listWith_of_same {s u : State} (hsched : u.sched = s.sched) (hlife : u.life = s.life) (k : Kind) (r : Request) :
    u.listWith k r = s.listWith k r := by
  simp [State.listWith, hsched, hlife]

/-! ### The outcomes at the row (R93, R94, R99) -/

theorem exec_attemptOutcomeTaken {t : Time} {accept refuse : Bool} {a : Attempt} {f : InFlight} {s : State}
    (hr : s.restartInput = false) (ha : s.bus.attempt = some a) (hfirst : a.first ≠ .broken)
    (hf : s.sched.inFlight = some f) : exec (.attemptOutcomeTaken t accept refuse) s =
      .next (endAttempt (outcomeOf accept refuse) f (slotsRead accept refuse a.frame (s.atTime t))) :=
  (arrive_released hr).trans (congrArg _ (takeOutcome_open (s := s.atTime t) ha hf hfirst))

theorem exec_attemptAborted {t : Time} {pos : Nat} {a : Attempt} {f : InFlight} {s : State} (hr : s.restartInput = false)
    (ha : s.bus.attempt = some a) (hf : s.sched.inFlight = some f) (h : a.breaksAt pos = true) :
    exec (.attemptAborted t pos) s = .next (endAttempt .aborted f (keepAssembling .afterAborted a.frame pos (s.atTime t))) :=
  (arrive_released hr).trans (congrArg _ (abortAt_own (s := s.atTime t) ha hf h))

theorem exec_requestDropped {t : Time} {cause : DropCause} {f : InFlight} {s : State} (hr : s.restartInput = false)
    (hf : s.sched.inFlight = some f) (h : f.request.retry = 3) :
    exec (.requestDropped t cause) s = .next (takeDrop cause (s.atTime t)) := by
  have hlast : onlyIf State.lastRetry (takeDrop cause) (s.atTime t) = takeDrop cause (s.atTime t) := by
    refine onlyIf_holds ?_
    unfold State.lastRetry
    simp [hf, h]
  exact (arrive_released hr).trans (congrArg _ hlast)

end Sys2Proof.Machine

section
open Sys2Proof Sys2Proof.Machine Sys2Proof.Safety Sys2Proof.Claims

/-- Settles O21: the first eligible request starts, and its frame is read from the blocks as they stand. -/
theorem attemptStartsWithItsContentFixed : Obligations.AttemptStartsWithItsContentFixed := by
  refine ⟨fun t s hr hi ha hf => ?_, fun s r d hd => ?_, fun s r d rep code hd hrep => ?_⟩
  · intro begun
    have hstart : ∀ k r, (s.atTime t).offered = some k → s.sched.slot k = some r →
        exec (.attemptStart t) s = .next (startAttempt k r (s.atTime t)) := fun k r ho hs =>
      (exec_attemptStart hr hi ha hf).trans (congrArg _ (startOffered_some ho hs))
    refine ⟨fun r hs hst => ?_, fun r h1 hs hst => ?_, fun r h1 h2 hs hst => ?_, fun r h1 h2 h3 hs hgap hst => ?_,
      fun h1 h2 h3 hgap => ?_⟩
    · have he : (s.atTime t).eligible .shed = true := eligible_of_some (r := r) hs (keeps_sent_leaving hst (.inl rfl)) (by simp)
      exact hstart .shed r (by rw [offered_eq, he]; rfl) hs
    · have n1 : (s.atTime t).eligible .shed = false := eligible_of_empty h1
      have he : (s.atTime t).eligible .leave = true := eligible_of_some (r := r) hs (keeps_sent_leaving hst (.inr rfl)) (by simp)
      exact hstart .leave r (by rw [offered_eq, n1, he]; rfl) hs
    · have n1 : (s.atTime t).eligible .shed = false := eligible_of_empty h1
      have n2 : (s.atTime t).eligible .leave = false := eligible_of_empty h2
      have he : (s.atTime t).eligible .announce = true := eligible_of_some (r := r) hs (keeps_sent hst) (by simp)
      exact hstart .announce r (by rw [offered_eq, n1, n2, he]; rfl) hs
    · have n1 : (s.atTime t).eligible .shed = false := eligible_of_empty h1
      have n2 : (s.atTime t).eligible .leave = false := eligible_of_empty h2
      have n3 : (s.atTime t).eligible .announce = false := eligible_of_empty h3
      have he : (s.atTime t).eligible .status = true := eligible_of_some (r := r) hs (keeps_sent hst) fun _ => hgap
      exact hstart .status r (by rw [offered_eq, n1, n2, n3, he]; rfl) hs
    · have n1 : (s.atTime t).eligible .shed = false := eligible_of_empty h1
      have n2 : (s.atTime t).eligible .leave = false := eligible_of_empty h2
      have n3 : (s.atTime t).eligible .announce = false := eligible_of_empty h3
      have n4 : (s.atTime t).eligible .status = false := eligible_status_held hgap
      rw [exec_attemptStart hr hi ha hf, startOffered_none (by rw [offered_eq, n1, n2, n3, n4]; rfl)]
  · simp [State.frameFor, ownNetwork_some hd, field16]
  · intro c
    have hreported : s.life.state.reported = rep ∧ rep.code.toNat = code := by
      rcases hrep with ⟨hst, rfl, rfl⟩ | ⟨hst, rfl, rfl⟩ | ⟨hst, rfl, rfl⟩ <;> rw [hst] <;> exact ⟨rfl, rfl⟩
    obtain ⟨hrep', hcode⟩ := hreported
    have hc : s.claimPart = c := by simp [State.claimPart, c, field16, hrep', cutFlag_eq_decide]
    refine ⟨(stateFlagsByte_code _).trans hcode, ?_, quietSet s.roster.entries, ?_, fun n => quietSet_getMsbD n _⟩
    · simp [State.frameFor, ownNetwork_some hd, hc]
    · have hdraw : s.meter.load.settledSlow.map field16 =
          if s.meter.load.slowCount = 4 then s.meter.load.slow.map (BitVec.ofNat 16) else none := by
        unfold Channel.settledSlow
        split <;> rfl
      have hestimate : s.ownEstimate.map field16 =
          if s.params.feederSensing then s.meter.estimate.map (BitVec.ofNat 16) else none := by
        unfold State.ownEstimate
        split <;> rfl
      simp only [State.frameFor, State.statusPart, ownNetwork_some hd, hc, hdraw, hestimate]
      rfl

/-- Settles O22: the bookkeeping of LOST, with the bits taken so far. -/
theorem lostAttemptReturnsItsRequest : Obligations.LostAttemptReturnsItsRequest := by
  intro t pos a f s hr ha hf hlose hfirst
  have hlost : a.lostAt pos = true := by simp [Attempt.lostAt, hfirst, hlose]
  have hexec : exec (.attemptLost t pos) s = .next (loseAt pos (s.atTime t)) := arrive_released hr
  have hbit : a.frame.lineBits.getD pos true = true := by
    have hdominant : a.frame.lineBits.getD pos false = true := (Bool.and_eq_true_iff.mp hlose).2
    by_cases hlt : pos < a.frame.lineBits.length
    · simpa [List.getD_eq_getElem?_getD, hlt] using hdominant
    · simp [List.getD_eq_getElem?_getD, hlt]
  have hcount : countRecessive 0 (a.frame.readUpTo pos) = 0 := by
    rw [Frame.readUpTo, hbit]
    exact countRecessive_dominant _ _
  have hfirstFrame : (s.atTime t).firstFrame = .nothing := (firstFrame_of_attempt (s := s.atTime t) ha).trans hfirst
  have hkeep : keepAssembling .afterLost a.frame pos (s.atTime t) = { s.atTime t with bus := { s.bus with
      assembly := if s.life.state.takesFrames then assemblyAfter .afterLost a.frame pos else .empty, recessive := 0 } } := by
    unfold keepAssembling
    rw [hfirstFrame, hcount]
    simp
  have htrailer : (keepAssembling .afterLost a.frame pos (s.atTime t)).trailerAfterAttempt = .neither :=
    trailerAfterAttempt_of_nothing hfirstFrame
  have hlist := listWith_of_same (s := s) (u := keepAssembling .afterLost a.frame pos (s.atTime t)) (by rw [hkeep]; rfl)
    (by rw [hkeep]; rfl) f.kind f.request
  rw [hexec, loseAt_own (s := s.atTime t) ha hf hlost, endAttempt_lost, finishAttempt_lost, State.busAfter, htrailer, hlist,
    hkeep]
  refine congrArg Host.Outcome.next ?_
  unfold State.listWith
  cases s.sched.slot f.kind <;> rfl

end
end

section
/-! The outcomes of an attempt as T 5-5, T 6-5 and T 7-2 give them: ABORTED, PARTIAL, ACCEPTED and UNHEARD (R94, R99, R110,
R113). -/

namespace Sys2Proof.Machine

open Sys2Proof.Safety Sys2Proof.Claims

/-! ### What the receive side holds at an outcome -/

theorem keepAssembling_of_attempt {s : State} {a : Attempt} (ha : s.bus.attempt = some a) (o : AssemblyOrigin) (pos : Nat) :
    keepAssembling o a.frame pos s = { s with bus := { s.bus with
      assembly := if s.life.state.takesFrames = true ∧ a.first = .nothing then assemblyAfter o a.frame pos else .empty
      recessive := if a.first = .nothing then
          trailingRecessive (a.frame.lineBits.take pos ++ [!(a.frame.lineBits.getD pos true)])
        else s.bus.recessive } } := by
  simp [keepAssembling, firstFrame_of_attempt ha, countRecessive_eq_trailing, Frame.readUpTo]

theorem slotsRead_eq (accept refuse : Bool) (f : Frame) (s : State) : slotsRead accept refuse f s = { s with
    bus := { s.bus with
      recessive := if refuse then 0 else if accept then 1 else trailingRecessive f.lineBits + 2, endLeft := 8 } } := by
  simp [slotsRead, countRecessive_slots]

/-! ### The end of an attempt that neither enters nor ends ISOLATED, nor ends LEAVING -/

/-- The Link Monitor after an outcome that is a frame event, in a window that stays open (R112, R117). -/
def State.linkAfter (s : State) (o : AttemptOutcome) : LinkMonitor :=
  { s.link with events := s.link.events + 1, damaged := s.link.damaged + (if o.retried then 1 else 0) }

section
variable {f : InFlight} {s : State} (hopen : s.link.events + 1 < s.params.window)
include hopen

theorem endAttempt_marks {o : AttemptOutcome} (ho : o ≠ .lost) (hlimit : s.limitReached o = false)
    (hiso : ¬(s.life.state = .isolated ∧ o.heard = true))
    (hleave : ¬(s.life.state = .leaving ∧ f.kind = .leave ∧ o.endsLeave (o.drops f.request) = true)) :
    endAttempt o f s = setMarks o (countIsolation o { finishAttempt o f s with link := s.linkAfter o }) := by
  rw [endAttempt_open hopen ho, hlimit]
  exact lifecycleOutcome_marks (by simpa using hiso) (by simpa using hleave)

/-- ABORTED changes neither the isolation count nor the marks (R72, R73). -/
theorem endAttempt_aborted (hleave : ¬(s.life.state = .leaving ∧ f.kind = .leave ∧ 3 ≤ f.request.retry)) :
    endAttempt .aborted f s = { finishAttempt .aborted f s with link := s.linkAfter .aborted } := by
  rw [endAttempt_marks hopen (by decide) (limitReached_of_ne (by decide)) (by simp [AttemptOutcome.heard])
      (by simpa [AttemptOutcome.endsLeave, AttemptOutcome.drops, AttemptOutcome.retried] using hleave),
    countIsolation_aborted]
  rfl

/-- An outcome heard in JOINING or ACTIVE clears the isolation count (R72). -/
theorem endAttempt_heard {o : AttemptOutcome} (ho : o.heard = true) (h : s.life.state = .joining ∨ s.life.state = .active) :
    endAttempt o f s = setMarks o { finishAttempt o f s with
      link := s.linkAfter o, sched := { (finishAttempt o f s).sched with isolationCount := 0 } } := by
  have hpart : s.life.state.participates = true := by rcases h with h | h <;> rw [h] <;> rfl
  have hiso : s.life.state ≠ .isolated := by rcases h with h | h <;> rw [h] <;> decide
  have hleave : s.life.state ≠ .leaving := by rcases h with h | h <;> rw [h] <;> decide
  have hlost : o ≠ .lost := fun hc => by rw [hc] at ho; cases ho
  have hunheard : o ≠ .unheard := fun hc => by rw [hc] at ho; cases ho
  rw [endAttempt_marks hopen hlost (limitReached_of_ne hunheard) (fun hc => hiso hc.1) (fun hc => hleave hc.1),
    countIsolation_heard (by simpa using hpart) ho]

/-- UNHEARD below the limit, in JOINING, ACTIVE and ISOLATED (R72, R113). -/
theorem endAttempt_unheard (hlimit : s.limitReached .unheard = false) (h : s.life.state.participates = true) :
    endAttempt .unheard f s = { finishAttempt .unheard f s with
      link := s.linkAfter .unheard
      sched := { (finishAttempt .unheard f s).sched with
        isolationCount := min 5 ((finishAttempt .unheard f s).sched.isolationCount + 1) } } := by
  have hleave : s.life.state ≠ .leaving := fun hc => by rw [hc] at h; cases h
  rw [endAttempt_marks hopen (by decide) hlimit (by simp [AttemptOutcome.heard]) (fun hc => hleave hc.1),
    countIsolation_unheard (by simpa using h)]
  rfl

/-- Outside JOINING, ACTIVE and ISOLATED an outcome sets the marks alone (R72, R73, R79). -/
theorem endAttempt_elsewhere {o : AttemptOutcome} (ho : o ≠ .lost) (h : s.life.state.participates = false)
    (hleave : ¬(s.life.state = .leaving ∧ f.kind = .leave ∧ o.endsLeave (o.drops f.request) = true)) :
    endAttempt o f s = setMarks o { finishAttempt o f s with link := s.linkAfter o } := by
  have hiso : s.life.state ≠ .isolated := fun hc => by rw [hc] at h; cases h
  have hlimit : s.limitReached o = false := by
    have hjoining : s.life.state ≠ .joining := fun hc => by rw [hc] at h; cases h
    have hactive : s.life.state ≠ .active := fun hc => by rw [hc] at h; cases h
    simp [State.limitReached, hjoining, hactive]
  rw [endAttempt_marks hopen ho hlimit (fun hc => hiso hc.1) hleave, countIsolation_elsewhere (by simpa using h)]

end

theorem setMarks_life (o : AttemptOutcome) (s : State) : (setMarks o s).life = { s.life with
    tClean := if o = .accepted then some s.now else s.life.tClean
    tAny := if o.heard = true then some s.now else s.life.tAny } := by
  cases o <;> rfl

/-! ### The outcomes row by row -/

section
variable {s : State} {a : Attempt} {f : InFlight}

/-- ABORTED, as the row hands it on. -/
def State.abortedRead (s : State) (a : Attempt) (pos : Nat) : State := { s with bus := { s.bus with
  assembly := if s.life.state.takesFrames = true ∧ a.first = .nothing then assemblyAfter .afterAborted a.frame pos else .empty
  recessive := if a.first = .nothing then
      trailingRecessive (a.frame.lineBits.take pos ++ [!(a.frame.lineBits.getD pos true)])
    else s.bus.recessive } }

theorem exec_aborted {t : Time} {pos : Nat} (hopen : OpenWindow s) (ha : s.bus.attempt = some a)
    (hf : s.sched.inFlight = some f) (hb : a.breaksAt pos = true)
    (hleave : ¬(s.life.state = .leaving ∧ f.kind = .leave ∧ 3 ≤ f.request.retry)) :
    exec (.attemptAborted t pos) s = .next { finishAttempt .aborted f ((s.atTime t).abortedRead a pos) with
      link := s.linkAfter .aborted } := by
  rw [exec_attemptAborted hopen.1 ha hf hb, keepAssembling_of_attempt (s := s.atTime t) ha,
    endAttempt_aborted (s := { s.atTime t with bus := _ }) (by exact hopen.2) hleave]
  rfl

/-- The trailer after an attempt, of a state that differs from `s` in other parts. -/
theorem trailerAfter_same {u : State} (ha : s.bus.attempt = some a) (hattempt : u.bus.attempt = s.bus.attempt)
    (htrailer : u.bus.trailer = s.bus.trailer) :
    u.trailerAfterAttempt = if a.first = .nothing then .neither else s.bus.trailer := by
  rw [trailerAfter_of_attempt (hattempt.trans ha), htrailer]

/-- What the slots read leave, as the row hands it on. -/
def State.slotsTaken (s : State) (accept refuse : Bool) (a : Attempt) : State := { s with bus := { s.bus with
  recessive := if refuse then 0 else if accept then 1 else trailingRecessive a.frame.lineBits + 2, endLeft := 8 } }

theorem exec_outcome {t : Time} {accept refuse : Bool} (hopen : OpenWindow s) (ha : s.bus.attempt = some a)
    (hfirst : a.first ≠ .broken) (hf : s.sched.inFlight = some f) : exec (.attemptOutcomeTaken t accept refuse) s =
      .next (endAttempt (outcomeOf accept refuse) f ((s.atTime t).slotsTaken accept refuse a)) := by
  rw [exec_attemptOutcomeTaken hopen.1 ha hfirst hf, slotsRead_eq]
  rfl

theorem exec_dropPartly {t : Time} (hopen : OpenWindow s) (ha : s.bus.attempt = some a)
    (hfirst : a.first ≠ .broken) (hf : s.sched.inFlight = some f) (hretry : f.request.retry = 3) :
    exec (.requestDropped t .partly) s = .next (endAttempt .partly f ((s.atTime t).slotsTaken true true a)) := by
  have hdrop : takeDrop .partly (s.atTime t) = takeOutcome true true (s.atTime t) := rfl
  rw [exec_requestDropped hopen.1 hf hretry, hdrop, takeOutcome_open (s := s.atTime t) ha hf hfirst, slotsRead_eq]
  rfl

theorem exec_dropAborted {t : Time} {pos : Nat} (hr : s.restartInput = false) (hf : s.sched.inFlight = some f)
    (hretry : f.request.retry = 3) : exec (.requestDropped t (.aborted pos)) s = exec (.attemptAborted t pos) s :=
  (exec_requestDropped hr hf hretry).trans (arrive_released hr).symm

end

end Sys2Proof.Machine

section
open Sys2Proof Sys2Proof.Machine Sys2Proof.Safety Sys2Proof.Claims

/-- Settles O23: the bookkeeping of ABORTED and of PARTIAL at the last retry. -/
theorem failedAttemptsAreRetriedThenDropped : Obligations.FailedAttemptsAreRetriedThenDropped := by
  refine ⟨fun t pos a f s hopen ha hf habort hpeer hbroken hretry => ?_, fun t a f s hopen ha hf hretry => ?_⟩
  · rw [exec_aborted hopen ha hf (Attempt.breaksAt_of habort hpeer hbroken) (fun hc => by omega),
      finishAttempt_retried (.inr rfl) hretry, State.busAfter,
      trailerAfter_same (u := (s.atTime t).abortedRead a pos) ha rfl rfl,
      listWith_of_same (s := s) (u := (s.atTime t).abortedRead a pos) rfl rfl]
    refine congrArg Host.Outcome.next ?_
    unfold State.listWith
    cases s.sched.slot f.kind <;> rfl
  · intro gap dropped
    have hlast : ∀ v, finishAttempt .partly f v = _ := finishAttempt_dropped (.inl rfl) hretry
    refine ⟨fun hfirst hst => ?_, fun hfirst hst hleave => ?_, fun hfirst hst => ?_, fun pos habort hpeer hbroken hleave => ?_⟩
    · rw [exec_dropPartly hopen ha hfirst hf hretry, endAttempt_heard (o := .partly) (s := (s.atTime t).slotsTaken true true a) (by exact hopen.2) rfl hst, hlast, State.busAfter,
        trailerAfter_same (u := (s.atTime t).slotsTaken true true a) ha rfl rfl]
      rfl
    · rw [exec_dropPartly hopen ha hfirst hf hretry, endAttempt_elsewhere (o := .partly)
          (s := (s.atTime t).slotsTaken true true a) (by exact hopen.2) (by decide) hst (fun hc => hleave ⟨hc.1, hc.2.1⟩), hlast, State.busAfter,
        trailerAfter_same (u := (s.atTime t).slotsTaken true true a) ha rfl rfl]
      rfl
    · refine ⟨_, exec_dropPartly hopen ha hfirst hf hretry, exec_outcome hopen ha hfirst hf, ?_⟩
      rw [endAttempt_open (by exact hopen.2) (by decide), limitReached_of_ne (by decide), hlast,
        countIsolation_heard (by exact congrArg StationState.participates hst) rfl]
      unfold lifecycleOutcome
      simp only [Bool.false_eq_true, if_false, setMarks_frame]
      rw [if_pos ⟨hst, rfl⟩]
      have hkept := enterJoining_slotsKept (setMarks .partly { (s.atTime t).slotsTaken true true a with
        bus := ((s.atTime t).slotsTaken true true a).busAfter .partly
        link := (s.atTime t).linkAfter .partly
        sched := { s.sched with
          inFlight := none, spacing := gap, requestsDropped := bump s.sched.requestsDropped, isolationCount := 0 } })
      obtain ⟨hshed, hleave, hannounce, hflight, hspacing, hdropped⟩ := hkept
      exact ⟨hdropped, hflight, hspacing, hshed, hleave, hannounce⟩
    · have hexec := exec_aborted (t := t) hopen ha hf (Attempt.breaksAt_of habort hpeer hbroken)
        (fun hc => hleave ⟨hc.1, hc.2.1⟩)
      have hsame := exec_dropAborted (t := t) (pos := pos) hopen.1 hf hretry
      refine ⟨hsame.symm, hsame.trans (hexec.trans ?_)⟩
      rw [finishAttempt_dropped (.inr rfl) hretry, State.busAfter,
        trailerAfter_same (u := (s.atTime t).abortedRead a pos) ha rfl rfl]
      rfl

/-- Settles O24: T 5-5 outcome by outcome. -/
theorem outcomesAreTakenByTable5_5 : Obligations.OutcomesAreTakenByTable5_5 := by
  refine ⟨fun t a f s hopen ha hfirst hf hst => ?_, fun t a f s hopen ha hfirst hf => ⟨fun refuse hst => ?_,
    fun accept refuse hst hends => ?_⟩⟩
  · intro gap
    refine ⟨?_, fun hretry => ?_, fun refuse hcount => ?_⟩
    · rw [exec_outcome hopen ha hfirst hf, outcomeOf, if_pos rfl, if_neg (by decide),
        endAttempt_heard (o := .accepted) (s := (s.atTime t).slotsTaken true false a) (by exact hopen.2) rfl hst, finishAttempt_removed (.inl rfl), State.busAfter,
        trailerAfter_same (u := (s.atTime t).slotsTaken true false a) ha rfl rfl]
      rfl
    · have hkeeps : s.life.state.keeps f.kind = true := by rcases hst with h | h <;> rw [h] <;> rfl
      rw [exec_outcome hopen ha hfirst hf, outcomeOf, if_pos rfl, if_pos rfl,
        endAttempt_heard (o := .partly) (s := (s.atTime t).slotsTaken true true a) (by exact hopen.2) rfl hst, finishAttempt_retried (.inl rfl) hretry, State.busAfter,
        trailerAfter_same (u := (s.atTime t).slotsTaken true true a) ha rfl rfl,
        listWith_of_same (s := s) (u := (s.atTime t).slotsTaken true true a) rfl rfl]
      refine congrArg Host.Outcome.next ?_
      unfold State.listWith
      rw [if_pos hkeeps]
      cases s.sched.slot f.kind <;> rfl
    · have hpart : s.life.state.participates = true := by rcases hst with h | h <;> rw [h] <;> rfl
      have hlimit : ((s.atTime t).slotsTaken false refuse a).limitReached .unheard = false := by
        have hne : ¬(s.sched.isolationCount + 1 = 5) := by omega
        unfold State.limitReached
        rw [Bool.and_eq_false_iff]
        exact .inr (decide_eq_false hne)
      have hmin : min 5 (s.sched.isolationCount + 1) = s.sched.isolationCount + 1 := by omega
      rw [exec_outcome hopen ha hfirst hf, outcomeOf, if_neg (by decide), endAttempt_unheard (by exact hopen.2) hlimit hpart,
        finishAttempt_removed (.inr rfl), State.busAfter,
        trailerAfter_same (u := (s.atTime t).slotsTaken false refuse a) ha rfl rfl, ← hmin]
      rfl
  · have hlimit : ((s.atTime t).slotsTaken false refuse a).limitReached .unheard = false := by
      have hstate : ((s.atTime t).slotsTaken false refuse a).life.state = .isolated := hst
      simp [State.limitReached, hstate]
    rw [exec_outcome hopen ha hfirst hf, outcomeOf, if_neg (by decide),
      endAttempt_unheard (by exact hopen.2) hlimit (by exact congrArg StationState.participates hst),
      finishAttempt_removed (.inr rfl), State.busAfter,
      trailerAfter_same (u := (s.atTime t).slotsTaken false refuse a) ha rfl rfl]
    rfl
  · have hne : outcomeOf accept refuse ≠ .lost := by cases accept <;> cases refuse <;> decide
    have hleave : ¬(s.life.state = .leaving ∧ f.kind = .leave ∧
        (outcomeOf accept refuse).endsLeave ((outcomeOf accept refuse).drops f.request) = true) := fun ⟨hs, hk, he⟩ => by
      obtain ⟨rfl, rfl, hretry⟩ := hends hs hk
      have hdrops : AttemptOutcome.partly.drops f.request = false := by simp [AttemptOutcome.drops, hretry]
      have : AttemptOutcome.partly.endsLeave (AttemptOutcome.partly.drops f.request) = true := he
      rw [hdrops] at this
      cases this
    refine ⟨_, (exec_outcome hopen ha hfirst hf).trans
      (congrArg _ (endAttempt_elsewhere (by exact hopen.2) hne hst hleave)), ?_⟩
    have hlife := setMarks_life (outcomeOf accept refuse)
      { finishAttempt (outcomeOf accept refuse) f ((s.atTime t).slotsTaken accept refuse a) with
        link := ((s.atTime t).slotsTaken accept refuse a).linkAfter (outcomeOf accept refuse) }
    have htrailer := trailerAfter_same (u := (s.atTime t).slotsTaken accept refuse a) ha rfl rfl
    rw [hlife]
    simp only [setMarks_frame, finishAttempt_frame, htrailer, Apart, PortKept, true_and]
    refine ⟨?_, rfl, ?_, ?_, ?_, rfl, rfl, rfl, rfl, rfl, rfl, ⟨rfl, rfl, ⟨rfl, rfl, rfl⟩, rfl, rfl, rfl⟩, rfl⟩
    all_goals cases accept <;> cases refuse <;> rfl

end
end

section
/-! The end of LEAVING (R80, R81). -/

namespace Sys2Proof.Machine

open Sys2Proof.Safety Sys2Proof.Claims

/-! ### The hand-off outside the states that take part -/

/-- In DORMANT a hand-off takes no request and touches no grant (R58, R105). -/
theorem handOn_dormant {s : State} (h : s.life.state = .dormant) (dig : Bool) :
    handOn dig true s = handed dig true s ∧ (handed dig true s).sched = s.sched ∧
    (handed dig true s).planner.plan = some s.planNow := by
  have hplans : (true && s.life.state.plans) = true := by rw [h]; rfl
  refine ⟨?_, ?_, ?_⟩
  · rw [handOn_eq, if_pos hplans, takeShare_elsewhere (by simp [h]) (by simp [h])]
  · have hrefused : raiseRequest .status 0 s = s := raiseRequest_discarded (by rw [h]; rfl)
    rw [handed_sched, hrefused, ite_self]
  · simp [hplans]

/-! ### Entry into DORMANT -/

/-- The state in which DORMANT is entered, before digest, plan and settled flag are formed again. -/
def dormantCleared (s : State) : State :=
  let b := emptyRequests (silenceBus (setStation .dormant .none s))
  { b with
    roster := { b.roster with entries := [], overflow := false, forgotten := [] }
    sched := { b.sched with isolationCount := 0 } }

theorem enterDormant_eq (s : State) : ∃ dig before,
    enterDormant s = evalSettled (handOn dig true (recomputeDigest (noteRoster before (dormantCleared s)))) := ⟨_, _, rfl⟩

/-- The roster is empty, the bus silent, the list empty, the grant as it was, and the plan is that of our own row (R20, R81). -/
theorem enterDormant_writes (s : State) :
    (enterDormant s).life.state = .dormant ∧ (enterDormant s).life.phase = .none ∧
    (enterDormant s).roster = { s.roster with entries := [], overflow := false, forgotten := [] } ∧
    (enterDormant s).sched = { s.sched with
      shed := none, leave := none, announce := none, status := none, spacing := none, isolationCount := 0 } ∧
    (enterDormant s).planner.plan = some (enterDormant s).planNow ∧
    (enterDormant s).grantCtl.grant = s.grantCtl.grant ∧ (enterDormant s).grantCtl.settled = true ∧
    (enterDormant s).bus.trailer = .neither ∧ (enterDormant s).bus.assembly = .empty := by
  obtain ⟨dig, before, heq⟩ := enterDormant_eq s
  have hlife : (recomputeDigest (noteRoster before (dormantCleared s))).life.state = .dormant ∧
      (recomputeDigest (noteRoster before (dormantCleared s))).life.phase = .none := by simp [dormantCleared]
  have hroster : (recomputeDigest (noteRoster before (dormantCleared s))).roster =
      { s.roster with entries := [], overflow := false, forgotten := [] } := by simp [dormantCleared]
  have hsched : (recomputeDigest (noteRoster before (dormantCleared s))).sched = { s.sched with
      shed := none, leave := none, announce := none, status := none, spacing := none, isolationCount := 0 } := by
    simp [dormantCleared, emptyRequests]
  have hgrant : (recomputeDigest (noteRoster before (dormantCleared s))).grantCtl.grant = s.grantCtl.grant := by
    simp [dormantCleared]
  have hbus : (recomputeDigest (noteRoster before (dormantCleared s))).bus.trailer = .neither ∧
      (recomputeDigest (noteRoster before (dormantCleared s))).bus.assembly = .empty := by
    simp [dormantCleared, emptyRequests, silenceBus]
  generalize recomputeDigest (noteRoster before (dormantCleared s)) = m at heq hlife hroster hsched hgrant hbus
  obtain ⟨hon, hlist, hplan⟩ := handOn_dormant hlife.1 dig
  have hempty : m.roster.entries = [] := by rw [hroster]
  have hcleared : (clearConfirmations m).roster = m.roster := by
    unfold clearConfirmations
    rw [hempty, List.map_nil, ← hempty]
  have hentries : (handed dig true m).roster = m.roster := by
    cases dig <;> simp [hcleared]
  have hstate : (handed dig true m).life = m.life := by simp
  have hcondition : (handed dig true m).settledCondition = true := by
    rw [settledCondition_congr hentries]
    simp [State.settledCondition, hroster]
  have hsame : (handed dig true m).planNow = m.planNow := hon ▸ handOn_planNow dig true m
  have hline : (handed dig true m).bus = m.bus := hon ▸ (handOn_frame dig true m).2.2.2.2.1
  rw [heq, hon, evalSettled_elsewhere (by simp [hlife]) (by simp [hlife])]
  refine ⟨(congrArg Lifecycle.state hstate).trans hlife.1, (congrArg Lifecycle.phase hstate).trans hlife.2,
    hentries.trans hroster, hlist.trans hsched, hplan.trans (congrArg some hsame.symm), ?_, hcondition,
    (congrArg BusInterface.trailer hline).trans hbus.1, (congrArg BusInterface.assembly hline).trans hbus.2⟩
  simpa using hgrant

/-- With an empty roster the plan has our own row alone. -/
theorem planNow_rows_alone {s : State} (h : s.roster.entries = []) : s.planNow.rows.map Row.station = [s.ownStation] := by
  have hrows : s.claimRows = [s.planner.claim.row s.ownStation] := by
    simp [State.claimRows, h, sortRows, insertRow]
  calc s.planNow.rows.map Row.station = s.claimRows.map Row.station := divide_station _ _
    _ = [s.ownStation] := by rw [hrows]; rfl

/-! ### The outcomes that end LEAVING -/

theorem endAttempt_endsLeave {o : AttemptOutcome} {f : InFlight} {s : State}
    (hopen : s.link.events + 1 < s.params.window) (ho : o ≠ .lost) (hst : s.life.state = .leaving) (hk : f.kind = .leave)
    (hends : o.endsLeave (o.drops f.request) = true) :
    endAttempt o f s = enterDormant (setMarks o { finishAttempt o f s with link := s.linkAfter o }) := by
  have hlimit : s.limitReached o = false := by simp [State.limitReached, hst]
  rw [endAttempt_open hopen ho, hlimit, countIsolation_elsewhere (by simp [hst, StationState.participates])]
  unfold lifecycleOutcome
  simp only [Bool.false_eq_true, if_false, setMarks_frame, finishAttempt_frame]
  rw [if_neg (by simp [hst]), if_pos ⟨hst, hk, hends⟩]
  rfl

theorem finishAttempt_dropCount (o : AttemptOutcome) (f : InFlight) (s : State) : (finishAttempt o f s).sched.requestsDropped =
    if o.drops f.request then bump s.sched.requestsDropped else s.sched.requestsDropped := by
  have hspacing : ∀ v : State, (startSpacing o f.kind v).sched.requestsDropped = v.sched.requestsDropped := fun v => by simp
  unfold finishAttempt
  rw [hspacing]
  unfold disposeRequest
  cases o with
  | partly | aborted =>
    dsimp only
    split
    · rfl
    · simp
  | accepted | unheard => rfl
  | lost => simp [AttemptOutcome.drops, AttemptOutcome.retried]

theorem drops_at_last {o : AttemptOutcome} {r : Request} (h : o = .partly ∨ o = .aborted) (hretry : r.retry = 3) :
    o.drops r = true := by
  rcases h with rfl | rfl <;> simp [AttemptOutcome.drops, AttemptOutcome.retried, hretry]

/-- Each command that ends the LEAVE is the end of the attempt with an outcome that ends it. -/
theorem exec_endsLeave {t : Time} {a : Attempt} {f : InFlight} {c : Instr} {s : State} (hr : s.restartInput = false)
    (ha : s.bus.attempt = some a) (hf : s.sched.inFlight = some f) (h : EndsLeave t a f c) :
    ∃ o b, exec c s = .next (endAttempt o f { s.atTime t with bus := b }) ∧ o ≠ .lost ∧
      o.endsLeave (o.drops f.request) = true ∧ o.drops f.request = dropsLeave c := by
  have last : ∀ {o : AttemptOutcome}, o = .partly ∨ o = .aborted → f.request.retry = 3 → o ≠ .lost ∧
      o.endsLeave (o.drops f.request) = true ∧ o.drops f.request = true := fun ho hretry =>
    ⟨by rcases ho with rfl | rfl <;> decide, by simp [AttemptOutcome.endsLeave, drops_at_last ho hretry],
      drops_at_last ho hretry⟩
  rcases h with ⟨accept, refuse, rfl, hfirst, hretry⟩ | ⟨rfl, hfirst, hretry⟩ | ⟨pos, hc, habort, hpeer, hbroken, hretry⟩
  · refine ⟨_, _, exec_attemptOutcomeTaken hr ha hfirst hf, ?_⟩
    cases accept
    · exact ⟨by simp [outcomeOf], rfl, rfl⟩
    · cases refuse
      · exact ⟨by decide, rfl, rfl⟩
      · exact last (.inl rfl) (hretry rfl rfl)
  · refine ⟨_, _, (exec_requestDropped hr hf hretry).trans
      (congrArg _ (takeOutcome_open (s := s.atTime t) (accept := true) (refuse := true) ha hf hfirst)), last (.inl rfl) hretry⟩
  · have hexec := exec_attemptAborted (t := t) hr ha hf (Attempt.breaksAt_of habort hpeer hbroken)
    rcases hc with rfl | rfl
    · exact ⟨_, _, hexec, last (.inr rfl) hretry⟩
    · exact ⟨_, _, (exec_dropAborted hr hf hretry).trans hexec, last (.inr rfl) hretry⟩

end Sys2Proof.Machine

section
open Sys2Proof Sys2Proof.Machine Sys2Proof.Safety Sys2Proof.Claims

/-- Settles O26: each outcome that ends the LEAVE enters DORMANT. -/
theorem leaveOutcomeEntersDormant : Obligations.LeaveOutcomeEntersDormant := by
  intro t a f c s hopen ha hf hst hk hgrant hends
  obtain ⟨o, b, hexec, ho, hlast, hdrops⟩ := exec_endsLeave hopen.1 ha hf hends
  rw [endAttempt_endsLeave (by exact hopen.2) ho (by exact hst) hk hlast] at hexec
  refine ⟨_, hexec, ?_⟩
  have hcount := finishAttempt_dropCount o f { s.atTime t with bus := b }
  generalize hw : setMarks o { finishAttempt o f { s.atTime t with bus := b } with
    link := State.linkAfter { s.atTime t with bus := b } o } = w
  have hdropped : w.sched.requestsDropped = if dropsLeave c then bump s.sched.requestsDropped else s.sched.requestsDropped := by
    rw [← hw, ← hdrops]
    simpa using hcount
  obtain ⟨hstate, hphase, hroster, hsched, hplan, hgrant', hsettled, htrailer, hassembly⟩ := enterDormant_writes w
  have hentries : (enterDormant w).roster.entries = [] := by rw [hroster]
  have hown : (enterDormant w).ownStation = s.ownStation := ownStation_congr (by rw [← hw]; simp)
  have hdigest := enterDormant_digest w
  rw [hroster, hsched]
  simp only [enterDormant_frame, hstate, hphase, hgrant', hsettled, htrailer, hassembly, hdropped, Apart, PortKept, true_and]
  have hkept : w.life.cycle = s.life.cycle ∧ w.roster = s.roster ∧ w.sched.inFlight = none ∧ w.planner = s.planner ∧
      w.grantCtl = s.grantCtl ∧ w.bus.attempt = none ∧ w.enf = s.enf ∧ w.meter = s.meter ∧ w.loader = s.loader ∧
      w.pending = s.pending ∧ w.restartInput = s.restartInput ∧ w.host = s.host := by
    rw [← hw]
    simp
  obtain ⟨hcycle, hrost, hflight, hplanner, hctl, hattempt, henf, hmeter, hloader, hpending, hinput, hhost⟩ := hkept
  have hrows : ∀ p, (enterDormant w).planner.plan = some p → p.rows.map Row.station = [s.ownStation] := fun p hp => by
    rw [← Option.some.inj (hplan.symm.trans hp), planNow_rows_alone hentries, hown]
  have hdigest' : (enterDormant w).planner.digest = crc16 [BitVec.ofNat 8 s.ownStation.val, 1#8, s.planner.claim.serial] := by
    rw [hdigest, ownStation_congr (congrArg Loader.heldCopy hloader), hplanner]
    rfl
  simp only [hcycle, hrost, hflight, hplanner, hctl, hattempt, henf, hmeter, hloader, hpending, hinput, hhost, hgrant, hdigest',
    true_and, and_true]
  exact ⟨hplan, hrows⟩

end
end

section
/-! Frames that are cut short or fail a check (R88, R89, R94, R96 to R98). -/

namespace Sys2Proof.Machine

open Sys2Proof.Safety Sys2Proof.Claims

/-- The clock never goes back. -/
theorem atTime_of_le {s : State} {t : Time} (h : t ≤ s.now) : s.atTime t = s := by
  simp [State.atTime, Nat.max_eq_left h]

theorem violationLevel_good (o : AssemblyOrigin) (bits : List Bool) (run : Nat) (level : Bool) :
    (Assembly.good o bits run).violationLevel level = if run = 6 then bits.getLastD level else level := by
  by_cases h : run = 6
  · subst h
    rfl
  · rw [if_neg h]
    unfold Assembly.violationLevel
    split
    · next heq => exact absurd (Assembly.good.inj heq).2.2 h
    · rfl

theorem damagedFrame_of_judged {bytes : List Byte} {why : Damage} (h : judgeFrame bytes = some (.inr why)) :
    damagedFrame bytes = some why := by
  unfold damagedFrame
  rw [h]

/-- A complete damaged frame in a window that stays open (R97, R101). -/
def State.damagedTaken (s : State) (bytes : List Byte) (a : Option Attempt) : State := { s with
  bus := { s.bus with
    assembly := .empty, trailer := .refuse, damagedReceived := bump s.bus.damagedReceived, attempt := a
    recessive := trailingRecessive (lineBitsOf bytes), endLeft := 10 }
  link := { s.link with events := s.link.events + 1, damaged := s.link.damaged + 1 } }

theorem receiveDamaged_open {bytes : List Byte} {a : Option Attempt} {s : State}
    (h : s.link.events + 1 < s.params.window) :
    receiveDamaged (frameEnds bytes { s with bus := { s.bus with attempt := a } }) = s.damagedTaken bytes a := by
  unfold receiveDamaged
  rw [frameEvent_of_lt_window _ (by exact h)]
  simp [frameEnds, countRecessive_eq_trailing, State.damagedTaken, Config.slotBits, Config.endBits]

section
variable {t : Time} {bytes : List Byte} {why : Damage} {s : State} (hopen : OpenWindow s)
  (hjudged : judgeFrame bytes = some (.inr why))
include hopen hjudged

theorem exec_frameDamaged_assembled (hcan : s.canTake bytes = true) :
    exec (.frameDamaged t bytes) s = .next ((s.atTime t).damagedTaken bytes s.bus.attempt) := by
  have hmark : markAttempt .broken bytes (s.atTime t) = s.atTime t := if_pos hcan
  have htake : (damagedFrame bytes).isSome ∧ (s.atTime t).canTakeDamaged bytes = true :=
    ⟨by rw [damagedFrame_of_judged hjudged]; rfl, Bool.or_eq_true_iff.mpr (.inl hcan)⟩
  refine (arrive_released hopen.1).trans (congrArg _ ((if_pos htake).trans ?_))
  rw [hmark]
  exact receiveDamaged_open (s := s.atTime t) hopen.2

/-- The frame that another station finishes at the bit at which our attempt breaks off, taken first (R94, R121). -/
theorem exec_frameDamaged_overtaking {a : Attempt} (hfree : s.bus.assembly = .empty) (ha : s.bus.attempt = some a)
    (htakes : s.life.state.takesFrames = true) (hfirst : a.first = .nothing) (hbytes : bytes = a.frame.brokenBytes) :
    exec (.frameDamaged t bytes) s = .next ((s.atTime t).damagedTaken bytes (some { a with first := .broken })) := by
  have hcan : (s.atTime t).canTake bytes = false := by
    have : (s.atTime t).bus.assembly = .empty := hfree
    rw [State.canTake, this]
    exact Bool.and_false _
  have hmark : markAttempt .broken bytes (s.atTime t) =
      { s.atTime t with bus := { s.bus with attempt := some { a with first := .broken } } } := by
    have hattempt : (s.atTime t).bus.attempt = some a := ha
    rw [markAttempt, hcan, hattempt]
    rfl
  have hover : (s.atTime t).overtakenBy bytes = true := by
    have hattempt : (s.atTime t).bus.attempt = some a := ha
    unfold State.overtakenBy
    rw [hattempt]
    simpa [hfirst, hbytes] using htakes
  have htake : (damagedFrame bytes).isSome ∧ (s.atTime t).canTakeDamaged bytes = true :=
    ⟨by rw [damagedFrame_of_judged hjudged]; rfl, Bool.or_eq_true_iff.mpr (.inr hover)⟩
  refine (arrive_released hopen.1).trans (congrArg _ ((if_pos htake).trans ?_))
  rw [hmark]
  exact receiveDamaged_open (s := s.atTime t) hopen.2

end

/-- Where a frame was taken first, no assembly is left and the count stands (R94). -/
theorem abortedRead_taken {s : State} {a : Attempt} (h : a.first ≠ .nothing) (pos : Nat) :
    s.abortedRead a pos = { s with bus := { s.bus with assembly := .empty } } := by
  simp [State.abortedRead, h]

/-- The frame taken first and then the outcome, or the outcome and then the frame: one state (R94, R121). -/
theorem overtaken_either_order {pos : Nat} {a : Attempt} {f : InFlight} {v : State} {bytes : List Byte}
    (ha : v.bus.attempt = some a) (hretry : f.request.retry < 3) (hfirst : a.first = .nothing) :
    { finishAttempt .aborted f ((v.damagedTaken bytes (some { a with first := .broken })).abortedRead
        { a with first := .broken } pos) with
      link := (v.damagedTaken bytes (some { a with first := .broken })).linkAfter .aborted } =
    State.damagedTaken { finishAttempt .aborted f (v.abortedRead a pos) with link := v.linkAfter .aborted } bytes none := by
  have hread := abortedRead_taken (s := v.damagedTaken bytes (some { a with first := .broken }))
    (a := { a with first := .broken }) (fun h => nomatch h) pos
  have htrailer : (v.damagedTaken bytes (some { a with first := .broken })).trailerAfterAttempt = .refuse :=
    trailerAfter_of_attempt (s := v.damagedTaken bytes (some { a with first := .broken })) (a := { a with first := .broken }) rfl
  have hsame : (v.damagedTaken bytes (some { a with first := .broken })).abortedRead { a with first := .broken } pos =
      v.damagedTaken bytes (some { a with first := .broken }) := hread
  rw [hsame, finishAttempt_retried (.inr rfl) hretry, finishAttempt_retried (.inr rfl) hretry, State.busAfter, htrailer,
    listWith_of_same (s := v) (u := v.damagedTaken bytes (some { a with first := .broken })) rfl rfl,
    listWith_of_same (s := v) (u := v.abortedRead a pos) rfl rfl]
  rfl

end Sys2Proof.Machine

section
open Sys2Proof Sys2Proof.Machine Sys2Proof.Safety Sys2Proof.Claims

/-- Settles O27: a frame that is cut short or damaged changes the bus and the report alone. -/
theorem cutShortAndDamagedFramesGoNoFurther : Obligations.CutShortAndDamagedFramesGoNoFurther := by
  refine ⟨fun t o bits run level s hopen htakes hassembly => ?_, fun t bytes why s hopen hcan hjudged => ?_,
    fun t pos why a f s hr hwindow htakes hfree ha hfirst hf hretry hpos habort hjudged => ?_⟩
  · intro count
    have hassembly' : (s.atTime t).bus.assembly = .good o bits run := hassembly
    have hreceiving : (s.atTime t).receiving = true := by
      unfold State.receiving
      rw [hassembly']
      exact (Bool.and_true _).trans htakes
    have hexec : exec (.frameCutShort ⟨t, level⟩) s = .next (cutShort level (s.atTime t)) :=
      (arrive_released hopen.1).trans (congrArg _ (onlyIf_holds hreceiving))
    have habandon : abandon level (s.atTime t) = { s.atTime t with
        bus := { s.bus with assembly := .abandoned, trailer := .neither, recessive := count } } := by
      unfold abandon
      rw [hassembly', violationLevel_good]
      rfl
    refine ⟨fun ho => hexec.trans (congrArg _ ?_), fun ho => hexec.trans (congrArg _ ?_)⟩
    · have hcut : cutShort level (s.atTime t) = frameEvent true { abandon level (s.atTime t) with
          bus := { (abandon level (s.atTime t)).bus with
            damagedReceived := bump (abandon level (s.atTime t)).bus.damagedReceived } } := by
        unfold cutShort
        rw [hassembly']
        cases o with
        | afterAborted => exact absurd rfl ho
        | _ => rfl
      rw [hcut, habandon, frameEvent_of_lt_window _ (by exact hopen.2)]
      rfl
    · subst ho
      rw [← habandon]
      unfold cutShort
      rw [hassembly']
  · exact exec_frameDamaged_assembled hopen hjudged hcan
  · have hopen : OpenWindow s := ⟨hr, by omega⟩
    have hfrom : (s.atTime t).bus.assembly = .empty := hfree
    have hframe := exec_frameDamaged_overtaking (t := t) hopen hjudged hfree ha htakes hfirst rfl
    refine ⟨hframe.trans (congrArg _ ?_), fun hgoes => ?_⟩
    · unfold State.damagedTaken
      rw [← hfrom]
      rfl
    · have hlink : s.link.events + 1 + 1 < s.params.window := hwindow
      have hleave : ¬(s.life.state = .leaving ∧ f.kind = .leave ∧ 3 ≤ f.request.retry) := fun h => by omega
      have habortFirst := exec_aborted (t := t) hopen ha hf
        (Attempt.breaksAt_of habort (by rw [hfirst]; decide) fun _ => hpos) hleave
      have habortThen := exec_aborted (t := t)
        (s := (s.atTime t).damagedTaken a.frame.brokenBytes (some { a with first := .broken }))
        (a := { a with first := .broken }) ⟨hr, hlink⟩ rfl hf
        (Attempt.breaksAt_of habort (fun h => nomatch h) fun _ => hpos) hleave
      rw [atTime_of_le (s := (s.atTime t).damagedTaken a.frame.brokenBytes (some { a with first := .broken }))
          (by exact Nat.le_max_right _ _), overtaken_either_order (v := s.atTime t) ha hretry hfirst] at habortThen
      have hgood : ((s.atTime t).abortedRead a pos).bus.assembly = assemblyAfter .afterAborted a.frame pos :=
        if_pos ⟨htakes, hfirst⟩
      have hcan : State.canTake { finishAttempt .aborted f ((s.atTime t).abortedRead a pos) with
          link := s.linkAfter .aborted } a.frame.brokenBytes = true := by
        simp only [State.canTake, finishAttempt_frame, BusInterface.count, hgood, hgoes, Bool.and_true]
        exact htakes
      have hinput : (finishAttempt .aborted f ((s.atTime t).abortedRead a pos)).restartInput = false := by
        simp only [finishAttempt_frame]
        exact hr
      have hparams : (finishAttempt .aborted f ((s.atTime t).abortedRead a pos)).params = s.params :=
        params_congr (by simp only [finishAttempt_frame]; rfl)
      have hframeThen := exec_frameDamaged_assembled (t := t) (bytes := a.frame.brokenBytes) (why := why)
        (s := { finishAttempt .aborted f ((s.atTime t).abortedRead a pos) with link := s.linkAfter .aborted })
        ⟨hinput, by exact hlink.trans_eq (congrArg Params.window hparams).symm⟩ hjudged hcan
      have hnow : (finishAttempt .aborted f ((s.atTime t).abortedRead a pos)).now = max s.now t := by
        simp only [finishAttempt_frame]
        rfl
      have hnone : (finishAttempt .aborted f ((s.atTime t).abortedRead a pos)).bus.attempt = none := by
        simp only [finishAttempt_frame]
      rw [atTime_of_le (s := { finishAttempt .aborted f ((s.atTime t).abortedRead a pos) with
          link := s.linkAfter .aborted }) (by exact (Nat.le_max_right _ _).trans_eq hnow.symm)] at hframeThen
      refine ⟨_, _, _, hframe, habortThen, habortFirst, hframeThen.trans (congrArg _ ?_), rfl, rfl⟩
      exact congrArg (State.damagedTaken _ _) hnone

end
end

section
/-! The roster's list of entries, number by number: what an entry that is put, removed or changed in place leaves, and the
taking of a quiet set (R23, R34 to R37). -/

namespace Sys2Proof.Machine

open Sys2Proof.Safety Sys2Proof.Claims

/-! ### Reading an entry (R23) -/

theorem findEntry_station {n : Station} {es : List Entry} {e : Entry} (h : findEntry n es = some e) : e.station = n := by
  simpa using List.find?_some h

theorem findEntry_cons (n : Station) (x : Entry) (xs : List Entry) :
    findEntry n (x :: xs) = if x.station = n then some x else findEntry n xs := by
  unfold findEntry
  by_cases h : x.station = n <;> simp [h]

theorem hasEntry_eq_false {n : Station} {es : List Entry} : hasEntry n es = false ↔ findEntry n es = none := by
  simp [hasEntry]

/-- What stands under a number after an entry is put. -/
theorem findEntry_upsertEntry (n : Station) (e : Entry) (es : List Entry) :
    findEntry n (upsertEntry e es) = if e.station = n then some e else findEntry n es := by
  induction es with
  | nil => exact findEntry_cons n e []
  | cons x xs ih =>
    unfold upsertEntry
    split
    · exact findEntry_cons n e (x :: xs)
    · split
      · next heq =>
        rw [findEntry_cons, findEntry_cons, ← heq]
        split <;> rfl
      · next hne =>
        rw [findEntry_cons, findEntry_cons, ih]
        by_cases hx : x.station = n
        · have he : e.station ≠ n := fun he => hne (he.trans hx.symm)
          simp [hx, he]
        · simp [hx]

theorem findEntry_removeEntry (n m : Station) (es : List Entry) :
    findEntry m (removeEntry n es) = if m = n then none else findEntry m es := by
  induction es with
  | nil => simp [removeEntry, findEntry]
  | cons x xs ih =>
    unfold removeEntry at ih ⊢
    by_cases hx : x.station = n
    · rw [List.filter_cons_of_neg (by simpa using hx), ih, findEntry_cons]
      by_cases hm : m = n
      · simp [hm]
      · simp [hm, show x.station ≠ m from fun h => hm (h.symm.trans hx)]
    · rw [List.filter_cons_of_pos (by simpa using hx), findEntry_cons, ih, findEntry_cons]
      by_cases hm : m = n
      · simp [hm, hx]
      · simp [hm]

/-- Entries changed in place stand under their numbers. -/
theorem findEntry_map {f : Entry → Entry} (hf : ∀ e, (f e).station = e.station) (n : Station) (es : List Entry) :
    findEntry n (es.map f) = (findEntry n es).map f := by
  induction es with
  | nil => rfl
  | cons x xs ih =>
    rw [List.map_cons, findEntry_cons, findEntry_cons, ih, hf]
    split <;> rfl

theorem length_le_upsertEntry (e : Entry) (es : List Entry) : es.length ≤ (upsertEntry e es).length := by
  induction es with
  | nil => exact Nat.zero_le _
  | cons x xs ih =>
    unfold upsertEntry
    (repeat' split) <;> simp
    exact ih

/-! ### The confirmed flag apart -/

/-- An entry with its confirmed flag clear. -/
def Entry.unflagged (e : Entry) : Entry := { e with confirmed := false }

theorem Entry.unflagged_confirmed (e : Entry) (b : Bool) : ({ e with confirmed := b } : Entry).unflagged = e.unflagged := rfl

theorem unflagged_upsertEntry (e : Entry) (es : List Entry) :
    (upsertEntry e es).map Entry.unflagged = upsertEntry e.unflagged (es.map Entry.unflagged) := by
  induction es with
  | nil => rfl
  | cons x xs ih =>
    unfold upsertEntry
    rw [List.map_cons]
    have hx : x.unflagged.station = x.station := rfl
    have he : e.unflagged.station = e.station := rfl
    dsimp only
    rw [hx, he]
    split
    · rfl
    · split
      · rfl
      · rw [List.map_cons, ih]

theorem findEntry_unflagged (n : Station) (es : List Entry) :
    findEntry n (es.map Entry.unflagged) = (findEntry n es).map Entry.unflagged := findEntry_map (f := Entry.unflagged) (fun _ => rfl) n es

/-! ### One number of a quiet set (R34 to R37) -/

/-- A number that hearsay may admit: not ours and not forgotten (R36, R37). -/
def State.hears (s : State) (m : Station) : Prop := m ≠ s.ownStation ∧ m ∉ s.roster.forgotten

theorem hearNumber_heldCopy (s : State) (n : Station) : (hearNumber s n).loader.heldCopy = s.loader.heldCopy := by simp

theorem hearNumber_hears (s : State) (n m : Station) : (hearNumber s n).hears m ↔ s.hears m := by
  simp [State.hears, ownStation_congr (hearNumber_heldCopy s n)]

theorem hearNumber_hearsayEntry (s : State) (n m : Station) : (hearNumber s n).hearsayEntry m = s.hearsayEntry m := by
  have hparams : (hearNumber s n).params = s.params := params_congr (hearNumber_heldCopy s n)
  simp [State.hearsayEntry, State.forgetAt, hparams]

/-- A number is passed over, admitted where there is room, or refused with the overflow flag set. -/
theorem hearNumber_cases (s : State) (n : Station) :
    ((s.hears n → s.entryOf n ≠ none) ∧ hearNumber s n = s) ∨
    (s.hears n ∧ s.entryOf n = none ∧ s.roster.entries.length < 24 ∧ hearNumber s n =
      { s with roster := { s.roster with entries := upsertEntry (s.hearsayEntry n) s.roster.entries } }) ∨
    (s.hears n ∧ s.entryOf n = none ∧ 24 ≤ s.roster.entries.length ∧
      hearNumber s n = { s with roster := { s.roster with overflow := true } }) := by
  unfold hearNumber
  split
  · next hpass =>
    refine .inl ⟨fun ⟨hown, hforgot⟩ hnone => ?_, rfl⟩
    rcases hpass with h | h | h
    · exact hown h
    · rw [hasEntry_eq_false.mpr hnone] at h
      cases h
    · exact hforgot h
  · next hpass =>
    obtain ⟨hown, hhas, hforgot⟩ := not_or.mp hpass |>.imp_right not_or.mp
    have hnone : s.entryOf n = none := hasEntry_eq_false.mp (Bool.eq_false_iff.mpr hhas)
    split
    · next hroom => exact .inr (.inl ⟨⟨hown, hforgot⟩, hnone, of_decide_eq_true hroom, rfl⟩)
    · next hroom => exact .inr (.inr ⟨⟨hown, hforgot⟩, hnone, not_lt.mp fun h => hroom (decide_eq_true h), rfl⟩)

theorem entryOf_admitted (s : State) (n m : Station) : State.entryOf
    { s with roster := { s.roster with entries := upsertEntry (s.hearsayEntry n) s.roster.entries } } m =
    if n = m then some (s.hearsayEntry n) else s.entryOf m := findEntry_upsertEntry m (s.hearsayEntry n) s.roster.entries

theorem hearNumber_kept {s : State} {n m : Station} {e : Entry} (h : s.entryOf m = some e) :
    (hearNumber s n).entryOf m = some e := by
  rcases hearNumber_cases s n with ⟨-, heq⟩ | ⟨-, hnone, -, heq⟩ | ⟨-, -, -, heq⟩ <;> rw [heq]
  · exact h
  · have hne : n ≠ m := fun hnm => by
      rw [hnm, h] at hnone
      cases hnone
    rw [entryOf_admitted, if_neg hne, h]
  · exact h

/-- The entry that comes is one of hearsay, under its number. -/
theorem hearNumber_comes {s : State} {n m : Station} {e : Entry} (hnone : s.entryOf m = none)
    (h : (hearNumber s n).entryOf m = some e) : m = n ∧ s.hears m ∧ e = s.hearsayEntry m := by
  rcases hearNumber_cases s n with ⟨-, heq⟩ | ⟨hhears, -, -, heq⟩ | ⟨-, -, -, heq⟩ <;> rw [heq] at h
  · exact nomatch hnone.symm.trans h
  · rw [entryOf_admitted] at h
    split at h
    · next hnm => exact ⟨hnm.symm, hnm ▸ hhears, hnm ▸ (Option.some.inj h).symm⟩
    · exact nomatch hnone.symm.trans h
  · exact nomatch hnone.symm.trans h

theorem hearNumber_length {s : State} (n : Station) (h : s.roster.entries.length ≤ 24) :
    s.roster.entries.length ≤ (hearNumber s n).roster.entries.length ∧ (hearNumber s n).roster.entries.length ≤ 24 := by
  rcases hearNumber_cases s n with ⟨-, heq⟩ | ⟨-, -, hroom, heq⟩ | ⟨-, -, -, heq⟩ <;> rw [heq]
  · exact ⟨le_rfl, h⟩
  · exact ⟨length_le_upsertEntry _ _, (length_upsertEntry_le _ _).trans hroom⟩
  · exact ⟨le_rfl, h⟩

theorem hearNumber_overflow {s : State} {n : Station} (h : s.roster.overflow = true) :
    (hearNumber s n).roster.overflow = true := by
  rcases hearNumber_cases s n with ⟨-, heq⟩ | ⟨-, -, -, heq⟩ | ⟨-, -, -, heq⟩ <;> rw [heq]
  · exact h
  · exact h

/-- A full roster takes no number. -/
theorem hearNumber_full {s : State} (n : Station) (h : 24 ≤ s.roster.entries.length) :
    (hearNumber s n).roster.entries = s.roster.entries := by
  rcases hearNumber_cases s n with ⟨-, heq⟩ | ⟨-, -, hroom, -⟩ | ⟨-, -, -, heq⟩
  · rw [heq]
  · omega
  · rw [heq]

/-- A number that may be heard has an entry afterwards, or the roster is full and the flag set. -/
theorem hearNumber_heard {s : State} {n : Station} (h : s.hears n) : (hearNumber s n).entryOf n ≠ none ∨
    (24 ≤ s.roster.entries.length ∧ (hearNumber s n).roster.overflow = true ∧
      (hearNumber s n).roster.entries = s.roster.entries) := by
  rcases hearNumber_cases s n with ⟨hhas, heq⟩ | ⟨-, -, -, heq⟩ | ⟨-, -, hfull, heq⟩ <;> rw [heq]
  · exact .inl (hhas h)
  · left
    rw [entryOf_admitted, if_pos rfl]
    exact Option.some_ne_none _
  · exact .inr ⟨hfull, rfl, rfl⟩

/-! ### Numbers one after the other -/

theorem heard_kept {ns : List Station} {s : State} {m : Station} {e : Entry} (h : s.entryOf m = some e) :
    (ns.foldl hearNumber s).entryOf m = some e := by
  induction ns generalizing s with
  | nil => exact h
  | cons n ns ih => exact ih (hearNumber_kept h)

theorem heard_comes {ns : List Station} {s : State} {m : Station} {e : Entry} (hnone : s.entryOf m = none)
    (h : (ns.foldl hearNumber s).entryOf m = some e) : m ∈ ns ∧ s.hears m ∧ e = s.hearsayEntry m := by
  induction ns generalizing s with
  | nil => exact nomatch hnone.symm.trans h
  | cons n ns ih =>
    cases hnext : (hearNumber s n).entryOf m with
    | none =>
      obtain ⟨hmem, hhears, he⟩ := ih hnext h
      exact ⟨List.mem_cons_of_mem n hmem, (hearNumber_hears s n m).mp hhears, he.trans (hearNumber_hearsayEntry s n m)⟩
    | some x =>
      obtain ⟨rfl, hhears, hx⟩ := hearNumber_comes hnone hnext
      exact ⟨List.mem_cons_self, hhears, (Option.some.inj ((heard_kept hnext).symm.trans h)).symm.trans hx⟩

theorem heard_length {ns : List Station} {s : State} (h : s.roster.entries.length ≤ 24) :
    s.roster.entries.length ≤ (ns.foldl hearNumber s).roster.entries.length ∧
    (ns.foldl hearNumber s).roster.entries.length ≤ 24 := by
  induction ns generalizing s with
  | nil => exact ⟨le_rfl, h⟩
  | cons n ns ih =>
    obtain ⟨hge, hle⟩ := hearNumber_length n h
    obtain ⟨hge', hle'⟩ := ih hle
    exact ⟨hge.trans hge', hle'⟩

theorem heard_overflow {ns : List Station} {s : State} (h : s.roster.overflow = true) :
    (ns.foldl hearNumber s).roster.overflow = true := by
  induction ns generalizing s with
  | nil => exact h
  | cons n ns ih => exact ih (hearNumber_overflow h)

theorem heard_full {ns : List Station} {s : State} (h : 24 ≤ s.roster.entries.length) :
    (ns.foldl hearNumber s).roster.entries = s.roster.entries := by
  induction ns generalizing s with
  | nil => rfl
  | cons n ns ih =>
    have hsame := hearNumber_full n h
    exact (ih (hsame ▸ h)).trans hsame

theorem heard_refused {ns : List Station} {s : State} {m : Station} (hm : m ∈ ns) (hhears : s.hears m)
    (hnone : (ns.foldl hearNumber s).entryOf m = none) (hlen : s.roster.entries.length ≤ 24) :
    (ns.foldl hearNumber s).roster.overflow = true ∧ (ns.foldl hearNumber s).roster.entries.length = 24 := by
  induction ns generalizing s with
  | nil => cases hm
  | cons n ns ih =>
    obtain ⟨hge, hle⟩ := hearNumber_length n hlen
    rcases List.mem_cons.mp hm with rfl | hmem
    · rcases hearNumber_heard hhears with hhas | ⟨hfull, hover, hsame⟩
      · obtain ⟨e, he⟩ := Option.ne_none_iff_exists'.mp hhas
        exact nomatch (heard_kept he).symm.trans hnone
      · have hentries := heard_full (ns := ns) (s := hearNumber s m) (hsame ▸ hfull)
        exact ⟨heard_overflow (s := hearNumber s m) hover, by rw [List.foldl_cons, hentries]; omega⟩
    · exact ih hmem ((hearNumber_hears s n m).mpr hhears) hnone hle

/-- The flag stays where every number that may be heard has an entry afterwards. -/
theorem heard_overflow_kept {ns : List Station} {s : State}
    (hall : ∀ m ∈ ns, s.hears m → (ns.foldl hearNumber s).entryOf m ≠ none) :
    (ns.foldl hearNumber s).roster.overflow = s.roster.overflow := by
  induction ns generalizing s with
  | nil => rfl
  | cons n ns ih =>
    have hrest := ih fun m hm hhears => hall m (List.mem_cons_of_mem n hm) ((hearNumber_hears s n m).mp hhears)
    refine hrest.trans ?_
    rcases hearNumber_cases s n with ⟨-, heq⟩ | ⟨-, -, -, heq⟩ | ⟨hhears, hnone, hfull, heq⟩
    · rw [heq]
    · rw [heq]
    · have hsame := hearNumber_full n hfull
      have hentries := heard_full (ns := ns) (s := hearNumber s n) (hsame ▸ hfull)
      refine absurd ?_ (hall n List.mem_cons_self hhears)
      unfold State.entryOf
      rw [List.foldl_cons, hentries, hsame]
      exact hnone

/-- Numbers come in ascending order: one that comes in finds every lower one in the roster. -/
theorem heard_ascending {ns : List Station} {s : State} {m k : Station} (hsorted : ns.Pairwise (· < ·)) (hm : m ∈ ns)
    (hlt : m < k) (hhears : s.hears m) (hnone : s.entryOf k = none) (h : (ns.foldl hearNumber s).entryOf k ≠ none) :
    (ns.foldl hearNumber s).entryOf m ≠ none := by
  induction ns generalizing s with
  | nil => cases hm
  | cons n ns ih =>
    obtain ⟨hfirst, hrest⟩ := List.pairwise_cons.mp hsorted
    rcases List.mem_cons.mp hm with rfl | hmem
    · rcases hearNumber_heard hhears with hhas | ⟨hfull, -, hsame⟩
      · obtain ⟨e, he⟩ := Option.ne_none_iff_exists'.mp hhas
        rw [List.foldl_cons, heard_kept he]
        exact Option.some_ne_none e
      · have hentries := heard_full (ns := ns) (s := hearNumber s m) (hsame ▸ hfull)
        refine absurd ?_ h
        unfold State.entryOf
        rw [List.foldl_cons, hentries, hsame]
        exact hnone
    · have hnone' : (hearNumber s n).entryOf k = none := by
        by_contra hcome
        obtain ⟨e, he⟩ := Option.ne_none_iff_exists'.mp hcome
        obtain ⟨rfl, -⟩ := hearNumber_comes hnone he
        exact absurd (hfirst m hmem) (not_lt.mpr hlt.le)
      exact ih hrest hmem ((hearNumber_hears s n m).mpr hhears) hnone' h

/-! ### A quiet set -/

theorem mem_quietNumbers {q : BitVec 64} {m : Station} :
    m ∈ (List.finRange 64).filter (inQuiet q) ↔ q.getMsbD m.val = true := by
  simp [inQuiet]

theorem quietNumbers_ascending (q : BitVec 64) : ((List.finRange 64).filter (inQuiet q)).Pairwise (· < ·) :=
  (List.pairwise_lt_finRange 64).filter _

end Sys2Proof.Machine

section
open Sys2Proof Sys2Proof.Machine Sys2Proof.Safety Sys2Proof.Claims

/-- Settles O31: the numbers of a quiet set, taken one after the other. -/
theorem quietSetIsTakenByHearsay : Obligations.QuietSetIsTakenByHearsay := by
  intro q s hlen u
  refine ⟨fun m e h => heard_kept h, fun m e hnone h => ?_, fun m hq hown hforgot hnone => ?_, fun hall => ?_,
    fun hover => heard_overflow hover, fun m k hlt hq hown hforgot hnone h => ?_, (heard_length hlen).2, by simp [u],
    by simp [u]⟩
  · obtain ⟨hm, ⟨hown, hforgot⟩, he⟩ := heard_comes hnone h
    exact ⟨mem_quietNumbers.mp hm, hown, hforgot, he⟩
  · exact heard_refused (mem_quietNumbers.mpr hq) ⟨hown, hforgot⟩ hnone hlen
  · exact heard_overflow_kept fun m hm ⟨hown, hforgot⟩ => hall m (mem_quietNumbers.mp hm) hown hforgot
  · exact heard_ascending (quietNumbers_ascending q) (mem_quietNumbers.mpr hq) hlt ⟨hown, hforgot⟩ hnone h

end
end

section
/-! A valid frame received in a window that stays open, and what a roster event hands on: confirmations, raise hold and
settling (R15, R19, R42, R49, R50, R52, R117). -/

namespace Sys2Proof.Machine

open Sys2Proof.Safety Sys2Proof.Claims

/-! ### The row of a valid frame (R95, R101, R117) -/

/-- The state in which a valid frame is taken, counted and with its assembly ended, under the link record `l`. -/
def State.received (s : State) (t : Time) (bytes : List Byte) (l : LinkMonitor) : State := { s.atTime t with
  bus := { s.bus with
    assembly := .empty, validReceived := bump s.bus.validReceived
    recessive := trailingRecessive (lineBitsOf bytes), endLeft := 10 }
  link := l }

theorem takeValid_link (f : Frame) (s : State) : (takeValid f s).link = s.link := by
  unfold takeValid
  split
  · simp [takeOwnNumber, enterDuplicate]
  · simp

theorem takeValid_params (f : Frame) (s : State) : (takeValid f s).params = s.params := by
  refine params_congr ?_
  unfold takeValid
  split
  · simp [takeOwnNumber, enterDuplicate]
  · simp

theorem validFrame_of_judged {bytes : List Byte} {f : Frame} (h : judgeFrame bytes = some (.inl f)) :
    validFrame bytes = some f := by
  unfold validFrame
  rw [h]

theorem frameOfKind_of_judged {bytes : List Byte} {f : Frame} (h : judgeFrame bytes = some (.inl f)) :
    frameOfKind f.kind bytes = some f := by
  unfold frameOfKind
  rw [validFrame_of_judged h]
  exact if_pos rfl

theorem receiveKind_of_judged {bytes : List Byte} {f : Frame} (first : Bool) (s : State)
    (h : judgeFrame bytes = some (.inl f)) : receiveKind f.kind bytes first s = takeFrame f bytes first s := by
  unfold receiveKind
  rw [frameOfKind_of_judged h]

theorem countValid_frameEnds (t : Time) (bytes : List Byte) (s : State) :
    countValid (frameEnds bytes (s.atTime t)) = s.received t bytes s.link := by
  simp [countValid, frameEnds, State.received, countRecessive_eq_trailing, Config.slotBits, Config.endBits, State.atTime]

/-- A valid frame is taken in a state that differs in the link counts alone, and is one event more. -/
theorem exec_frameRow_taken {t : Time} {bytes : List Byte} {first : Bool} {f : Frame} {s : State} (hopen : OpenWindow s)
    (hcan : s.canTake bytes = true) (hjudged : judgeFrame bytes = some (.inl f)) :
    ∃ l : LinkMonitor, l.degraded = s.link.degraded ∧ exec (frameRow f.kind t bytes first) s = .next
      { takeValid f (s.received t bytes l) with link := { s.link with events := s.link.events + 1 } } := by
  have hrow : exec (frameRow f.kind t bytes first) s = .next (receiveValid f first (frameEnds bytes (s.atTime t))) :=
    ((exec_frameRow f.kind t bytes first s).trans (arrive_released hopen.1)).trans (congrArg _ ((receiveKind_of_judged first (s.atTime t) hjudged).trans
      (takeFrame_of_canTake (s := s.atTime t) hcan)))
  rw [hrow]
  unfold receiveValid
  rw [countValid_frameEnds]
  cases first
  · refine ⟨s.link, rfl, congrArg _ ?_⟩
    have hlink := takeValid_link f (s.received t bytes s.link)
    have hparams := takeValid_params f (s.received t bytes s.link)
    simp only [Bool.false_eq_true, if_false]
    rw [frameEvent_of_lt_window _ (by rw [hlink, hparams]; exact hopen.2), hlink]
    rfl
  · refine ⟨{ s.link with events := s.link.events + 1 }, rfl, congrArg _ ?_⟩
    have hevent : frameEvent false (s.received t bytes s.link) =
        s.received t bytes { s.link with events := s.link.events + 1 } :=
      frameEvent_of_lt_window (s := s.received t bytes s.link) false hopen.2
    have hlink := takeValid_link f (s.received t bytes { s.link with events := s.link.events + 1 })
    rw [if_pos rfl, hevent]
    exact (congrArg (fun l => ({ takeValid f (s.received t bytes { s.link with events := s.link.events + 1 }) with
      link := l } : State)) hlink).symm ▸ rfl

/-- A peer's frame, outside ISOLATED, clears the isolation count besides what the Roster Unit does (R72). -/
theorem takeValid_peer {f : Frame} {s : State} (hown : f.station ≠ s.ownStation)
    (hiso : (takePeerFrame f s).life.state ≠ .isolated) : takeValid f s =
      { takePeerFrame f s with sched := { (takePeerFrame f s).sched with isolationCount := 0 } } := by
  unfold takeValid reportPeerFrame
  rw [if_neg hown]
  exact if_neg hiso

/-! ### The settled condition evaluated (R50, R51, R71) -/

/-- Of the station record the evaluation changes state and phase, where JOINING ends. -/
theorem evalSettled_life_eq (s : State) : (evalSettled s).life = { s.life with
    state := if s.life.state = .joining ∧ s.grantCtl.settled = false ∧ s.settledCondition = true then .active
      else s.life.state
    phase := if s.life.state = .joining ∧ s.grantCtl.settled = false ∧ s.settledCondition = true then .none
      else s.life.phase } := by
  unfold evalSettled
  by_cases hsame : s.settledCondition = s.grantCtl.settled
  · rw [if_pos hsame]
    cases hc : s.settledCondition <;> simp [← hsame, hc]
  · rw [if_neg hsame]
    cases hc : s.settledCondition with
    | false => simp
    | true =>
      have hclear : s.grantCtl.settled = false := by
        rw [hc] at hsame
        exact Bool.eq_false_iff.mpr fun h => hsame h.symm
      by_cases hj : s.life.state = .joining
      · simp [hj, hclear, enterActive]
      · simp [hj]

theorem evalSettled_ne_isolated {s : State} (h : s.life.state ≠ .isolated) : (evalSettled s).life.state ≠ .isolated := by
  rw [evalSettled_life_eq]
  dsimp only
  split
  · decide
  · exact h

/-! ### What counts for the digest (R19) -/

theorem digestKey_eq (e : Entry) :
    e.digestKey = ⟨(countedParts e).1, (countedParts e).2.1, (countedParts e).2.2⟩ := by
  unfold Entry.digestKey countedParts
  cases e.cls <;> cases e.origin <;> rfl

theorem digestKey_eq_iff {a b : Entry} : a.digestKey = b.digestKey ↔ countedParts a = countedParts b := by
  rw [digestKey_eq, digestKey_eq]
  constructor
  · intro h
    obtain ⟨h1, h2, h3⟩ := DigestKey.mk.inj h
    exact Prod.ext h1 (Prod.ext h2 h3)
  · intro h
    rw [h]

theorem digestKeys_eq_iff {es fs : List Entry} :
    es.map Entry.digestKey = fs.map Entry.digestKey ↔ es.map countedParts = fs.map countedParts := by
  induction es generalizing fs with
  | nil => cases fs <;> simp
  | cons x xs ih =>
    cases fs with
    | nil => simp
    | cons y ys => simp only [List.map_cons, List.cons.injEq, digestKey_eq_iff, ih]

theorem countedParts_unflagged (es : List Entry) : (es.map Entry.unflagged).map countedParts = es.map countedParts := by
  rw [List.map_map]
  rfl

/-! ### What a hand-off does to the entries -/

theorem handOn_entries (dig pln : Bool) (s : State) : (handOn dig pln s).roster.entries =
    if dig then s.roster.entries.map Entry.unflagged else s.roster.entries := by
  rw [handOn_roster]
  cases dig <;> rfl

theorem handOn_entryOf (dig pln : Bool) (s : State) (n : Station) : (handOn dig pln s).entryOf n =
    if dig then (s.entryOf n).map Entry.unflagged else s.entryOf n := by
  unfold State.entryOf
  rw [handOn_entries]
  cases dig with
  | true => exact findEntry_unflagged n _
  | false => rfl

/-- An entry keeps all but its flag, which no hand-off sets. -/
theorem handOn_entryOf_kept {dig pln : Bool} {s : State} {n : Station} {e : Entry} (h : s.entryOf n = some e) :
    ∃ b, (handOn dig pln s).entryOf n = some { e with confirmed := b } ∧ (b = true → e.confirmed = true) := by
  rw [handOn_entryOf, h]
  cases dig with
  | true => exact ⟨false, rfl, fun hb => nomatch hb⟩
  | false => exact ⟨e.confirmed, rfl, id⟩

theorem handOn_counted (dig pln : Bool) (s : State) :
    (handOn dig pln s).roster.entries.map countedParts = s.roster.entries.map countedParts := by
  rw [handOn_entries]
  cases dig with
  | true => exact countedParts_unflagged _
  | false => rfl

/-- A roster event whose end `u` has the entries, the raise hold and the plan that handing `m` on leaves, but for the flag of
the sender (R19, R49, R52). -/
theorem digestChangeTaken_of_commit {who : Option Station} {s w m u : State}
    (hbefore : w.roster.entries = s.roster.entries) (hserial : w.planner.claim.serial = m.planner.claim.serial)
    (hcounted : u.roster.entries.map countedParts = m.roster.entries.map countedParts)
    (hflags : ∀ k, some k ≠ who → u.entryOf k = (commit w m).entryOf k)
    (hhold : u.grantCtl.raiseHold = (commit w m).grantCtl.raiseHold)
    (hplan : u.planner.plan = (commit w m).planner.plan)
    (hmplan : m.planner.plan = s.planner.plan) (hmhold : m.grantCtl.raiseHold = s.grantCtl.raiseHold)
    (hnow : u.now = m.now) (hparams : m.params = s.params)
    (hkept : m.roster.entries.map countedParts = s.roster.entries.map countedParts → ∀ k e x, some k ≠ who →
      s.entryOf k = some e → m.entryOf k = some x → x.confirmed = e.confirmed) :
    DigestChangeTaken who s u := by
  unfold DigestChangeTaken
  intro full
  have hfull : full = .running (m.now + m.params.raiseHold * Config.sec) := by rw [hparams, ← hnow]
  have hstays : m.roster.entries.map countedParts = s.roster.entries.map countedParts → digestChanged w m = false :=
    fun hsame => digestChanged_eq_false.mpr ⟨digestKeys_eq_iff.mpr (by rw [hsame, hbefore]), hserial⟩
  have hmoves : m.roster.entries.map countedParts ≠ s.roster.entries.map countedParts → digestChanged w m = true := by
    intro hne
    rw [← Bool.not_eq_false]
    intro hno
    exact hne ((digestKeys_eq_iff.mp (digestChanged_eq_false.mp hno).1).symm.trans (by rw [hbefore]))
  have hread : ∀ k, some k ≠ who → u.entryOf k = if digestChanged w m then (m.entryOf k).map Entry.unflagged
      else m.entryOf k := fun k hk => (hflags k hk).trans (handOn_entryOf _ _ m k)
  have hruns : u.grantCtl.raiseHold = if digestChanged w m || ((planInputChanged w m && m.life.state.plans) &&
      increases m.planner.plan m.planNow) then full else s.grantCtl.raiseHold := by
    rw [hhold, hfull, ← hmhold]
    exact handOn_raiseHold _ _ m
  have hnew : u.planner.plan = if planInputChanged w m && m.life.state.plans then some m.planNow else s.planner.plan := by
    rw [hplan, ← hmplan]
    exact handOn_plan _ _ m
  rw [hcounted]
  refine ⟨fun hne => ⟨fun k e hk he => ?_, ?_⟩, fun hsame => ⟨fun k e x hk he hx => ?_, fun p q hp hq => ?_⟩⟩
  · rw [hread k hk, hmoves hne, if_pos rfl] at he
    obtain ⟨x, -, rfl⟩ := Option.map_eq_some_iff.mp he
    rfl
  · rw [hruns, hmoves hne, Bool.true_or, if_pos rfl]
  · rw [hread k hk, hstays hsame] at hx
    exact hkept hsame k e x hk he hx
  · rw [hstays hsame, Bool.false_or] at hruns
    by_cases hpln : (planInputChanged w m && m.life.state.plans) = true
    · rw [if_pos hpln] at hnew
      have hq' : q = m.planNow := Option.some.inj (hq.symm.trans hnew)
      rw [hpln, Bool.true_and, hmplan, hp] at hruns
      subst hq'
      refine ⟨fun hlarger => hruns.trans (if_pos ?_), fun hh hpool => hruns.trans (if_neg ?_)⟩
      · simpa [increases] using hlarger
      · simpa [increases] using ⟨hh, hpool⟩
    · rw [if_neg hpln, hp] at hnew
      have hq' : p = q := (Option.some.inj (hq.symm.trans hnew)).symm
      rw [Bool.eq_false_iff.mpr hpln, Bool.false_and] at hruns
      subst hq'
      exact ⟨fun hlarger => absurd hlarger (by simp), fun _ _ => hruns⟩

/-! ### Entry into DUPLICATE (R82) -/

/-- What the entry leaves, from a state in which the station is not in DUPLICATE. -/
theorem enterDuplicate_writes {s : State} (h : s.life.state ≠ .duplicate) :
    (enterDuplicate s).life =
      { s.life with state := .duplicate, phase := .none, listen := none, fallbackAt := none, spentAt := none } ∧
    (enterDuplicate s).grantCtl = { s.grantCtl with grant := 0 } ∧
    (enterDuplicate s).sched =
      { s.sched with shed := none, leave := none, announce := none, status := none, spacing := none } ∧
    (enterDuplicate s).roster = { s.roster with entries := s.roster.entries.map (fun e => { e with forget := none }) } ∧
    (enterDuplicate s).bus = { s.bus with assembly := .empty, trailer := .neither } ∧
    (enterDuplicate s).host.queue = (if s.grantCtl.grant = 0 then
        enterNote (.stationState .duplicate .none s.loader.stage) (enterNote .duplicate s.host.queue)
      else enterNote (.grant 0)
        (enterNote (.stationState .duplicate .none s.loader.stage) (enterNote .duplicate s.host.queue))) ∧
    (enterDuplicate s).cutOutput = s.cutFlag := by
  have hsched : (enterDuplicate s).sched = _ := setGrant_sched_discarded (by simp [StationState.accepts, StationState.participates])
  refine ⟨by simp [enterDuplicate], by simp [enterDuplicate], ?_, ?_, ?_, ?_, ?_⟩
  · rw [hsched]
    simp [emptyRequests]
  · simp [enterDuplicate, holdRoster]
  · simp [enterDuplicate, silenceBus]
  · simp [enterDuplicate, setGrant_queue, setStation_queue, h]
  · have hcut := setStation_cutOutput (ph := .none) (s := raiseNote .duplicate
      { s with life := { s.life with listen := none, fallbackAt := none, spentAt := none } }) (st := .duplicate) h
    simpa [enterDuplicate, State.cutFlag] using hcut

theorem takesFrames_of_canTake {s : State} {bytes : List Byte} (h : s.canTake bytes = true) :
    s.life.state.takesFrames = true := (Bool.and_eq_true_iff.mp h).1

end Sys2Proof.Machine

section
open Sys2Proof Sys2Proof.Machine Sys2Proof.Safety Sys2Proof.Claims

/-- Settles O34: of a frame with our own number nothing is taken but DUPLICATE. -/
theorem ownNumberEntersDuplicate : Obligations.OwnNumberEntersDuplicate := by
  intro t bytes first f s hopen hcan hjudged hown
  obtain ⟨l, -, hexec⟩ := exec_frameRow_taken (t := t) (first := first) hopen hcan hjudged
  have hvalid : takeValid f (s.received t bytes l) = enterDuplicate { s.received t bytes l with
      bus := { (s.received t bytes l).bus with trailer := .neither } } := if_pos hown
  have hne : s.life.state ≠ .duplicate := fun hd => by
    have := takesFrames_of_canTake hcan
    rw [hd] at this
    cases this
  obtain ⟨hlife, hgrant, hsched, hroster, hbus, hqueue, hcut⟩ := enterDuplicate_writes (s := { s.received t bytes l with
      bus := { (s.received t bytes l).bus with trailer := .neither } }) hne
  rw [hvalid] at hexec
  refine ⟨_, hexec, hlife, hgrant, hsched, hroster, hbus, hqueue, rfl, hcut, ?_⟩
  simp only [enterDuplicate_frame, Apart, PortKept]
  exact ⟨rfl, rfl, rfl, rfl, ⟨rfl, rfl, ⟨rfl, rfl, rfl⟩, rfl, rfl, rfl⟩, rfl⟩

end
end

section
/-! STATUS and ANNOUNCE of a peer (R25 to R30, R34, R43, R48). -/

namespace Sys2Proof.Machine

open Sys2Proof.Safety Sys2Proof.Claims

/-! ### The hand-off of a roster event -/

theorem noteRoster_entryOf (before g : State) (n : Station) : (noteRoster before g).entryOf n = g.entryOf n :=
  congrArg (fun r : RosterUnit => findEntry n r.entries) (by simp)

theorem handRoster_entryOf_kept {before g : State} {n : Station} {e : Entry} (h : g.entryOf n = some e) :
    ∃ b, (handRoster before g).entryOf n = some { e with confirmed := b } ∧ (b = true → e.confirmed = true) := by
  exact handOn_entryOf_kept ((noteRoster_entryOf before g n).trans h)

theorem handRoster_entryOf_none {before g : State} {n : Station} (h : g.entryOf n = none) :
    (handRoster before g).entryOf n = none := by
  refine (handOn_entryOf _ _ _ n).trans ?_
  rw [noteRoster_entryOf, h]
  exact ite_self none

theorem handRoster_unflagged (before g : State) :
    (handRoster before g).roster.entries.map Entry.unflagged = g.roster.entries.map Entry.unflagged := by
  have h : (handRoster before g).roster.entries = _ := handOn_entries _ _ (noteRoster before g)
  have htwice : (g.roster.entries.map Entry.unflagged).map Entry.unflagged = g.roster.entries.map Entry.unflagged := by
    rw [List.map_map]
    rfl
  rw [h]
  simp only [noteRoster_frame]
  split
  · exact htwice
  · rfl

theorem countedParts_of_unflagged {es fs : List Entry} (h : es.map Entry.unflagged = fs.map Entry.unflagged) :
    es.map countedParts = fs.map countedParts := by
  rw [← countedParts_unflagged es, h, countedParts_unflagged fs]

/-- The confirmations and the raise hold after the hand-off of a roster event. -/
theorem digestChangeTaken_of_handRoster {who : Option Station} {s w g u : State}
    (hbefore : w.roster.entries = s.roster.entries) (hclaim : w.planner.claim = g.planner.claim)
    (hentries : u.roster.entries.map Entry.unflagged = g.roster.entries.map Entry.unflagged)
    (hflags : ∀ k, some k ≠ who → u.entryOf k = (handRoster w g).entryOf k)
    (hhold : u.grantCtl.raiseHold = (handRoster w g).grantCtl.raiseHold)
    (hplan : u.planner.plan = (handRoster w g).planner.plan)
    (hgplan : g.planner.plan = s.planner.plan) (hghold : g.grantCtl.raiseHold = s.grantCtl.raiseHold)
    (hnow : u.now = g.now) (hloader : g.loader = s.loader)
    (hkept : g.roster.entries.map countedParts = s.roster.entries.map countedParts → ∀ k e x, some k ≠ who →
      s.entryOf k = some e → g.entryOf k = some x → x.confirmed = e.confirmed) :
    DigestChangeTaken who s u := by
  refine digestChangeTaken_of_commit (m := noteRoster w g) hbefore (by simp [hclaim]) ?_ hflags hhold hplan
    (by simpa using hgplan) (by simpa using hghold) (by simpa using hnow) (params_congr (by simp [hloader])) ?_
  · simpa using countedParts_of_unflagged hentries
  · intro hsame k e x hk he hx
    exact hkept (by simpa using hsame) k e x hk he ((noteRoster_entryOf w g k).symm.trans hx)

/-! ### The sender's entry (R26 to R30) -/

theorem canHold_of_room {s : State} {n : Station} (h : s.entryOf n ≠ none ∨ s.roster.entries.length < 24) :
    s.canHold n = true := by
  unfold State.canHold
  rcases h with h | h
  · have hhas : hasEntry n s.roster.entries = true := by
      rw [← Bool.not_eq_false]
      exact fun hno => h (hasEntry_eq_false.mp hno)
    rw [hhas, Bool.true_or]
  · exact Bool.or_eq_true_iff.mpr (.inr (decide_eq_true h))

theorem entryOf_putEntry (e : Entry) (s : State) (n : Station) :
    (putEntry e s).entryOf n = if e.station = n then some e else s.entryOf n := findEntry_upsertEntry n e s.roster.entries

theorem putEntry_isLive (e : Entry) (s : State) : (putEntry e s).isLive e.station = decide (e.cls = .live) := by
  unfold State.isLive
  rw [entryOf_putEntry, if_pos rfl]

/-- The flag of an entry that is made: only a STATUS of a LIVE sender leaves it. -/
theorem entryFrom_confirmed_of_mismatch {s : State} {n : Station} {net : Word16} {c : ClaimPart} {st : Option StatusPart}
    (h : s.loader.networkDigest ≠ some net) : (s.entryFrom n net c st).confirmed = false := by
  have hcls : s.classFor net = .mismatch := if_neg h
  simp [State.entryFrom, hcls]

theorem entryFrom_live_iff {s : State} {n : Station} {net : Word16} {c : ClaimPart} {st : Option StatusPart} :
    (s.entryFrom n net c st).cls = .live ↔ s.loader.networkDigest = some net := by
  by_cases h : s.loader.networkDigest = some net <;> simp [State.entryFrom, State.classFor, h]

theorem entryFrom_forget (s : State) (n : Station) (net : Word16) (c : ClaimPart) (st : Option StatusPart) :
    (s.entryFrom n net c st).forget = if s.loader.networkDigest = some net then none else s.forgetAt := by
  by_cases h : s.loader.networkDigest = some net <;> simp [State.entryFrom, State.classFor, h]

/-! ### The quiet set and the flags -/

/-- Two states whose rosters differ in confirmed flags alone. -/
structure SameButFlags (a b : State) : Prop where
  entries : a.roster.entries.map Entry.unflagged = b.roster.entries.map Entry.unflagged
  forgotten : a.roster.forgotten = b.roster.forgotten
  overflow : a.roster.overflow = b.roster.overflow
  now : a.now = b.now
  loader : a.loader = b.loader

theorem SameButFlags.entryOf {a b : State} (h : SameButFlags a b) (n : Station) :
    (a.entryOf n).map Entry.unflagged = (b.entryOf n).map Entry.unflagged := by
  unfold State.entryOf
  rw [← findEntry_unflagged, ← findEntry_unflagged, h.entries]

theorem SameButFlags.length {a b : State} (h : SameButFlags a b) : a.roster.entries.length = b.roster.entries.length := by
  simpa using congrArg List.length h.entries

theorem SameButFlags.hearNumber {a b : State} (h : SameButFlags a b) (n : Station) :
    SameButFlags (hearNumber a n) (hearNumber b n) := by
  have hown : a.ownStation = b.ownStation := ownStation_congr (by rw [h.loader])
  have hentry : a.entryOf n = none ↔ b.entryOf n = none := by
    rw [← Option.map_eq_none_iff (f := Entry.unflagged), h.entryOf n, Option.map_eq_none_iff]
  have hhas : hasEntry n a.roster.entries = hasEntry n b.roster.entries := by
    rw [Bool.eq_iff_iff, ← not_iff_not, Bool.not_eq_true, Bool.not_eq_true, hasEntry_eq_false, hasEntry_eq_false]
    exact hentry
  have hroom : a.roster.hasRoom = b.roster.hasRoom := by
    unfold RosterUnit.hasRoom
    rw [h.length]
  have hmade : a.hearsayEntry n = b.hearsayEntry n := by
    simp [State.hearsayEntry, State.forgetAt, h.now, params_congr (congrArg Loader.heldCopy h.loader)]
  unfold Machine.hearNumber
  rw [hown, hhas, h.forgotten, hroom, hmade]
  split
  · exact h
  · split
    · exact ⟨by rw [unflagged_upsertEntry, unflagged_upsertEntry, h.entries], h.forgotten, h.overflow, h.now, h.loader⟩
    · exact ⟨h.entries, h.forgotten, rfl, h.now, h.loader⟩

theorem SameButFlags.takeQuietSet {a b : State} (h : SameButFlags a b) (q : BitVec 64) :
    SameButFlags (takeQuietSet q a) (takeQuietSet q b) := by
  unfold Machine.takeQuietSet
  generalize (List.finRange 64).filter (inQuiet q) = ns
  induction ns generalizing a b with
  | nil => exact h
  | cons n ns ih => exact ih (h.hearNumber n)

/-! ### The sender confirmed (R48) -/

theorem confirmSender_entryOf_other {n k : Station} (h : k ≠ n) (d : Word16) (s : State) :
    (confirmSender n d s).entryOf k = s.entryOf k := by
  have hmap := findEntry_map (f := fun e => if e.station = n ∧ e.cls = .live then
    { e with confirmed := decide (d = s.planner.digest) } else e) (fun e => by split <;> rfl) k s.roster.entries
  refine hmap.trans ?_
  unfold State.entryOf
  cases he : findEntry k s.roster.entries with
  | none => rfl
  | some e =>
    have hne : e.station ≠ n := fun hn => h ((findEntry_station he).symm.trans hn)
    simp [hne]

theorem confirmSender_entryOf_sender {n : Station} {e : Entry} {d : Word16} {s : State} (h : s.entryOf n = some e)
    (hclear : e.cls ≠ .live → e.confirmed = false) : (confirmSender n d s).entryOf n =
      some { e with confirmed := decide (e.cls = .live ∧ d = s.planner.digest) } := by
  have hmap := findEntry_map (f := fun e => if e.station = n ∧ e.cls = .live then
    { e with confirmed := decide (d = s.planner.digest) } else e) (fun e => by split <;> rfl) n s.roster.entries
  refine hmap.trans ?_
  have hfound : findEntry n s.roster.entries = some e := h
  have hnum := findEntry_station hfound
  rw [hfound, Option.map_some]
  by_cases hcls : e.cls = .live
  · simp [hcls, hnum]
  · have hsame : ({ e with confirmed := false } : Entry) = e := by rw [← hclear hcls]
    rw [if_neg (fun h => hcls h.2), decide_eq_false (fun h => hcls h.1), hsame]

theorem confirmSender_unflagged (n : Station) (d : Word16) (s : State) :
    (confirmSender n d s).roster.entries.map Entry.unflagged = s.roster.entries.map Entry.unflagged := by
  unfold confirmSender
  rw [List.map_map]
  refine List.map_congr_left fun e _ => ?_
  dsimp only [Function.comp]
  split <;> rfl

theorem slotsKept_of_slots {s u : State} (hshed : u.sched.shed = s.sched.shed) (hleave : u.sched.leave = s.sched.leave)
    (hannounce : u.sched.announce = s.sched.announce) (hflight : u.sched.inFlight = s.sched.inFlight)
    (hspacing : u.sched.spacing = s.sched.spacing) (hdropped : u.sched.requestsDropped = s.sched.requestsDropped) :
    SlotsKept s u := ⟨hshed, hleave, hannounce, hflight, hspacing, hdropped⟩

/-! ### A STATUS and an ANNOUNCE taken -/

section
variable {n : Station} {net : Word16} {c : ClaimPart} {w : State}

theorem takeClaim_held {st : Option StatusPart} (h : w.canHold n = true) :
    takeClaim n net c st w = putEntry (w.entryFrom n net c st) w := if_pos h

/-- A STATUS of a peer that has an entry or finds room. -/
theorem takeStatus_held {st : StatusPart} (h : w.canHold n = true) : takeStatus n net c st w =
    evalSettled (confirmSender n st.rosterDigest (handRoster w
      (takeHearsay n st.quiet (putEntry (w.entryFrom n net c (some st)) w)))) := by
  unfold takeStatus
  dsimp only
  rw [takeClaim_held h, if_pos h]

theorem takeHearsay_live {e : Entry} {q : BitVec 64} (he : e.station = n) (h : e.cls = .live) :
    takeHearsay n q (putEntry e w) = takeQuietSet q (putEntry e w) := by
  have hlive := putEntry_isLive e w
  rw [he, decide_eq_true h] at hlive
  exact if_pos hlive

theorem takeHearsay_other {e : Entry} {q : BitVec 64} (he : e.station = n) (h : e.cls ≠ .live) :
    takeHearsay n q (putEntry e w) = putEntry e w := by
  have hlive := putEntry_isLive e w
  rw [he, decide_eq_false h] at hlive
  exact if_neg (by rw [hlive]; decide)

theorem takeHearsay_kept {m : Station} {e : Entry} {q : BitVec 64} {s : State} (h : s.entryOf m = some e) :
    (takeHearsay n q s).entryOf m = some e := by
  unfold takeHearsay
  split
  · exact heard_kept h
  · exact h

/-- An ANNOUNCE of a peer that has an entry or finds room. -/
theorem takeAnnounce_held (h : w.canHold n = true) : takeAnnounce n net c w =
    evalSettled (raiseRequest .status 0 (handRoster w (putEntry (w.entryFrom n net c none) w))) := by
  unfold takeAnnounce
  rw [takeClaim_held h]

end

end Sys2Proof.Machine

section
open Sys2Proof Sys2Proof.Machine Sys2Proof.Safety Sys2Proof.Claims

/-- Settles O28: the sender's entry, the quiet set after it, and what the event hands on. -/
theorem statusFrameUpdatesItsSender : Obligations.StatusFrameUpdatesItsSender := by
  intro t bytes first n net c st s hopen hcan hjudged hown hiso hroom
  intro updated heard
  obtain ⟨l, -, hexec⟩ := exec_frameRow_taken (t := t) (first := first) hopen hcan hjudged
  generalize hw : s.received t bytes l = w at hexec
  have hfrom : w = s.received t bytes l := hw.symm
  have hhold : w.canHold n = true := by
    rw [hfrom]
    exact canHold_of_room hroom
  have hlive : (w.entryFrom n net c (some st)).cls = .live ↔ s.loader.networkDigest = some net := by
    rw [entryFrom_live_iff, hfrom]
    rfl
  have hupdated : (w.entryFrom n net c (some st)).unflagged = updated := by
    have hforget := entryFrom_forget w n net c (some st)
    unfold Entry.unflagged
    rw [hforget, hfrom]
    rfl
  generalize he : w.entryFrom n net c (some st) = e at hlive hupdated
  have hnum : e.station = n := by rw [← he]; rfl
  have hconfirmed : e.cls ≠ .live → e.confirmed = false := fun hne => by
    rw [← he]
    refine entryFrom_confirmed_of_mismatch fun hd => hne ?_
    rw [← he]
    exact entryFrom_live_iff.mpr hd
  have htaken : takePeerFrame (.status n net c st) w = evalSettled (confirmSender n st.rosterDigest (handRoster w
      (takeHearsay n st.quiet (putEntry e w)))) := by
    rw [← he]
    exact takeStatus_held hhold
  generalize hg : takeHearsay n st.quiet (putEntry e w) = g at htaken
  have hbase : g.planner = s.planner ∧ g.grantCtl = s.grantCtl ∧ g.life = s.life ∧ g.sched = s.sched ∧
      g.loader = s.loader ∧ g.now = max s.now t := by
    rw [← hg, hfrom]
    simp [putEntry, State.received]
  obtain ⟨hplanner, hctl, hlife, hsched, hloader, hnow⟩ := hbase
  have hsender : g.entryOf n = some e := by
    rw [← hg]
    refine takeHearsay_kept ?_
    rw [entryOf_putEntry, if_pos hnum]
  have hothers : ∀ m x, m ≠ n → s.entryOf m = some x → g.entryOf m = some x := fun m x hm hx => by
    rw [← hg]
    refine takeHearsay_kept ?_
    rw [entryOf_putEntry, if_neg (fun h => hm (h.symm.trans hnum)), hfrom]
    exact hx
  generalize hv : confirmSender n st.rosterDigest (handRoster w g) = v at htaken
  have hvother : ∀ m, m ≠ n → v.entryOf m = (handRoster w g).entryOf m := fun m hm => by
    rw [← hv]
    exact confirmSender_entryOf_other hm _ _
  have hvlife : v.life = s.life := by
    rw [← hv]
    simpa using hlife
  have hvroster : v.roster.forgotten = s.roster.forgotten.erase n ∧ v.roster.overflow = g.roster.overflow ∧
      v.roster.admissionsRefused = s.roster.admissionsRefused ∧ v.roster.shedIgnored = s.roster.shedIgnored := by
    rw [← hv, ← hg, hfrom]
    simp [putEntry, State.received, hnum]
  obtain ⟨hforgotten, hoverflow, hrefused, hignored⟩ := hvroster
  have hvkept : v.planner.claim = s.planner.claim ∧ v.grantCtl.settled = s.grantCtl.settled ∧
      v.grantCtl.deficit = s.grantCtl.deficit ∧ v.grantCtl.shedHold = s.grantCtl.shedHold ∧
      v.bus = { s.bus with
        assembly := .empty, trailer := .accept, validReceived := bump s.bus.validReceived
        recessive := trailingRecessive (lineBitsOf bytes), endLeft := 10 } ∧
      v.meter = s.meter ∧ v.enf = s.enf ∧ v.loader = s.loader ∧ Apart s v ∧ v.now = max s.now t ∧
      v.sched.inFlight = s.sched.inFlight ∧ v.sched.spacing = s.sched.spacing := by
    rw [← hv, ← hg, hfrom]
    simp [putEntry, State.received, Apart, PortKept]
  obtain ⟨hvclaim, hvsettled, hvdeficit, hvshed, hvbus, hvmeter, hvenf, hvloader, hvapart, hvnow, hvflight, hvspacing⟩ := hvkept
  have hvslots : SlotsKept s v := by
    rw [← hv]
    exact slotsKept_trans (slotsKept_of_sched hsched) (slotsKept_trans (handRoster_slotsKept w g)
      (slotsKept_of_sched (by simp)))
  have hventries : v.roster.entries.map Entry.unflagged = g.roster.entries.map Entry.unflagged := by
    rw [← hv, confirmSender_unflagged, handRoster_unflagged]
  have hiso' : (takePeerFrame (.status n net c st) w).life.state ≠ .isolated := by
    rw [htaken]
    exact evalSettled_ne_isolated (by rw [hvlife]; exact hiso)
  have hvalid := takeValid_peer (f := .status n net c st) (s := w) (by rw [hfrom]; exact hown) hiso'
  rw [hvalid, htaken] at hexec
  have hquiet : s.loader.networkDigest = some net → SameButFlags g heard := fun hdig => by
    rw [← hg, takeHearsay_live hnum (hlive.mpr hdig)]
    refine SameButFlags.takeQuietSet ⟨?_, ?_, ?_, ?_, ?_⟩ st.quiet
    · rw [hfrom]
      refine (unflagged_upsertEntry e s.roster.entries).trans ?_
      rw [hupdated]
      exact (unflagged_upsertEntry updated s.roster.entries).symm
    · rw [hfrom, ← hnum]; rfl
    · rw [hfrom]; rfl
    · rw [hfrom]; rfl
    · rw [hfrom]; rfl
  have huentry : ∀ m, (evalSettled v).entryOf m = v.entryOf m := fun m =>
    congrArg (fun r : RosterUnit => findEntry m r.entries) (by simp)
  have huslots := slotsKept_trans hvslots (evalSettled_slotsKept v)
  refine ⟨_, hexec, ?_, fun hdig => ⟨fun m hm => ?_, ?_⟩, fun hdig => ⟨fun m hm hnone => ?_, ?_⟩, fun m x hm hx => ?_, ?_,
    fun hnodup => ?_, evalSettled_fits v, ?_, ?_, rfl, ?_, ?_, ?_, rfl, ?_, ?_, ?_, ?_, ?_, ?_, ?_, ?_, ?_, ?_, ?_⟩
  · obtain ⟨b, hb, hflag⟩ := handRoster_entryOf_kept (before := w) hsender
    have hclear : e.cls ≠ .live → b = false := fun hne => Bool.eq_false_iff.mpr fun hset =>
      nomatch (hconfirmed hne).symm.trans (hflag hset)
    have hfound : v.entryOf n = _ := hv ▸ confirmSender_entryOf_sender (d := st.rosterDigest) hb hclear
    have hdigest : (handRoster w g).planner.digest = v.planner.digest := by rw [← hv]; simp
    refine (huentry n).trans (hfound.trans ?_)
    rw [hdigest, ← hupdated]
    have hplan : (evalSettled v).planner.digest = v.planner.digest := by simp
    simp only [hlive, hplan]
    rfl
  · have hsame := hquiet hdig
    refine ((congrArg _ (huentry m)).trans ?_).trans (hsame.entryOf m)
    have := congrArg (findEntry m) hventries
    rwa [findEntry_unflagged, findEntry_unflagged] at this
  · exact (by simpa using hoverflow : (evalSettled v).roster.overflow = g.roster.overflow).trans (hquiet hdig).overflow
  · have hput : g = putEntry e w := hg ▸ takeHearsay_other hnum (fun h => hdig (hlive.mp h))
    refine (huentry m).trans ((hvother m hm).trans (handRoster_entryOf_none ?_))
    rw [hput, entryOf_putEntry, if_neg (fun h => hm (h.symm.trans hnum)), hfrom]
    exact hnone
  · have hput : g = putEntry e w := hg ▸ takeHearsay_other hnum (fun h => hdig (hlive.mp h))
    have : g.roster.overflow = s.roster.overflow := by rw [hput, hfrom]; rfl
    simpa [this] using hoverflow
  · obtain ⟨b, hb, hflag⟩ := handRoster_entryOf_kept (before := w) (hothers m x hm hx)
    exact ⟨b, (huentry m).trans ((hvother m hm).trans hb), hflag⟩
  · simpa using hforgotten
  · have hmem : n ∉ s.roster.forgotten.erase n := hnodup.not_mem_erase
    simpa [hforgotten] using hmem
  · have hsettled : (evalSettled v).grantCtl.settled = v.settledCondition := evalSettled_settled v
    have hlifeEq := evalSettled_life_eq v
    rw [hvlife, hvsettled, ← hsettled] at hlifeEq
    exact hlifeEq
  · refine digestChangeTaken_of_handRoster (w := w) (g := g) (by rw [hfrom]; rfl) ?_ ?_ (fun k hk => ?_) ?_ ?_ ?_ ?_ ?_ hloader
      fun _ k x y hk hx hy => ?_
    · rw [hplanner, hfrom]; rfl
    · simpa using hventries
    · exact (huentry k).trans (hvother k fun h => hk (congrArg some h))
    · have : v.grantCtl.raiseHold = (handRoster w g).grantCtl.raiseHold := by rw [← hv]; simp
      simpa using this
    · have : v.planner.plan = (handRoster w g).planner.plan := by rw [← hv]; simp
      simpa using this
    · rw [hplanner]
    · rw [hctl]
    · rw [hnow]
      simpa using hvnow
    · rw [Option.some.inj (hy.symm.trans (hothers k x (fun h => hk (congrArg some h)) hx))]
  · simpa using hvflight
  · simpa using hvspacing
  · simpa using hvbus
  · simpa using hvclaim
  · simpa using hvdeficit
  · simpa using hvshed
  · simpa using hrefused
  · simpa using hignored
  · simpa using hvmeter
  · simpa using hvenf
  · simpa using hvloader
  · simpa [Apart, PortKept] using hvapart
  · exact slotsKept_trans huslots (slotsKept_of_slots rfl rfl rfl rfl rfl rfl)
  · simpa using hvnow

end
end

section
/-! ANNOUNCE, LEAVE and SHED of a peer, and the admission that a full roster refuses (R25, R26, R28, R31, R32, R40). -/

namespace Sys2Proof.Machine

open Sys2Proof.Safety Sys2Proof.Claims

theorem raiseStatus_entryOf (s : State) (n : Station) : (raiseRequest .status 0 s).entryOf n = s.entryOf n :=
  congrArg (fun r : RosterUnit => findEntry n r.entries) (by simp)

theorem evalSettled_entryOf (s : State) (n : Station) : (evalSettled s).entryOf n = s.entryOf n :=
  congrArg (fun r : RosterUnit => findEntry n r.entries) (by simp)

/-! ### An admission refused (R28) -/

theorem raiseRequest_eq_sched (k : Kind) (x : Current) (s : State) :
    raiseRequest k x s = { s with sched := (raiseRequest k x s).sched } := by
  unfold raiseRequest
  split <;> rfl

theorem entries_of_findEntry_none {n : Station} {es : List Entry} (h : findEntry n es = none) : ∀ e ∈ es, e.station ≠ n :=
  fun e he hn => by simpa [hn] using List.find?_eq_none.mp h e he

/-- A station without an entry is not confirmed. -/
theorem confirmSender_of_no_entry {n : Station} {d : Word16} {s : State} (h : s.entryOf n = none) :
    confirmSender n d s = s := by
  have hsame : s.roster.entries.map (fun e => if e.station = n ∧ e.cls = .live then
      { e with confirmed := decide (d = s.planner.digest) } else e) = s.roster.entries := by
    refine (List.map_congr_left fun e he => ?_).trans (List.map_id _)
    exact if_neg fun hc => entries_of_findEntry_none h e he hc.1
  unfold confirmSender
  rw [hsame]

/-- A refused admission is handed on as its notification alone. -/
theorem handRoster_refused (w : State) : handRoster w (refuseAdmission w) = noteRoster w (refuseAdmission w) := by
  have hdig : digestChanged w (noteRoster w (refuseAdmission w)) = false :=
    digestChanged_eq_false.mpr ⟨by simp [refuseAdmission], by simp [refuseAdmission]⟩
  have hpln : planInputChanged w (noteRoster w (refuseAdmission w)) = false :=
    planInputChanged_eq_false.mpr ⟨by simp [refuseAdmission], by simp [refuseAdmission], by simp [refuseAdmission],
      by simp [refuseAdmission]⟩
  unfold handRoster commit
  rw [hdig, hpln]
  rfl

theorem noteRoster_refused_queue (w : State) : (noteRoster w (refuseAdmission w)).host.queue =
    if w.roster.overflow then w.host.queue else enterNote (.overflow true) w.host.queue := by
  have hover : (refuseAdmission w).roster.overflow = true := rfl
  have hmembers : ∀ v : State, v.roster = (refuseAdmission w).roster → ¬membershipChanged w v = true := fun v hv => by
    simp [membershipChanged, hv, refuseAdmission]
  unfold noteRoster
  dsimp only
  rw [hover, if_neg (hmembers _ (by split <;> rfl))]
  cases w.roster.overflow <;> rfl

/-- An ANNOUNCE or a STATUS that a full roster refuses: of the state handed on the request list alone may differ. -/
theorem takePeerFrame_refused {f : Frame} {w : State} (hkind : f.kind = .status ∨ f.kind = .announce)
    (hnone : w.entryOf f.station = none) (hfull : 24 ≤ w.roster.entries.length) :
    ∃ v, takePeerFrame f w = evalSettled { noteRoster w (refuseAdmission w) with sched := v.sched } ∧ SlotsKept w v ∧
      v.sched.isolationCount = w.sched.isolationCount := by
  have hhold : w.canHold f.station = false := by
    unfold State.canHold
    rw [hasEntry_eq_false.mpr hnone, Bool.false_or]
    exact decide_eq_false (not_lt.mpr hfull)
  have hclaim : ∀ n net c st, f.station = n → takeClaim n net c st w = refuseAdmission w := fun n net c st hn => by
    subst hn
    exact if_neg (by rw [hhold]; decide)
  cases f with
  | status n net c st =>
    have hentry : (noteRoster w (refuseAdmission w)).entryOf n = none := (noteRoster_entryOf _ _ n).trans hnone
    refine ⟨w, ?_, slotsKept_refl w, rfl⟩
    have hsched : (noteRoster w (refuseAdmission w)).sched = w.sched := by simp [refuseAdmission]
    have hno : ¬ w.canHold n = true := by rw [show w.canHold n = false from hhold]; decide
    unfold takePeerFrame takeStatus
    dsimp only
    rw [hclaim n net c (some st) rfl, if_neg hno, handRoster_refused, confirmSender_of_no_entry hentry, ← hsched]
  | announce n net c =>
    refine ⟨raiseRequest .status 0 (noteRoster w (refuseAdmission w)), ?_, ?_, by simp [refuseAdmission]⟩
    · unfold takePeerFrame takeAnnounce
      dsimp only
      rw [hclaim n net c none rfl, handRoster_refused, ← raiseRequest_eq_sched]
    · exact slotsKept_trans (slotsKept_of_sched (by simp [refuseAdmission])) (raiseStatus_slotsKept 0 _)
  | leave => exact hkind.elim (fun h => nomatch h) fun h => nomatch h
  | shed => exact hkind.elim (fun h => nomatch h) fun h => nomatch h

/-! ### LEAVE and SHED (R31, R32, R61) -/

theorem entryOf_dropEntry (n : Station) (s : State) (m : Station) :
    (dropEntry n s).entryOf m = if m = n then none else s.entryOf m := findEntry_removeEntry n m s.roster.entries

theorem takeLeave_of_entry {n : Station} {w : State} (h : w.entryOf n ≠ none) :
    takeLeave n w = evalSettled (handRoster w (dropEntry n (answerAccept w))) := by
  refine if_pos ?_
  rw [← Bool.not_eq_false]
  exact fun hno => h (hasEntry_eq_false.mp hno)

theorem takeLeave_of_no_entry {n : Station} {w : State} (h : w.entryOf n = none) : takeLeave n w = answerAccept w := by
  have hno : hasEntry n w.roster.entries = false := hasEntry_eq_false.mpr h
  exact if_neg (by rw [hno]; decide)

theorem Entry.refresh_station (e : Entry) (now : Time) (forget : Timer) : (e.refresh now forget).station = e.station := by
  unfold Entry.refresh
  split <;> rfl

theorem refreshSender_entryOf (n m : Station) (s : State) : (refreshSender n s).entryOf m =
    if m = n then (s.entryOf m).map (fun e => e.refresh s.now s.forgetAt) else s.entryOf m := by
  have hmap := findEntry_map (f := fun e => if e.station = n then e.refresh s.now s.forgetAt else e)
    (fun e => by split; exacts [e.refresh_station _ _, rfl]) m s.roster.entries
  refine hmap.trans ?_
  unfold State.entryOf
  cases he : findEntry m s.roster.entries with
  | none => simp
  | some e => simp [findEntry_station he]; split <;> rfl

theorem Entry.refresh_heard {e : Entry} {r : Report} (h : e.origin = .heard r) (now : Time) (forget : Timer) :
    e.refresh now forget = { e with
      origin := .heard { r with lastHeard := now }
      silence := if e.cls = .live then 0 else e.silence
      forget := if e.cls = .live then e.forget else forget } := by
  unfold Entry.refresh
  rw [h]
  cases e.cls <;> rfl

theorem Entry.refresh_hearsay {e : Entry} (h : e.origin = .hearsay) (now : Time) (forget : Timer) :
    e.refresh now forget = e := by
  unfold Entry.refresh
  rw [h]

/-- A SHED is handed on as no change of the digest (R19, R32). -/
theorem takeShed_eq (n : Station) (net : Word16) (x : Current) (w : State) : takeShed n net x w =
    handOn false (planInputChanged w (judgeShed net x (refreshSender n (answerAccept w))))
      (judgeShed net x (refreshSender n (answerAccept w))) := by
  have halike := refreshSender_alike n (answerAccept w)
  have hdig : digestChanged w (judgeShed net x (refreshSender n (answerAccept w))) = false :=
    digestChanged_eq_false.mpr ⟨by simpa using halike.digestKeys.symm, by simp⟩
  unfold takeShed commit
  rw [hdig]

theorem judgeShed_own {net : Word16} {x : Current} {w : State} (h : w.loader.networkDigest = some net) :
    judgeShed net x w = applyShed x w := if_pos h

theorem judgeShed_other {net : Word16} {x : Current} {w : State} (h : w.loader.networkDigest ≠ some net) :
    judgeShed net x w = { w with roster := { w.roster with shedIgnored := bump w.roster.shedIgnored } } := if_neg h

/-- A SHED of another network changes the sender's entry, the count and the trailer alone. -/
theorem takeShed_other {n : Station} {net : Word16} {x : Current} {w : State} (h : w.loader.networkDigest ≠ some net) :
    takeShed n net x w = judgeShed net x (refreshSender n (answerAccept w)) := by
  have halike := refreshSender_alike n (answerAccept w)
  have hother : judgeShed net x (refreshSender n (answerAccept w)) = _ := judgeShed_other (by simpa using h)
  have hpln : planInputChanged w (judgeShed net x (refreshSender n (answerAccept w))) = false :=
    planInputChanged_eq_false.mpr ⟨by simpa using halike.planKeys.symm, by simp, by simp, by rw [hother]; simp⟩
  rw [takeShed_eq, hpln]
  rfl

theorem applyShed_grantCtl (x : Current) (s : State) : (applyShed x s).grantCtl = { s.grantCtl with
    deficit := max s.grantCtl.deficit x, shedHold := some (s.now + s.params.shedHold * Config.sec) } := by
  unfold applyShed
  dsimp only
  split <;> rfl

theorem takeShed_roster (n : Station) (net : Word16) (x : Current) (w : State) :
    (takeShed n net x w).roster = (judgeShed net x (refreshSender n (answerAccept w))).roster := by
  rw [takeShed_eq, handOn_roster]
  rfl

end Sys2Proof.Machine

section
open Sys2Proof Sys2Proof.Machine Sys2Proof.Safety Sys2Proof.Claims

/-- Settles O29: as a STATUS, without the quiet set, and with a STATUS requested. -/
theorem announceFrameUpdatesItsSender : Obligations.AnnounceFrameUpdatesItsSender := by
  intro t bytes first n net c s hopen hcan hjudged hown hiso hroom
  obtain ⟨l, -, hexec⟩ := exec_frameRow_taken (t := t) (first := first) hopen hcan hjudged
  generalize hw : s.received t bytes l = w at hexec
  have hfrom : w = s.received t bytes l := hw.symm
  have hhold : w.canHold n = true := by
    rw [hfrom]
    exact canHold_of_room hroom
  have hforget := entryFrom_forget w n net c none
  have hnum : (w.entryFrom n net c none).station = n := rfl
  have htaken : takePeerFrame (.announce n net c) w = evalSettled (raiseRequest .status 0 (handRoster w
      (putEntry (w.entryFrom n net c none) w))) := takeAnnounce_held hhold
  have hmade : w.entryFrom n net c none =
      { station := n
        cls := if s.loader.networkDigest = some net then .live else .mismatch
        origin := .heard
          { priority := c.flags.priority, min := c.min.toNat, max := c.max.toNat, demand := c.demand.toNat,
            serial := c.serial, grant := 0, state := c.flags.state, lastHeard := max s.now t }
        flags := { degraded := c.flags.degraded, cut := c.flags.cut, parked := c.flags.parked }
        draw := none, estimate := none, digest := none, confirmed := false, silence := 0
        forget := if s.loader.networkDigest = some net then none
          else some (max s.now t + s.params.forgetPeriod) } := by
    have hentry : w.entryFrom n net c none = { w.entryFrom n net c none with
        forget := if w.loader.networkDigest = some net then none else w.forgetAt } := by rw [← hforget]
    rw [hentry, hfrom]
    rfl
  generalize w.entryFrom n net c none = e at hnum htaken hmade
  generalize hg : putEntry e w = g at htaken
  have hbase : g.planner = s.planner ∧ g.grantCtl = s.grantCtl ∧ g.life = s.life ∧ g.sched = s.sched ∧
      g.loader = s.loader ∧ g.now = max s.now t := by
    rw [← hg, hfrom]
    exact ⟨rfl, rfl, rfl, rfl, rfl, rfl⟩
  obtain ⟨hplanner, hctl, hlife, hsched, hloader, hnow⟩ := hbase
  have hentry : ∀ m, g.entryOf m = if n = m then some e else s.entryOf m := fun m => by
    rw [← hg, entryOf_putEntry, hnum, hfrom]
    rfl
  generalize hv : raiseRequest .status 0 (handRoster w g) = v at htaken
  have hventry : ∀ m, v.entryOf m = (handRoster w g).entryOf m := fun m => by rw [← hv, raiseStatus_entryOf]
  have hvkept : v.planner.claim = s.planner.claim ∧ v.grantCtl.deficit = s.grantCtl.deficit ∧
      v.grantCtl.shedHold = s.grantCtl.shedHold ∧
      v.bus = { s.bus with
        assembly := .empty, trailer := .accept, validReceived := bump s.bus.validReceived
        recessive := trailingRecessive (lineBitsOf bytes), endLeft := 10 } ∧
      v.meter = s.meter ∧ v.enf = s.enf ∧ v.loader = s.loader ∧ Apart s v ∧ v.now = max s.now t ∧ v.life = s.life ∧
      v.roster.forgotten = s.roster.forgotten.erase n ∧ v.roster.overflow = s.roster.overflow ∧
      v.roster.admissionsRefused = s.roster.admissionsRefused ∧ v.roster.shedIgnored = s.roster.shedIgnored := by
    rw [← hv, ← hg, hfrom]
    simp [putEntry, State.received, Apart, PortKept, hnum]
  obtain ⟨hvclaim, hvdeficit, hvshed, hvbus, hvmeter, hvenf, hvloader, hvapart, hvnow, hvlife, hforgotten, hoverflow,
    hrefused, hignored⟩ := hvkept
  have hvslots : SlotsKept s v := by
    rw [← hv]
    exact slotsKept_trans (slotsKept_of_sched hsched) (slotsKept_trans (handRoster_slotsKept w g)
      (raiseStatus_slotsKept 0 _))
  have hiso' : (takePeerFrame (.announce n net c) w).life.state ≠ .isolated := by
    rw [htaken]
    exact evalSettled_ne_isolated (by rw [hvlife]; exact hiso)
  have hvalid := takeValid_peer (f := .announce n net c) (s := w) (by rw [hfrom]; exact hown) hiso'
  rw [hvalid, htaken] at hexec
  have huentry : ∀ m, (evalSettled v).entryOf m = (handRoster w g).entryOf m := fun m =>
    (evalSettled_entryOf v m).trans (hventry m)
  have huslots := slotsKept_trans hvslots (evalSettled_slotsKept v)
  refine ⟨_, hexec, ?_, fun m x hm hx => ?_, fun m hm hnone => ?_, ?_, ?_, ?_, fun hpart => ?_, evalSettled_fits v, rfl, ?_, rfl,
    ?_, ?_, ?_, ?_, ?_, ?_, ?_, ?_, ?_, ?_, ?_⟩
  · obtain ⟨b, hb, hflag⟩ := handRoster_entryOf_kept (before := w) (e := e) ((hentry n).trans (if_pos rfl))
    have hclear : e.confirmed = false := by rw [hmade]
    have hbit : b = false := Bool.eq_false_iff.mpr fun hset => nomatch hclear.symm.trans (hflag hset)
    refine (huentry n).trans (hb.trans ?_)
    rw [hbit, ← hmade, ← hclear]
  · exact (handRoster_entryOf_kept (before := w) ((hentry m).trans ((if_neg (Ne.symm hm)).trans hx))).imp fun b hb =>
      ⟨(huentry m).trans hb.1, hb.2⟩
  · exact (huentry m).trans (handRoster_entryOf_none ((hentry m).trans ((if_neg (Ne.symm hm)).trans hnone)))
  · simpa using hforgotten
  · simpa using hoverflow
  · refine digestChangeTaken_of_handRoster (w := w) (g := g) (by rw [hfrom]; rfl) ?_ ?_ (fun k _ => huentry k) ?_ ?_ ?_ ?_ ?_
      hloader fun _ k x y hk hx hy => ?_
    · rw [hplanner, hfrom]; rfl
    · have : v.roster.entries.map Entry.unflagged = g.roster.entries.map Entry.unflagged := by
        rw [← hv, ← handRoster_unflagged w g]
        simp
      simpa using this
    · have : v.grantCtl.raiseHold = (handRoster w g).grantCtl.raiseHold := by rw [← hv]; simp
      simpa using this
    · have : v.planner.plan = (handRoster w g).planner.plan := by rw [← hv]; simp
      simpa using this
    · rw [hplanner]
    · rw [hctl]
    · rw [hnow]
      simpa using hvnow
    · have hne : ¬ n = k := fun h => hk (congrArg some h.symm)
      rw [Option.some.inj (hy.symm.trans ((hentry k).trans ((if_neg hne).trans hx)))]
  · refine evalSettled_status_kept ?_
    rw [← hv]
    refine raiseStatus_stands ?_
    have : (handRoster w g).life = s.life := by simpa using hlife
    rw [this]
    exact hpart
  · simpa using hvbus
  · simpa using hvclaim
  · simpa using hvdeficit
  · simpa using hvshed
  · simpa using hrefused
  · simpa using hignored
  · simpa using hvmeter
  · simpa using hvenf
  · simpa using hvloader
  · simpa [Apart, PortKept] using hvapart
  · exact slotsKept_trans huslots (slotsKept_of_slots rfl rfl rfl rfl rfl rfl)
  · simpa using hvnow

/-- Settles O30: the full roster refuses, and our station is not settled. -/
theorem fullRosterRefusesAdmission : Obligations.FullRosterRefusesAdmission := by
  intro t bytes first f s hopen hcan hjudged hkind hown hiso hnone hfull
  obtain ⟨l, -, hexec⟩ := exec_frameRow_taken (t := t) (first := first) hopen hcan hjudged
  obtain ⟨v, htaken, hslots, hcount⟩ := takePeerFrame_refused (w := s.received t bytes l) hkind hnone hfull
  have hsettled : State.settledCondition { noteRoster (s.received t bytes l) (refuseAdmission (s.received t bytes l)) with
      sched := v.sched } = false := by simp [State.settledCondition, refuseAdmission]
  rw [evalSettled_of_no_rise (fun h => nomatch hsettled.symm.trans h), hsettled] at htaken
  have hiso' : (takePeerFrame f (s.received t bytes l)).life.state ≠ .isolated := by
    rw [htaken]
    simpa [refuseAdmission, State.received] using hiso
  rw [takeValid_peer (s := s.received t bytes l) hown hiso', htaken] at hexec
  have hqueue := noteRoster_refused_queue (s.received t bytes l)
  obtain ⟨hshed, hleave, hannounce, hflight, hspacing, hdropped⟩ := hslots
  refine ⟨_, hexec, ?_, ?_, hqueue, ?_, rfl, rfl, ?_, ?_, ?_, ?_, ?_, ?_, ⟨hshed, hleave, hannounce, hflight, hspacing, hdropped⟩,
    ?_⟩
  all_goals simp [refuseAdmission, State.received, Apart, PortKept]

end
end

section
open Sys2Proof Sys2Proof.Machine Sys2Proof.Safety Sys2Proof.Claims

/-- Settles O32: the entry that a LEAVE removes is handed on as a roster event; without one the trailer alone answers. -/
theorem leaveFrameRemovesItsSender : Obligations.LeaveFrameRemovesItsSender := by
  intro t bytes first n net serial s hopen hcan hjudged hown hiso
  obtain ⟨l, -, hexec⟩ := exec_frameRow_taken (t := t) (first := first) hopen hcan hjudged
  generalize hw : s.received t bytes l = w at hexec
  have hfrom : w = s.received t bytes l := hw.symm
  have hsame : ∀ m, w.entryOf m = s.entryOf m := fun m => by rw [hfrom]; rfl
  by_cases hentry : s.entryOf n = none
  · have htaken : takePeerFrame (.leave n net serial) w = answerAccept w :=
      takeLeave_of_no_entry ((hsame n).trans hentry)
    have hiso' : (takePeerFrame (.leave n net serial) w).life.state ≠ .isolated := by
      rw [htaken, hfrom]
      exact hiso
    rw [takeValid_peer (f := .leave n net serial) (s := w) (by rw [hfrom]; exact hown) hiso', htaken, hfrom] at hexec
    refine ⟨_, hexec, hentry, fun h => absurd hentry h, fun _ => ⟨rfl, rfl, rfl, rfl, rfl⟩,
      fun m e _ he => ⟨e.confirmed, he, id⟩, fun m hm => hm, ?_, rfl, rfl, rfl, rfl, rfl, rfl, rfl, rfl, rfl, rfl,
      by simp [Apart, PortKept, answerAccept, State.received],
      slotsKept_of_slots rfl rfl rfl rfl rfl rfl, rfl⟩
    refine ⟨fun hne => absurd rfl hne, fun _ => ⟨fun m e x _ he hx => ?_, fun p q hp hq => ?_⟩⟩
    · rw [Option.some.inj (hx.symm.trans he)]
    · have hpq : p = q := Option.some.inj (hp.symm.trans hq)
      subst hpq
      exact ⟨fun hlarger => absurd hlarger (by simp), fun _ _ => rfl⟩
  · have htaken : takePeerFrame (.leave n net serial) w = evalSettled (handRoster w (dropEntry n (answerAccept w))) :=
      takeLeave_of_entry (by rw [hsame]; exact hentry)
    generalize hg : dropEntry n (answerAccept w) = g at htaken
    have hgentry : ∀ m, g.entryOf m = if m = n then none else s.entryOf m := fun m => by
      rw [← hg, entryOf_dropEntry, hfrom]
      rfl
    have hbase : g.planner = s.planner ∧ g.grantCtl = s.grantCtl ∧ g.life = s.life ∧ g.sched = s.sched ∧
        g.loader = s.loader ∧ g.now = max s.now t := by
      rw [← hg, hfrom]
      exact ⟨rfl, rfl, rfl, rfl, rfl, rfl⟩
    obtain ⟨hplanner, hctl, hlife, hsched, hloader, hnow⟩ := hbase
    have hvkept : (handRoster w g).planner.claim = s.planner.claim ∧
        (handRoster w g).bus = { s.bus with
          assembly := .empty, trailer := .accept, validReceived := bump s.bus.validReceived
          recessive := trailingRecessive (lineBitsOf bytes), endLeft := 10 } ∧
        (handRoster w g).meter = s.meter ∧ (handRoster w g).enf = s.enf ∧ (handRoster w g).loader = s.loader ∧
        Apart s (handRoster w g) ∧ (handRoster w g).now = max s.now t ∧ (handRoster w g).life = s.life ∧
        (handRoster w g).roster.forgotten = s.roster.forgotten ∧ (handRoster w g).roster.overflow = false ∧
        (handRoster w g).roster.admissionsRefused = s.roster.admissionsRefused ∧
        (handRoster w g).roster.shedIgnored = s.roster.shedIgnored := by
      rw [← hg, hfrom]
      simp [dropEntry, answerAccept, State.received, Apart, PortKept]
    obtain ⟨hvclaim, hvbus, hvmeter, hvenf, hvloader, hvapart, hvnow, hvlife, hforgotten, hoverflow, hrefused, hignored⟩ := hvkept
    have hvslots : SlotsKept s (handRoster w g) := slotsKept_trans (slotsKept_of_sched hsched) (handRoster_slotsKept w g)
    have hiso' : (takePeerFrame (.leave n net serial) w).life.state ≠ .isolated := by
      rw [htaken]
      exact evalSettled_ne_isolated (by rw [hvlife]; exact hiso)
    rw [takeValid_peer (f := .leave n net serial) (s := w) (by rw [hfrom]; exact hown) hiso', htaken] at hexec
    have huentry : ∀ m, (evalSettled (handRoster w g)).entryOf m = (handRoster w g).entryOf m := evalSettled_entryOf _
    have huslots := slotsKept_trans hvslots (evalSettled_slotsKept (handRoster w g))
    refine ⟨_, hexec, (huentry n).trans (handRoster_entryOf_none ((hgentry n).trans (if_pos rfl))),
      fun _ => ⟨by simpa using hoverflow, evalSettled_fits _⟩, fun h => absurd h hentry, fun m e hm he => ?_,
      fun m hm => (huentry m).trans (handRoster_entryOf_none ((hgentry m).trans ?_)), ?_, by simpa using hforgotten, rfl,
      by simpa using hvbus, rfl, by simpa using hvclaim, by simpa using hrefused, by simpa using hignored,
      by simpa using hvmeter, by simpa using hvenf, by simpa using hvloader, by simpa [Apart, PortKept] using hvapart,
      slotsKept_trans huslots (slotsKept_of_slots rfl rfl rfl rfl rfl rfl), by simpa using hvnow⟩
    · exact (handRoster_entryOf_kept (before := w) ((hgentry m).trans ((if_neg hm).trans he))).imp fun b hb =>
        ⟨(huentry m).trans hb.1, hb.2⟩
    · rw [hm, ite_self]
    · refine digestChangeTaken_of_handRoster (w := w) (g := g) (by rw [hfrom]; rfl) ?_ ?_ (fun k _ => huentry k) (by simp)
        (by simp) (by rw [hplanner]) (by rw [hctl]) ?_ hloader fun _ k x y _ hx hy => ?_
      · rw [hplanner, hfrom]; rfl
      · simpa using handRoster_unflagged w g
      · rw [hnow]
        simpa using hvnow
      · rw [hgentry] at hy
        split at hy
        · cases hy
        · rw [Option.some.inj (hy.symm.trans hx)]

/-- Settles O33: the deficit, the sender that counts as heard, and no change of the digest. -/
theorem shedFrameRaisesTheDeficit : Obligations.ShedFrameRaisesTheDeficit := by
  intro t bytes first n net excess s hopen hcan hjudged hown hiso
  obtain ⟨l, -, hexec⟩ := exec_frameRow_taken (t := t) (first := first) hopen hcan hjudged
  generalize hw : s.received t bytes l = w at hexec
  have hfrom : w = s.received t bytes l := hw.symm
  have htaken : takePeerFrame (.shed n net excess) w = takeShed n net excess.toNat w := rfl
  have hlife : (takeShed n net excess.toNat w).life = s.life := by
    rw [hfrom]
    simp [State.received]
  rw [takeValid_peer (f := .shed n net excess) (s := w) (by rw [hfrom]; exact hown) (by rw [htaken, hlife]; exact hiso),
    htaken] at hexec
  have hentry : ∀ m, (takeShed n net excess.toNat w).entryOf m =
      if m = n then (s.entryOf m).map (fun e => e.refresh (max s.now t) (some (max s.now t + s.params.forgetPeriod)))
      else s.entryOf m := fun m => by
    have hread : (takeShed n net excess.toNat w).entryOf m = (refreshSender n (answerAccept w)).entryOf m :=
      congrArg (findEntry m) (by rw [takeShed_roster]; simp)
    rw [hread, refreshSender_entryOf, hfrom]
    rfl
  have hbus : (takeShed n net excess.toNat w).bus = { s.bus with
      assembly := .empty, trailer := .accept, validReceived := bump s.bus.validReceived
      recessive := trailingRecessive (lineBitsOf bytes), endLeft := 10 } := by
    rw [takeShed_eq, hfrom]
    simp [answerAccept, State.received]
  have hdigest : (takeShed n net excess.toNat w).planner.digest = s.planner.digest := by
    rw [takeShed_eq, handOn_digest, hfrom]
    simp [State.received]
  have hslots : SlotsKept s (takeShed n net excess.toNat w) := by
    rw [takeShed_eq]
    refine slotsKept_trans (slotsKept_of_sched ?_) (handOn_slotsKept _ _ _)
    rw [hfrom]
    simp [State.received]
  have hnetwork : w.loader = s.loader := by rw [hfrom]; rfl
  have hctlBefore : w.grantCtl = s.grantCtl := by rw [hfrom]; rfl
  have hnowBefore : w.now = max s.now t := by rw [hfrom]; rfl
  have hignored : w.roster.shedIgnored = s.roster.shedIgnored := by rw [hfrom]; rfl
  refine ⟨_, hexec, fun hour => ?_, fun hother => ?_, fun m hm => (hentry m).trans (if_neg hm), fun hnone => ?_,
    fun e r he hr => ?_, fun e he _ hr => ?_, ?_, hdigest, ?_, ?_, ?_, rfl, hlife, hbus, rfl, ?_, ?_, ?_, ?_,
    slotsKept_trans hslots (slotsKept_of_slots rfl rfl rfl rfl rfl rfl), ?_⟩
  · have happlied : judgeShed net excess.toNat (refreshSender n (answerAccept w)) =
        applyShed excess.toNat (refreshSender n (answerAccept w)) := judgeShed_own (by simpa [hnetwork] using hour)
    have hctl := applyShed_grantCtl excess.toNat (refreshSender n (answerAccept w))
    have hroster := takeShed_roster n net excess.toNat w
    rw [happlied] at hroster
    refine ⟨?_, ?_, ?_⟩
    · rw [takeShed_eq, happlied]
      simp [hctl, hctlBefore]
    · have hparams : (refreshSender n (answerAccept w)).params = s.params := params_congr (by simp [hnetwork])
      rw [takeShed_eq, happlied]
      simp [hctl, hparams, hnowBefore]
    · simp [hroster, hignored]
  · have hsame := takeShed_other (n := n) (x := excess.toNat) (w := w) (by rw [hnetwork]; exact hother)
    rw [judgeShed_other (by simpa [hnetwork] using hother)] at hsame
    rw [hsame, hfrom]
    exact ⟨rfl, rfl, rfl, rfl⟩
  · exact (hentry n).trans (by rw [if_pos rfl, hnone]; rfl)
  · refine (hentry n).trans ?_
    rw [if_pos rfl, he, Option.map_some, Entry.refresh_heard hr]
  · refine (hentry n).trans ?_
    rw [if_pos rfl, he, Option.map_some, Entry.refresh_hearsay hr]
  all_goals rw [hfrom]
  all_goals simp [State.received, Apart, PortKept]

end

section
/-! Silence and forgetting (R37 to R40, R68). -/

namespace Sys2Proof.Machine

open Sys2Proof.Safety Sys2Proof.Claims

/-! ### A cycle expiry (R38, R39) -/

theorem Entry.countSilence_station (e : Entry) (limit : Nat) (forget : Time) :
    (e.countSilence limit forget).station = e.station := by
  unfold Entry.countSilence
  (repeat' split) <;> rfl

theorem Entry.countSilence_falls {e : Entry} {r : Report} {limit : Nat} {forget : Time} (hlive : e.cls = .live)
    (hr : e.origin = .heard r) (h : limit ≤ e.silence + 1) : e.countSilence limit forget = { e with
      cls := .quiet, draw := none, estimate := none, digest := none, confirmed := false
      silence := limit, forget := some (r.lastHeard + forget) } := by
  unfold Entry.countSilence Entry.fallQuiet
  rw [if_pos hlive, if_pos h, hr]

theorem Entry.countSilence_counts {e : Entry} {limit : Nat} {forget : Time} (hlive : e.cls = .live)
    (h : e.silence + 1 < limit) : e.countSilence limit forget = { e with silence := e.silence + 1 } := by
  unfold Entry.countSilence
  rw [if_pos hlive, if_neg (not_le.mpr h)]

theorem Entry.countSilence_other {e : Entry} {limit : Nat} {forget : Time} (h : e.cls ≠ .live) :
    e.countSilence limit forget = e := if_neg h

/-- An entry whose class stays keeps its flag. -/
theorem Entry.countSilence_confirmed {e : Entry} {limit : Nat} {forget : Time}
    (h : (e.countSilence limit forget).cls = e.cls) : (e.countSilence limit forget).confirmed = e.confirmed := by
  by_cases hlive : e.cls = .live
  · unfold Entry.countSilence at h ⊢
    rw [if_pos hlive] at h ⊢
    split at h
    · exact nomatch h.trans hlive
    · next hlow => rw [if_neg hlow]
  · rw [Entry.countSilence_other hlive]

theorem countSilences_of_taking {s : State} (h : s.life.state.takesFrames = true) : countSilences s =
    evalSettled (handRoster s { s with roster := { s.roster with
      entries := s.roster.entries.map (fun e => e.countSilence s.params.silenceLimit s.params.forgetPeriod) } }) := if_pos h

theorem exec_cycleTimerExpiry {d : Time} {s : State} (hr : s.restartInput = false) (hd : s.life.cycle = some d) :
    exec .cycleTimerExpiry s = .next (cycleExpires d (s.atTime d)) := by
  simp only [exec, execCycleTimerExpiry, hd]
  exact expire_released hr

theorem exec_entryGoesQuiet {n : Station} {d : Time} {s : State} (hr : s.restartInput = false) (hd : s.life.cycle = some d)
    (htakes : s.life.state.takesFrames = true) (hfalls : s.fallsQuiet n = true) :
    exec (.entryGoesQuiet n) s = .next (cycleExpires d (s.atTime d)) := by
  simp only [exec, execEntryGoesQuiet, hd]
  refine (expire_released hr).trans (congrArg _ (onlyIf_holds ?_))
  exact Bool.and_eq_true_iff.mpr ⟨htakes, hfalls⟩

theorem participates_evalSettled {s : State} (h : s.life.state.participates = true) :
    (evalSettled s).life.state.participates = true := by
  rw [evalSettled_life_eq]
  dsimp only
  split
  · rfl
  · exact h

/-! ### Forget expiry (R37, R40) -/

theorem exec_forgetTimerExpiry {n : Station} {e : Entry} {d : Time} {s : State} (hr : s.restartInput = false)
    (htakes : s.life.state.takesFrames = true) (he : s.entryOf n = some e) (hd : e.forget = some d) :
    exec (.forgetTimerExpiry n) s = .next (forgetEntry n (s.atTime d)) := by
  have htimer : s.forgetTimer n = some d := by
    unfold State.forgetTimer
    rw [he]
    exact hd
  simp only [exec, execForgetTimerExpiry, htimer]
  exact (expire_released hr).trans (congrArg _ (onlyIf_holds (s := s.atTime d) htakes))

end Sys2Proof.Machine

section
open Sys2Proof Sys2Proof.Machine Sys2Proof.Safety Sys2Proof.Claims

/-- Settles O37: the silence counts, entry by entry, and what the event hands on. -/
theorem cycleExpiryCountsSilence : Obligations.CycleExpiryCountsSilence := by
  intro d s hr hd
  refine ⟨fun htakes => ?_, fun hno => ?_⟩
  · have hexec := exec_cycleTimerExpiry hr hd
    unfold cycleExpires at hexec
    generalize hw : ({ s.atTime d with life := { (s.atTime d).life with
      cycle := some (d + (s.atTime d).params.cyclePeriod) } } : State) = w at hexec
    have hfrom : w = { s.atTime d with life := { s.life with cycle := some (d + s.params.cyclePeriod) } } := hw.symm
    have hparams : w.params = s.params := by rw [hfrom]; rfl
    rw [countSilences_of_taking (by rw [hfrom]; exact htakes), hparams] at hexec
    generalize hg : ({ w with roster := { w.roster with
      entries := w.roster.entries.map (fun e => e.countSilence s.params.silenceLimit s.params.forgetPeriod) } } : State) = g
      at hexec
    have hentry : ∀ m, g.entryOf m =
        (s.entryOf m).map (fun e => e.countSilence s.params.silenceLimit s.params.forgetPeriod) := fun m => by
      rw [← hg, hfrom]
      exact findEntry_map (fun e => e.countSilence_station _ _) m s.roster.entries
    have hkept : (handRoster w g).planner.claim = s.planner.claim ∧ (handRoster w g).bus = s.bus ∧
        (handRoster w g).meter = s.meter ∧ (handRoster w g).enf = s.enf ∧ (handRoster w g).link = s.link ∧
        (handRoster w g).loader = s.loader ∧ Apart s (handRoster w g) ∧ (handRoster w g).now = max s.now d ∧
        (handRoster w g).life = { s.life with cycle := some (d + s.params.cyclePeriod) } ∧
        (handRoster w g).roster.forgotten = s.roster.forgotten ∧ (handRoster w g).roster.overflow = s.roster.overflow := by
      rw [← hg, hfrom]
      simp [State.atTime, Apart, PortKept]
    obtain ⟨hclaim, hbus, hmeter, henf, hlink, hloader, hapart, hnow, hlife, hforgotten, hoverflow⟩ := hkept
    have hgsame : g.planner = s.planner ∧ g.grantCtl = s.grantCtl ∧ g.sched = s.sched ∧ g.loader = s.loader ∧
        g.now = max s.now d := by
      rw [← hg, hfrom]
      exact ⟨rfl, rfl, rfl, rfl, rfl⟩
    obtain ⟨hgplanner, hgctl, hgsched, hgloader, hgnow⟩ := hgsame
    have huentry : ∀ m, (raiseRequest .status 0 (evalSettled (handRoster w g))).entryOf m = (handRoster w g).entryOf m :=
      fun m => (raiseStatus_entryOf _ m).trans (evalSettled_entryOf _ m)
    have hstays : ∀ m x, g.entryOf m = some x → ∃ b, (raiseRequest .status 0 (evalSettled (handRoster w g))).entryOf m =
        some { x with confirmed := b } ∧ (b = true → x.confirmed = true) := fun m x hx =>
      (handRoster_entryOf_kept (before := w) hx).imp fun b hb => ⟨(huentry m).trans hb.1, hb.2⟩
    have hslots : SlotsKept s (raiseRequest .status 0 (evalSettled (handRoster w g))) :=
      slotsKept_trans (slotsKept_of_sched hgsched) (slotsKept_trans (handRoster_slotsKept w g)
        (slotsKept_trans (evalSettled_slotsKept _) (raiseStatus_slotsKept 0 _)))
    refine ⟨_, hexec, fun n hfalls => ?_, by simpa using congrArg Lifecycle.cycle hlife, fun m e r he hlive horigin hlimit => ?_,
      fun m e he hlive hlow => ?_, fun m e he hother => ?_, fun m hnone => ?_, ?_, fun hpart => ?_, ?_, by simpa using hoverflow,
      by simpa using hforgotten, by simpa using hclaim, by simpa using hbus, by simpa using hmeter, by simpa using henf,
      by simpa using hlink, by simpa using hloader, by simpa [Apart, PortKept] using hapart, hslots, by simpa using hnow⟩
    · rw [exec_entryGoesQuiet hr hd htakes hfalls, ← exec_cycleTimerExpiry hr hd, hexec]
    · obtain ⟨b, hb, hflag⟩ := hstays m _ ((hentry m).trans (by rw [he, Option.map_some,
        Entry.countSilence_falls hlive horigin hlimit]))
      have hbit : b = false := Bool.eq_false_iff.mpr fun hset => nomatch hflag hset
      rw [hb, hbit]
    · exact hstays m _ ((hentry m).trans (by rw [he, Option.map_some, Entry.countSilence_counts hlive hlow]))
    · obtain ⟨b, hb, -⟩ := hstays m _ ((hentry m).trans (by rw [he, Option.map_some, Entry.countSilence_other hother]))
      exact ⟨b, hb⟩
    · exact (huentry m).trans (handRoster_entryOf_none ((hentry m).trans (by rw [hnone]; rfl)))
    · refine digestChangeTaken_of_handRoster (w := w) (g := g) (by rw [hfrom]; rfl) ?_ ?_ (fun k _ => huentry k) (by simp)
        (by simp) (by rw [hgplanner]) (by rw [hgctl]) ?_ hgloader fun hsame k e x _ he hx => ?_
      · rw [hgplanner, hfrom]; rfl
      · simpa using handRoster_unflagged w g
      · rw [hgnow]
        simpa using hnow
      · have hclass : ∀ y ∈ s.roster.entries, (y.countSilence s.params.silenceLimit s.params.forgetPeriod).cls = y.cls := by
          have hmaps : (s.roster.entries.map (fun e => e.countSilence s.params.silenceLimit s.params.forgetPeriod)).map
              countedParts = s.roster.entries.map countedParts := by
            refine Eq.trans ?_ hsame
            rw [← hg, hfrom]
            rfl
          rw [List.map_map] at hmaps
          exact fun y hy => congrArg (fun p => p.2.1) (List.map_inj_left.mp hmaps y hy)
        rw [hentry, he, Option.map_some] at hx
        rw [← Option.some.inj hx]
        exact Entry.countSilence_confirmed (hclass e (List.mem_of_find?_eq_some he))
    · refine raiseStatus_stands (participates_evalSettled ?_)
      rw [hlife]
      exact hpart
    · have hcond : (raiseRequest .status 0 (evalSettled (handRoster w g))).settledCondition =
          (evalSettled (handRoster w g)).settledCondition := settledCondition_congr (by simp)
      rw [hcond, ← evalSettled_fits (handRoster w g)]
      simp
  · rw [exec_cycleTimerExpiry hr hd]
    unfold cycleExpires countSilences
    rw [if_neg (by simpa using hno), raiseRequest_discarded]
    · rfl
    · revert hno
      dsimp only
      have hstate : (s.atTime d).life.state = s.life.state := rfl
      rw [hstate]
      cases s.life.state <;> decide

/-- Settles O39: the entry leaves, and its number joins the forgotten set. -/
theorem forgetExpiryRemovesTheEntry : Obligations.ForgetExpiryRemovesTheEntry := by
  intro n e d s hr htakes he hd
  have hexec := exec_forgetTimerExpiry hr htakes he hd
  unfold forgetEntry at hexec
  dsimp only at hexec
  generalize hw : s.atTime d = w at hexec
  have hfrom : w = s.atTime d := hw.symm
  generalize hg : ({ dropEntry n w with roster := { (dropEntry n w).roster with
    forgotten := if n ∈ (dropEntry n w).roster.forgotten then (dropEntry n w).roster.forgotten
      else n :: (dropEntry n w).roster.forgotten } } : State) = g at hexec
  have hentry : ∀ m, g.entryOf m = if m = n then none else s.entryOf m := fun m => by
    rw [← hg, hfrom]
    exact entryOf_dropEntry n (s.atTime d) m
  have hset : g.roster.forgotten = if n ∈ s.roster.forgotten then s.roster.forgotten else n :: s.roster.forgotten := by
    rw [← hg, hfrom]
    rfl
  have hkept : (handRoster w g).planner.claim = s.planner.claim ∧ (handRoster w g).bus = s.bus ∧
      (handRoster w g).meter = s.meter ∧ (handRoster w g).enf = s.enf ∧ (handRoster w g).link = s.link ∧
      (handRoster w g).loader = s.loader ∧ Apart s (handRoster w g) ∧ (handRoster w g).now = max s.now d ∧
      (handRoster w g).roster.overflow = false ∧
      (handRoster w g).roster.admissionsRefused = s.roster.admissionsRefused ∧
      (handRoster w g).roster.shedIgnored = s.roster.shedIgnored := by
    rw [← hg, hfrom]
    simp [State.atTime, dropEntry, Apart, PortKept]
  obtain ⟨hclaim, hbus, hmeter, henf, hlink, hloader, hapart, hnow, hoverflow, hrefused, hignored⟩ := hkept
  have hgsame : g.planner = s.planner ∧ g.grantCtl = s.grantCtl ∧ g.sched = s.sched ∧ g.loader = s.loader ∧
      g.now = max s.now d := by
    rw [← hg, hfrom]
    exact ⟨rfl, rfl, rfl, rfl, rfl⟩
  obtain ⟨hgplanner, hgctl, hgsched, hgloader, hgnow⟩ := hgsame
  have hforgotten : (evalSettled (handRoster w g)).roster.forgotten =
      if n ∈ s.roster.forgotten then s.roster.forgotten else n :: s.roster.forgotten := by
    rw [← hset]
    simp
  have huentry : ∀ m, (evalSettled (handRoster w g)).entryOf m = (handRoster w g).entryOf m := evalSettled_entryOf _
  refine ⟨_, hexec, (huentry n).trans (handRoster_entryOf_none ((hentry n).trans (if_pos rfl))), by simpa using hoverflow, ?_,
    fun m hm => ?_, fun hnodup => ?_, fun m x hm hx => ?_, fun m hnone => ?_, ?_, evalSettled_fits _, by simpa using hclaim,
    by simpa using hbus, by simpa using hrefused, by simpa using hignored, by simpa using hmeter, by simpa using henf,
    by simpa using hlink, by simpa using hloader, by simpa [Apart, PortKept] using hapart,
    slotsKept_trans (slotsKept_of_sched hgsched) (slotsKept_trans (handRoster_slotsKept w g) (evalSettled_slotsKept _)),
    by simpa using hnow⟩
  · rw [hforgotten]
    split
    · assumption
    · exact List.mem_cons_self
  · rw [hforgotten]
    split
    · exact Iff.rfl
    · simp [hm]
  · rw [hforgotten]
    split
    · exact hnodup
    · next hnew => exact List.nodup_cons.mpr ⟨hnew, hnodup⟩
  · exact (handRoster_entryOf_kept (before := w) ((hentry m).trans ((if_neg hm).trans hx))).imp fun b hb =>
      ⟨(huentry m).trans hb.1, hb.2⟩
  · refine (huentry m).trans (handRoster_entryOf_none ((hentry m).trans ?_))
    rw [hnone, ite_self]
  · refine digestChangeTaken_of_handRoster (w := w) (g := g) (by rw [hfrom]; rfl) ?_ ?_ (fun k _ => huentry k) (by simp)
      (by simp) (by rw [hgplanner]) (by rw [hgctl]) ?_ hgloader fun _ k e x _ he hx => ?_
    · rw [hgplanner, hfrom]; rfl
    · simpa using handRoster_unflagged w g
    · rw [hgnow]
      simpa using hnow
    · rw [hentry] at hx
      split at hx
      · cases hx
      · rw [Option.some.inj (hx.symm.trans he)]

end
end

section
/-! An update of the Meter, figure by figure (R125 to R137). -/

namespace Sys2Proof.Machine

open Sys2Proof.Safety Sys2Proof.Claims

/-! ### The parts of an update -/

/-- The fast part of an update, with its SENSE notification (R126, R127). -/
def State.fastTaken (s : State) (load feeder : Reading) : State :=
  noteSense s (judgeOverload feeder (withdrawFigures (takeReadings load feeder s)))

/-- The load channel after the reading of an update. -/
def State.loadAfter (s : State) (load : Reading) : Channel := s.meter.load.take s.params.loadScale load

/-- The feeder channel after the reading of an update. -/
def State.feederAfter (s : State) (feeder : Reading) : Channel :=
  if s.params.feederSensing then s.meter.feeder.take s.params.feederScale feeder else s.meter.feeder

/-- The Meter after the fast part. -/
theorem fastTaken_meter (s : State) (load feeder : Reading) : (s.fastTaken load feeder).meter = { s.meter with
    load := s.loadAfter load, feeder := s.feederAfter feeder
    trim := if (s.loadAfter load).faulted then none else s.meter.trim
    watch := if (s.loadAfter load).faulted then none else s.meter.watch
    estimate := if (s.feederAfter feeder).faulted then none else s.meter.estimate
    overload := countOverload s.params.feederLimit (s.overloadFigure feeder) s.meter.overload } := by
  unfold State.fastTaken
  rw [(noteSense_frame _ _).2.2.2.2.2.2.2.2.2.2.1]
  rfl

theorem fastTaken_kept (s : State) (load feeder : Reading) : (s.fastTaken load feeder).loader = s.loader ∧
    (s.fastTaken load feeder).planner = s.planner ∧ (s.fastTaken load feeder).roster = s.roster ∧
    (s.fastTaken load feeder).enf = s.enf ∧ (s.fastTaken load feeder).grantCtl = s.grantCtl ∧
    (s.fastTaken load feeder).sched = s.sched ∧ (s.fastTaken load feeder).life = s.life ∧
    (s.fastTaken load feeder).now = s.now := by
  simp [State.fastTaken, withdrawFigures, takeReadings]

theorem fastTaken_params (s : State) (load feeder : Reading) : (s.fastTaken load feeder).params = s.params :=
  params_congr (by rw [(fastTaken_kept s load feeder).1])

theorem takeUpdate_eq (load feeder : Reading) (d : Time) (s : State) : takeUpdate load feeder d s =
    applyExcess feeder (countUpdate d (if s.slowDue then slowPart d (s.fastTaken load feeder)
      else s.fastTaken load feeder)) := rfl

theorem fastTaken_updates (s : State) (load feeder : Reading) :
    (s.fastTaken load feeder).meter.updates = s.meter.updates := by
  rw [fastTaken_meter]

/-- The Meter after an update: the fast part, the slow part where it is due, and the count. -/
theorem meterUpdate_meter (load feeder : Reading) (d : Time) (s : State) : (meterUpdate load feeder d s).meter =
    { (if s.slowDue then slowPart d (s.fastTaken load feeder) else s.fastTaken load feeder).meter with
      update := some (d + 100 * Config.msec), updates := if s.slowDue then 0 else s.meter.updates + 1 } := by
  have hmeter : (meterUpdate load feeder d s).meter = (takeUpdate load feeder d s).meter := by
    unfold meterUpdate
    simp
  have hupdates : ∀ v : State, v.meter.updates = s.meter.updates → (countUpdate d v).meter =
      { v.meter with update := some (d + 100 * Config.msec), updates := if s.slowDue then 0 else s.meter.updates + 1 } := by
    intro v hv
    have hdue : v.slowDue = s.slowDue := by simp [State.slowDue, hv]
    unfold countUpdate
    rw [hdue, hv]
  rw [hmeter, takeUpdate_eq, (applyExcess_frame _ _).2.2.2.2.2.2.2.2.2.2.2.2.2.2.2.1]
  refine hupdates _ ?_
  split
  · simp [fastTaken_updates]
  · exact fastTaken_updates s load feeder

theorem meterUpdate_meter_fast {load feeder : Reading} {d : Time} {s : State} (h : s.meter.updates ≠ 9) :
    (meterUpdate load feeder d s).meter = { s.meter with
      load := s.loadAfter load, feeder := s.feederAfter feeder
      trim := if (s.loadAfter load).faulted then none else s.meter.trim
      watch := if (s.loadAfter load).faulted then none else s.meter.watch
      estimate := if (s.feederAfter feeder).faulted then none else s.meter.estimate
      overload := countOverload s.params.feederLimit (s.overloadFigure feeder) s.meter.overload
      update := some (d + 100 * Config.msec), updates := s.meter.updates + 1 } := by
  have hdue : s.slowDue = false := decide_eq_false h
  rw [meterUpdate_meter, hdue]
  simp only [Bool.false_eq_true, if_false, fastTaken_meter]

theorem meterUpdate_meter_slow {load feeder : Reading} {d : Time} {s : State} (h : s.meter.updates = 9) :
    (meterUpdate load feeder d s).meter = { (slowPart d (s.fastTaken load feeder)).meter with
      update := some (d + 100 * Config.msec), updates := 0 } := by
  have hdue : s.slowDue = true := decide_eq_true h
  rw [meterUpdate_meter, hdue]
  simp only [if_true]

theorem exec_fastUpdate {load feeder : Reading} {d : Time} {s : State} (hr : s.restartInput = false)
    (hd : s.meter.update = some d) :
    exec (.fastUpdate load feeder) s = .next (meterUpdate load feeder d (s.atTime d)) := by
  simp only [exec, execFastUpdate, hd]
  exact expire_released hr

theorem exec_slowUpdate {load feeder : Reading} {d : Time} {s : State} (hr : s.restartInput = false)
    (hd : s.meter.update = some d) (h : s.meter.updates = 9) :
    exec (.slowUpdate load feeder) s = .next (meterUpdate load feeder d (s.atTime d)) := by
  simp only [exec, execSlowUpdate, hd]
  exact (expire_released hr).trans (congrArg _ (onlyIf_holds (s := s.atTime d) (decide_eq_true h)))

/-! ### One channel (T 8-2, R128) -/

theorem Channel.take_faulty {scale : Current} {r : Reading} {c : Channel} (h : ∀ v, r ≠ .good v) :
    c.take scale r = c.faulty := by
  cases r with
  | good v => exact absurd rfl (h v)
  | _ => rfl

theorem Channel.good_held {v : Current} {c : Channel} (h : c.faulted = true ∧ c.goodRun < 3) :
    c.good v = { c with goodRun := c.goodRun + 1, history := keepLast (c.history ++ [v]) } := by
  obtain ⟨hf, hrun⟩ := h
  have hmin : min 4 (c.goodRun + 1) = c.goodRun + 1 := by omega
  unfold Channel.good
  dsimp only
  rw [hmin, if_pos ⟨hf, Nat.succ_lt_succ hrun⟩]

theorem Channel.good_present {v : Current} {c : Channel} (h : ¬(c.faulted = true ∧ c.goodRun < 3)) :
    c.good v = { c with
      faulted := false, goodRun := min 4 (c.goodRun + 1), fast := some v
      fastSettled := c.fastSettled || decide (3 ≤ c.goodRun), history := keepLast (c.history ++ [v]) } := by
  have hrun : (min 4 (c.goodRun + 1) = 4) ↔ 3 ≤ c.goodRun := by omega
  have hlow : min 4 (c.goodRun + 1) < 4 → c.goodRun < 3 := by omega
  unfold Channel.good
  dsimp only
  rw [if_neg (fun hc => h ⟨hc.1, hlow hc.2⟩)]
  simp only [Config.settleCount, hrun]

/-- The fourth good reading clears a fault, with the figure settled at once (R127). -/
theorem Channel.good_clears {v : Current} {c : Channel} (hrun : c.goodRun = 3) :
    (c.good v).faulted = false ∧ (c.good v).goodRun = 4 ∧ (c.good v).fast = some v ∧ (c.good v).fastSettled = true := by
  rw [Channel.good_present (by omega), hrun]
  exact ⟨rfl, rfl, rfl, by simp⟩

theorem Channel.good_slowCount (v : Current) (c : Channel) : (c.good v).slowCount = c.slowCount := by
  unfold Channel.good
  dsimp only
  split <;> rfl

theorem Channel.good_faulted {v : Current} {c : Channel} (h : c.faulted = false) : (c.good v).faulted = false := by
  rw [Channel.good_present (fun hc => nomatch h.symm.trans hc.1)]

/-- The slow figure that forms: the mean of ten values (R128). -/
theorem Channel.formSlow_full {c : Channel} (h : c.history.length = 10) :
    c.formSlow = { c with slow := some (c.history.sum / 10), slowCount := min 4 (c.slowCount + 1) } := if_pos h

theorem Channel.formSlow_short {c : Channel} (h : c.history.length ≠ 10) :
    c.formSlow = { c with slow := none, slowCount := 0 } := if_neg h

theorem Channel.formSlow_kept (c : Channel) : c.formSlow.history = c.history ∧ c.formSlow.faulted = c.faulted ∧
    c.formSlow.goodRun = c.goodRun ∧ c.formSlow.fast = c.fast ∧ c.formSlow.fastSettled = c.fastSettled := by
  unfold Channel.formSlow
  split <;> exact ⟨rfl, rfl, rfl, rfl, rfl⟩

/-- Ten values stand only where no faulty reading was among them. -/
theorem Channel.take_slowCount {scale : Current} {r : Reading} {c : Channel} (h : (c.take scale r).history.length = 10) :
    (c.take scale r).slowCount = c.slowCount := by
  cases r with
  | good v => exact Channel.good_slowCount _ c
  | _ => cases h

end Sys2Proof.Machine
end

section
/-! Which notifications the shared operations raise: SENSE and LINK have their own places, the Meter's readings and the
closing window (R120, R127). -/

namespace Sys2Proof.Machine

open Sys2Proof.Safety Sys2Proof.Claims

/-- A notification that is neither SENSE nor LINK. -/
def Notification.plain : Notification → Bool
  | .sense _ _ => false
  | .link _ => false
  | _ => true

/-- The queue after notifications, one after the other. -/
def enterNotes (ns : List Notification) (q : List Notification) : List Notification :=
  ns.foldl (fun q n => enterNote n q) q

/-- From one state to another nothing but plain notifications has been raised. -/
def RaisesPlain (s u : State) : Prop := ∃ ns, (∀ n ∈ ns, n.plain = true) ∧ u.host.queue = enterNotes ns s.host.queue

theorem raisesPlain_of_queue {s u : State} (h : u.host.queue = s.host.queue) : RaisesPlain s u := ⟨[], by simp, h⟩

theorem raisesPlain_refl (s : State) : RaisesPlain s s := raisesPlain_of_queue rfl

theorem RaisesPlain.trans {s v u : State} (h : RaisesPlain s v) (k : RaisesPlain v u) : RaisesPlain s u := by
  obtain ⟨ns, hns, hq⟩ := h
  obtain ⟨ms, hms, hq'⟩ := k
  refine ⟨ns ++ ms, fun n hn => (List.mem_append.mp hn).elim (hns n) (hms n), ?_⟩
  rw [hq', hq]
  exact (List.foldl_append ..).symm

theorem RaisesPlain.of_queue {s v u : State} (h : RaisesPlain v u) (hq : v.host.queue = s.host.queue) : RaisesPlain s u :=
  (raisesPlain_of_queue hq).trans h

theorem RaisesPlain.to_queue {s v u : State} (h : RaisesPlain s v) (hq : u.host.queue = v.host.queue) : RaisesPlain s u :=
  h.trans (raisesPlain_of_queue hq)

theorem raiseNote_raisesPlain {n : Notification} (h : n.plain = true) (s : State) : RaisesPlain s (raiseNote n s) :=
  ⟨[n], by simpa using h, rfl⟩

theorem raiseRequest_raisesPlain (k : Kind) (x : Current) (s : State) : RaisesPlain s (raiseRequest k x s) :=
  raisesPlain_of_queue (by simp)

theorem setGrant_raisesPlain (g : Current) (s : State) : RaisesPlain s (setGrant g s) := by
  unfold setGrant
  split
  · exact raisesPlain_refl s
  · exact ((raiseNote_raisesPlain (n := .grant g) rfl _).of_queue rfl).trans (raiseRequest_raisesPlain _ _ _)

theorem weighRaise_raisesPlain (s : State) : RaisesPlain s (weighRaise s) := by
  unfold weighRaise
  split
  · exact setGrant_raisesPlain _ s
  · exact raisesPlain_refl s

theorem takeShare_raisesPlain (s : State) : RaisesPlain s (takeShare s) := by
  unfold takeShare
  split
  · exact setGrant_raisesPlain _ s
  · exact weighRaise_raisesPlain s

theorem setStation_raisesPlain (st : StationState) (ph : Phase) (s : State) : RaisesPlain s (setStation st ph s) := by
  unfold setStation
  split
  · exact raisesPlain_refl s
  · exact (raiseNote_raisesPlain (n := .stationState st ph s.loader.stage) rfl _).of_queue rfl

theorem enterActive_raisesPlain (s : State) : RaisesPlain s (enterActive s) :=
  (setStation_raisesPlain .active .none s).trans (takeShare_raisesPlain _)

theorem evalSettled_raisesPlain (s : State) : RaisesPlain s (evalSettled s) := by
  unfold evalSettled
  dsimp only
  split_ifs
  · exact raisesPlain_refl s
  · exact (enterActive_raisesPlain _).of_queue rfl
  · exact (weighRaise_raisesPlain _).of_queue rfl
  · exact raisesPlain_of_queue rfl

theorem handOn_raisesPlain (dig pln : Bool) (s : State) : RaisesPlain s (handOn dig pln s) := by
  have hhanded : RaisesPlain s (handed dig pln s) := raisesPlain_of_queue (by rw [handed_host])
  rw [handOn_eq]
  split
  · exact hhanded.trans (takeShare_raisesPlain _)
  · exact hhanded

theorem followDemand_raisesPlain (s : State) : RaisesPlain s (followDemand s) := by
  unfold followDemand
  split
  · split
    · exact setGrant_raisesPlain _ s
    · exact setGrant_raisesPlain _ s
    · exact raisesPlain_refl s
    · exact raisesPlain_refl s
  · exact raisesPlain_refl s

theorem commitDemand_raisesPlain (before s : State) : RaisesPlain s (commitDemand before s) := by
  have hcommit : RaisesPlain s (commit before (formDemand s)) := (handOn_raisesPlain _ _ _).of_queue (by simp)
  have hhanded : RaisesPlain s (demandHandedOn before s) := by
    unfold demandHandedOn
    split
    · exact hcommit
    · exact (hcommit.trans (raiseRequest_raisesPlain _ _ _)).trans (followDemand_raisesPlain _)
  rw [commitDemand_eq]
  split
  · exact hhanded.trans (evalSettled_raisesPlain _)
  · exact hhanded

theorem noteRoster_raisesPlain (before s : State) : RaisesPlain s (noteRoster before s) := by
  unfold noteRoster
  dsimp only
  have hoverflow : RaisesPlain s (if before.roster.overflow = s.roster.overflow then s
      else raiseNote (.overflow s.roster.overflow) s) := by
    split
    · exact raisesPlain_refl s
    · exact raiseNote_raisesPlain rfl s
  generalize (if before.roster.overflow = s.roster.overflow then s
    else raiseNote (.overflow s.roster.overflow) s) = v at hoverflow ⊢
  split
  · exact hoverflow.trans (raiseNote_raisesPlain rfl _)
  · exact hoverflow

theorem handRoster_raisesPlain (before s : State) : RaisesPlain s (handRoster before s) :=
  (noteRoster_raisesPlain before s).trans (handOn_raisesPlain _ _ _)

theorem applyShed_raisesPlain (x : Current) (s : State) : RaisesPlain s (applyShed x s) := by
  unfold applyShed
  dsimp only
  split
  · exact (raiseNote_raisesPlain rfl _).of_queue rfl
  · exact raisesPlain_of_queue rfl

theorem applyExcess_raisesPlain (feeder : Reading) (s : State) : RaisesPlain s (applyExcess feeder s) := by
  unfold applyExcess
  split
  · exact (applyShed_raisesPlain _ s).trans (raiseRequest_raisesPlain _ _ _)
  · exact raisesPlain_refl s

theorem noteCut_raisesPlain (s : State) : RaisesPlain s (noteCut s) := raiseNote_raisesPlain rfl s

theorem judgeLoad_raisesPlain (s : State) : RaisesPlain s (judgeLoad s) := by
  unfold judgeLoad
  split
  · unfold judgeFigure
    split
    · split
      · exact (noteCut_raisesPlain _).of_queue (by simp)
      · exact raisesPlain_refl s
    · split
      · exact raisesPlain_of_queue rfl
      · exact (noteCut_raisesPlain _).of_queue (by simp)
    · exact raisesPlain_refl s
    · exact raisesPlain_of_queue rfl
  · exact raisesPlain_of_queue rfl

/-! ### ATTENTION stays asserted (R178) -/

theorem weighRaise_attention_kept {s : State} (h : s.attention = true) : (weighRaise s).attention = true := by
  unfold weighRaise
  split
  · exact setGrant_attention_kept h
  · exact h

theorem evalSettled_attention_kept {s : State} (h : s.attention = true) : (evalSettled s).attention = true := by
  unfold evalSettled
  dsimp only
  split_ifs
  · exact h
  · refine takeShare_attention_kept ?_
    rw [setStation_attention]
    split
    · exact h
    · rfl
  · exact weighRaise_attention_kept h
  · exact h

theorem followDemand_attention_kept {s : State} (h : s.attention = true) : (followDemand s).attention = true := by
  unfold followDemand
  split
  · split
    · exact setGrant_attention_kept h
    · exact setGrant_attention_kept h
    · exact h
    · exact h
  · exact h

theorem commitDemand_attention_kept {before s : State} (h : s.attention = true) :
    (commitDemand before s).attention = true := by
  have hcommit : (commit before (formDemand s)).attention = true := handOn_attention_kept (by simpa using h)
  have hhanded : (demandHandedOn before s).attention = true := by
    unfold demandHandedOn
    split
    · exact hcommit
    · exact followDemand_attention_kept (by simpa using hcommit)
  rw [commitDemand_eq]
  split
  · exact evalSettled_attention_kept hhanded
  · exact hhanded

theorem applyExcess_attention_kept {feeder : Reading} {s : State} (h : s.attention = true) :
    (applyExcess feeder s).attention = true := by
  unfold applyExcess
  split
  · unfold applyShed
    dsimp only
    split <;> simp [h]
  · exact h

theorem judgeLoad_attention_kept {s : State} (h : s.attention = true) : (judgeLoad s).attention = true := by
  unfold judgeLoad
  split
  · unfold judgeFigure
    split
    · split
      · rfl
      · exact h
    · split
      · exact h
      · rfl
    · exact h
    · exact h
  · exact h

end Sys2Proof.Machine
end

section
/-! The update of the Meter: channels, SENSE and the overload (R126, R127, R136, R137). -/

namespace Sys2Proof.Machine

open Sys2Proof.Safety Sys2Proof.Claims

/-- After SENSE an update raises plain notifications alone (R127). -/
theorem meterUpdate_raises (load feeder : Reading) (d : Time) (s : State) :
    RaisesPlain (s.fastTaken load feeder) (meterUpdate load feeder d s) := by
  have hslow : RaisesPlain (s.fastTaken load feeder) (countUpdate d (if s.slowDue then slowPart d (s.fastTaken load feeder)
      else s.fastTaken load feeder)) := by
    split
    · exact raisesPlain_of_queue (by simp)
    · exact raisesPlain_of_queue (by simp)
  have htaken : RaisesPlain (s.fastTaken load feeder) (takeUpdate load feeder d s) := by
    rw [takeUpdate_eq]
    exact hslow.trans (applyExcess_raisesPlain _ _)
  exact (htaken.trans (commitDemand_raisesPlain s _)).trans (judgeLoad_raisesPlain _)

theorem fastTaken_queue (s : State) (load feeder : Reading) : (s.fastTaken load feeder).host.queue =
    enterNotes (if (s.loadAfter load).faulted = s.meter.load.faulted ∧ (s.feederAfter feeder).faulted = s.meter.feeder.faulted
      then [] else [.sense (s.loadAfter load).faulted (s.feederAfter feeder).faulted]) s.host.queue := by
  unfold State.fastTaken noteSense
  have hsame : (s.meter.load.faulted = (judgeOverload feeder (withdrawFigures (takeReadings load feeder s))).meter.load.faulted ∧
      s.meter.feeder.faulted = (judgeOverload feeder (withdrawFigures (takeReadings load feeder s))).meter.feeder.faulted) ↔
      ((s.loadAfter load).faulted = s.meter.load.faulted ∧ (s.feederAfter feeder).faulted = s.meter.feeder.faulted) :=
    and_congr eq_comm eq_comm
  by_cases h : (s.loadAfter load).faulted = s.meter.load.faulted ∧ (s.feederAfter feeder).faulted = s.meter.feeder.faulted
  · rw [if_pos (hsame.mpr h), if_pos h]
    rfl
  · rw [if_neg (mt hsame.mp h), if_neg h]
    rfl

/-- Where a faulted flag changes, ATTENTION is asserted at the end of the update (R127, R178). -/
theorem meterUpdate_attention {load feeder : Reading} {d : Time} {s : State}
    (h : (s.loadAfter load).faulted ≠ s.meter.load.faulted ∨ (s.feederAfter feeder).faulted ≠ s.meter.feeder.faulted) :
    (meterUpdate load feeder d s).attention = true := by
  have hfast : (s.fastTaken load feeder).attention = true := by
    unfold State.fastTaken noteSense
    split
    · next hsame => exact absurd hsame.2.symm (h.resolve_left fun hne => hne hsame.1.symm)
    · rfl
  refine judgeLoad_attention_kept (commitDemand_attention_kept ?_)
  rw [takeUpdate_eq]
  refine applyExcess_attention_kept ?_
  split
  · simpa [countUpdate] using hfast
  · exact hfast

theorem slowPart_channels (d : Time) (x : State) : (slowPart d x).meter.load = x.meter.load.formSlow ∧
    (slowPart d x).meter.feeder = (if x.params.feederSensing then x.meter.feeder.formSlow else x.meter.feeder) := by
  have hload : (slowPart d x).meter.load = (judgeTrim d (formSlowFigures x)).meter.load := rfl
  have hfeeder : (slowPart d x).meter.feeder = (judgeTrim d (formSlowFigures x)).meter.feeder := rfl
  rw [hload, hfeeder]
  simp only [judgeTrim_frame]
  exact ⟨rfl, rfl⟩

/-- The channels at the end of an update, but for their slow figures. -/
theorem meterUpdate_channels (load feeder : Reading) (d : Time) (s : State) :
    (meterUpdate load feeder d s).meter.load =
      (if s.slowDue then (s.loadAfter load).formSlow else s.loadAfter load) ∧
    (meterUpdate load feeder d s).meter.feeder =
      (if s.slowDue && s.params.feederSensing then (s.feederAfter feeder).formSlow else s.feederAfter feeder) := by
  have hmeter := meterUpdate_meter load feeder d s
  cases hdue : s.slowDue
  · rw [hdue] at hmeter
    rw [hmeter]
    simp only [Bool.false_eq_true, if_false, Bool.false_and, fastTaken_meter, and_self]
  · rw [hdue] at hmeter
    rw [hmeter]
    simp only [if_true, Bool.true_and, slowPart_channels, fastTaken_params, fastTaken_meter, and_self]

/-- A fault, the run of good readings and the fast figure are those of the reading (T 8-2). -/
theorem meterUpdate_load_fast (load feeder : Reading) (d : Time) (s : State) :
    (meterUpdate load feeder d s).meter.load.faulted = (s.loadAfter load).faulted ∧
    (meterUpdate load feeder d s).meter.load.goodRun = (s.loadAfter load).goodRun ∧
    (meterUpdate load feeder d s).meter.load.fast = (s.loadAfter load).fast ∧
    (meterUpdate load feeder d s).meter.load.fastSettled = (s.loadAfter load).fastSettled ∧
    (meterUpdate load feeder d s).meter.load.history = (s.loadAfter load).history := by
  obtain ⟨hhistory, hfaulted, hrun, hfast, hsettled⟩ := (s.loadAfter load).formSlow_kept
  rw [(meterUpdate_channels load feeder d s).1]
  split
  · exact ⟨hfaulted, hrun, hfast, hsettled, hhistory⟩
  · exact ⟨rfl, rfl, rfl, rfl, rfl⟩

theorem meterUpdate_feeder_fast (load feeder : Reading) (d : Time) (s : State) :
    (meterUpdate load feeder d s).meter.feeder.faulted = (s.feederAfter feeder).faulted ∧
    (meterUpdate load feeder d s).meter.feeder.goodRun = (s.feederAfter feeder).goodRun ∧
    (meterUpdate load feeder d s).meter.feeder.fast = (s.feederAfter feeder).fast ∧
    (meterUpdate load feeder d s).meter.feeder.fastSettled = (s.feederAfter feeder).fastSettled ∧
    (meterUpdate load feeder d s).meter.feeder.history = (s.feederAfter feeder).history := by
  obtain ⟨hhistory, hfaulted, hrun, hfast, hsettled⟩ := (s.feederAfter feeder).formSlow_kept
  rw [(meterUpdate_channels load feeder d s).2]
  split
  · exact ⟨hfaulted, hrun, hfast, hsettled, hhistory⟩
  · exact ⟨rfl, rfl, rfl, rfl, rfl⟩

/-! ### The figures that fault with a channel (R131, R133, R135) -/

theorem settledSlow_of_short {c : Channel} (h : c.history.length ≠ 10) : c.formSlow.settledSlow = none := by
  rw [Channel.formSlow_short h]
  rfl

/-- A slow update with no settled load figure neither ends nor makes a trim (R131 to R133). -/
theorem judgeTrim_of_unsettled {d : Time} {x : State} (h : x.meter.load.settledSlow = none) :
    (judgeTrim d x).meter.trim = x.meter.trim ∧
    (judgeTrim d x).meter.watch = (if x.params.trimEnable && x.meter.trim.isNone then none else x.meter.watch) := by
  have hends : x.trimEnds = false := by
    unfold State.trimEnds
    rw [h]
    cases x.meter.trim <;> rfl
  have hend : endTrim x = x := if_neg (by rw [hends]; decide)
  have hcondition : x.trimCondition = false := by
    unfold State.trimCondition
    rw [h]
  unfold judgeTrim
  rw [hend]
  unfold State.watchJudged judgeWatch
  rw [hcondition]
  split <;> exact ⟨rfl, rfl⟩

/-- The trim and the watch after a slow update are those that the judgement leaves. -/
theorem slowPart_trim (d : Time) (x : State) : (slowPart d x).meter.trim = (judgeTrim d (formSlowFigures x)).meter.trim ∧
    (slowPart d x).meter.watch = (judgeTrim d (formSlowFigures x)).meter.watch := ⟨rfl, rfl⟩

/-- The unmanaged estimate after a slow update (R134). -/
theorem slowPart_estimate (d : Time) (x : State) : (slowPart d x).meter.estimate =
    if x.params.feederSensing then x.meter.feeder.formSlow.settledSlow.map (fun f => f -
      (x.meter.load.formSlow.settledSlow.getD 0 +
        ((x.roster.entries.filter (fun e => e.cls = .live)).map (fun e => e.draw.getD 0)).sum))
    else none := by
  have hestimate : (slowPart d x).meter.estimate = if (judgeTrim d (formSlowFigures x)).params.feederSensing then
      (judgeTrim d (formSlowFigures x)).meter.feeder.settledSlow.map
        (fun f => f - (judgeTrim d (formSlowFigures x)).knownDraws) else none := rfl
  have hparams : (judgeTrim d (formSlowFigures x)).params = x.params := params_congr (by simp [formSlowFigures])
  have hfeeder : (formSlowFigures x).meter.feeder = if x.params.feederSensing then x.meter.feeder.formSlow
      else x.meter.feeder := rfl
  rw [hestimate, hparams]
  unfold State.knownDraws
  simp only [judgeTrim_frame]
  cases hsensing : x.params.feederSensing
  · rfl
  · rw [hfeeder, hsensing]
    rfl

/-- A faulty load reading ends the trim and makes the watch idle, at every update (R131, R133). -/
theorem meterUpdate_load_faulty {load : Reading} (feeder : Reading) (d : Time) (s : State) (h : ∀ v, load ≠ .good v) :
    (meterUpdate load feeder d s).meter.load.faulted = true ∧ (meterUpdate load feeder d s).meter.trim = none ∧
    (meterUpdate load feeder d s).meter.watch = none := by
  have hload : s.loadAfter load = s.meter.load.faulty := Channel.take_faulty h
  have hfaulted : (s.loadAfter load).faulted = true := by rw [hload]; rfl
  have hmeter := fastTaken_meter s load feeder
  rw [hfaulted] at hmeter
  refine ⟨(meterUpdate_load_fast load feeder d s).1.trans hfaulted, ?_⟩
  rw [meterUpdate_meter]
  cases s.slowDue
  · simp only [Bool.false_eq_true, if_false, hmeter]
    exact ⟨rfl, rfl⟩
  · have hunsettled : (formSlowFigures (s.fastTaken load feeder)).meter.load.settledSlow = none := by
      refine settledSlow_of_short ?_
      rw [hmeter, hload]
      exact (by decide : (0 : Nat) ≠ 10)
    obtain ⟨htrim, hwatch⟩ := judgeTrim_of_unsettled (d := d) hunsettled
    have hnone : (formSlowFigures (s.fastTaken load feeder)).meter.trim = none ∧
        (formSlowFigures (s.fastTaken load feeder)).meter.watch = none := by
      unfold formSlowFigures
      rw [hmeter]
      exact ⟨rfl, rfl⟩
    simp only [if_true, slowPart_trim]
    exact ⟨htrim.trans hnone.1, by rw [hwatch, hnone.2, ite_self]⟩

/-- A faulty feeder reading makes the estimate absent, at every update (R135). -/
theorem meterUpdate_feeder_faulty (load : Reading) {feeder : Reading} (d : Time) {s : State}
    (hsensing : s.params.feederSensing = true) (h : ∀ v, feeder ≠ .good v) :
    (meterUpdate load feeder d s).meter.feeder.faulted = true ∧ (meterUpdate load feeder d s).meter.estimate = none := by
  have hfeeder : s.feederAfter feeder = s.meter.feeder.faulty := (if_pos hsensing).trans (Channel.take_faulty h)
  have hfaulted : (s.feederAfter feeder).faulted = true := by rw [hfeeder]; rfl
  have hmeter := fastTaken_meter s load feeder
  rw [hfaulted] at hmeter
  refine ⟨(meterUpdate_feeder_fast load feeder d s).1.trans hfaulted, ?_⟩
  rw [meterUpdate_meter]
  cases s.slowDue
  · simp only [Bool.false_eq_true, if_false, hmeter]
    rfl
  · have hunsettled : (s.fastTaken load feeder).meter.feeder.formSlow.settledSlow = none := by
      refine settledSlow_of_short ?_
      rw [hmeter, hfeeder]
      exact (by decide : (0 : Nat) ≠ 10)
    simp only [if_true, slowPart_estimate, hunsettled]
    exact ite_self none

/-! ### The request list of an update -/

/-- Of the list an excess touches the SHED slot alone. -/
theorem applyExcess_slots (feeder : Reading) (s : State) : (applyExcess feeder s).sched.leave = s.sched.leave ∧
    (applyExcess feeder s).sched.announce = s.sched.announce := by
  unfold applyExcess
  split
  · unfold raiseRequest
    split <;> simp [Scheduler.setSlot]
  · exact ⟨rfl, rfl⟩

theorem meterUpdate_slots (load feeder : Reading) (d : Time) (s : State) :
    (meterUpdate load feeder d s).sched.leave = s.sched.leave ∧
    (meterUpdate load feeder d s).sched.announce = s.sched.announce ∧
    (meterUpdate load feeder d s).sched.shed = (takeUpdate load feeder d s).sched.shed := by
  obtain ⟨hshed, hleave, hannounce, -, -, -⟩ := commitDemand_slotsKept s (takeUpdate load feeder d s)
  have hbefore : (countUpdate d (if s.slowDue then slowPart d (s.fastTaken load feeder)
      else s.fastTaken load feeder)).sched = s.sched := by
    split <;> simp [fastTaken_kept]
  have hslots := applyExcess_slots feeder (countUpdate d (if s.slowDue then slowPart d (s.fastTaken load feeder)
      else s.fastTaken load feeder))
  rw [hbefore] at hslots
  unfold meterUpdate
  simp only [judgeLoad_frame]
  exact ⟨hleave.trans hslots.1, hannounce.trans hslots.2, hshed⟩

/-! ### The rows of the update -/

theorem exec_channelFaultClears {load feeder : Reading} {d : Time} {s : State} (hr : s.restartInput = false)
    (hd : s.meter.update = some d) (h : s.faultClears load feeder = true) :
    exec (.channelFaultClears load feeder) s = .next (meterUpdate load feeder d (s.atTime d)) := by
  simp only [exec, execChannelFaultClears, hd]
  exact (expire_released hr).trans (congrArg _ (onlyIf_holds (s := s.atTime d) h))

theorem exec_overloadBegins {load feeder : Reading} {d : Time} {s : State} (hr : s.restartInput = false)
    (hd : s.meter.update = some d) (h : s.overloadBegins feeder = true) :
    exec (.overloadBegins load feeder) s = .next (meterUpdate load feeder d (s.atTime d)) := by
  simp only [exec, execOverloadBegins, hd]
  exact (expire_released hr).trans (congrArg _ (onlyIf_holds (s := s.atTime d) h))

theorem clearsWith_good {c : Channel} {v : Word16} (hfaulted : c.faulted = true) (hrun : c.goodRun = 3) :
    c.clearsWith (.good v) = true := by
  simp [Channel.clearsWith, hfaulted, hrun]

theorem plain_not_sense {n : Notification} (h : n.plain = true) (l f : Bool) : n ≠ .sense l f := by
  rintro rfl
  cases h

theorem plain_not_link {n : Notification} (h : n.plain = true) (d : Bool) : n ≠ .link d := by
  rintro rfl
  cases h

end Sys2Proof.Machine

section
open Sys2Proof Sys2Proof.Machine Sys2Proof.Safety Sys2Proof.Claims

/-- Settles O43: the channels, SENSE before everything else, and the faults that clear. -/
theorem fastUpdateChangesTheChannels : Obligations.FastUpdateChangesTheChannels := by
  refine ⟨fun load feeder d s hr hd hfast => ?_, fun load feeder d s hr hd => ?_,
    fun load v d s hr hd hsensing hfaulted hrun => ?_, fun v feeder d s hr hd hfaulted hrun => ?_⟩
  · intro after
    have hafter : ∀ scale r (c : Channel), c.take scale r = after scale r c := fun scale r c => by
      cases r with
      | good v =>
        by_cases hheld : c.faulted = true ∧ c.goodRun < 3
        · exact (Channel.good_held hheld).trans (if_pos hheld).symm
        · exact (Channel.good_present hheld).trans (if_neg hheld).symm
      | _ => rfl
    have hmeter := meterUpdate_meter_fast (load := load) (feeder := feeder) (d := d) (s := s.atTime d) hfast
    obtain ⟨hleave, hannounce, -⟩ := meterUpdate_slots load feeder d (s.atTime d)
    refine ⟨_, exec_fastUpdate hr hd, ?_⟩
    rw [hmeter]
    refine ⟨hafter _ _ _, ?_, rfl, rfl, rfl, rfl, rfl, ?_, ?_, ?_, ?_, ?_, ?_, ?_, ?_, ?_, hleave, hannounce, ?_, ?_, ?_, ?_⟩
    · rw [← hafter]
      rfl
    all_goals simp [Apart, PortKept]
  · refine ⟨_, exec_fastUpdate hr hd, fun hbad => meterUpdate_load_faulty feeder d _ hbad,
      fun hsensing hbad => meterUpdate_feeder_faulty load d (s := s.atTime d) hsensing hbad, ?_⟩
    obtain ⟨ns, hns, hqueue⟩ := meterUpdate_raises load feeder d (s.atTime d)
    refine ⟨ns, fun n hn l f => plain_not_sense (hns n hn) l f, ?_⟩
    rw [hqueue, fastTaken_queue, (meterUpdate_load_fast load feeder d (s.atTime d)).1,
      (meterUpdate_feeder_fast load feeder d (s.atTime d)).1]
    exact (List.foldl_append ..).symm
  · have hclears : s.faultClears load (.good v) = true := by
      simp [State.faultClears, hsensing, clearsWith_good hfaulted hrun]
    have hfeeder : (s.atTime d).feederAfter (.good v) = s.meter.feeder.good (min v.toNat s.params.feederScale) :=
      if_pos hsensing
    obtain ⟨hf, hg, hfig, hset⟩ := Channel.good_clears (v := min v.toNat s.params.feederScale) hrun
    obtain ⟨hfaulted', hrun', hfast', hsettled', -⟩ := meterUpdate_feeder_fast load (.good v) d (s.atTime d)
    rw [hfeeder] at hfaulted' hrun' hfast' hsettled'
    refine ⟨_, exec_channelFaultClears hr hd hclears, exec_fastUpdate hr hd, hfaulted'.trans hf, hrun'.trans hg,
      hfast'.trans hfig, hsettled'.trans hset, meterUpdate_attention (.inr ?_), ?_, ?_, ?_, ?_, ?_⟩
    · have hbefore : (s.atTime d).meter.feeder.faulted = true := hfaulted
      rw [hfeeder, hf, hbefore]
      decide
    all_goals simp [Apart, PortKept]
  · have hclears : s.faultClears (.good v) feeder = true := by
      simp [State.faultClears, clearsWith_good hfaulted hrun]
    have hload : (s.atTime d).loadAfter (.good v) = s.meter.load.good (min v.toNat s.params.loadScale) := rfl
    obtain ⟨hf, hg, hfig, hset⟩ := Channel.good_clears (v := min v.toNat s.params.loadScale) hrun
    obtain ⟨hfaulted', hrun', hfast', hsettled', -⟩ := meterUpdate_load_fast (.good v) feeder d (s.atTime d)
    rw [hload] at hfaulted' hrun' hfast' hsettled'
    refine ⟨_, exec_channelFaultClears hr hd hclears, hfaulted'.trans hf, hrun'.trans hg,
      hfast'.trans hfig, hsettled'.trans hset, meterUpdate_attention (.inl ?_), ?_, ?_, ?_, ?_, ?_⟩
    · have hbefore : (s.atTime d).meter.load.faulted = true := hfaulted
      rw [hload, hf, hbefore]
      decide
    all_goals simp [Apart, PortKept]

end
end

section
/-! The overload and its excess, the slow figures, the trim, and the judgement of the load (R128 to R137, R141, R143). -/

namespace Sys2Proof.Machine

open Sys2Proof.Safety Sys2Proof.Claims

/-! ### The overload (R136, R137) -/

theorem meterUpdate_overload (load feeder : Reading) (d : Time) (s : State) : (meterUpdate load feeder d s).meter.overload =
    countOverload s.params.feederLimit (s.overloadFigure feeder) s.meter.overload := by
  rw [meterUpdate_meter]
  split
  · simp [fastTaken_meter]
  · simp [fastTaken_meter]

theorem countOverload_above {limit v : Current} (h : limit < v) (count : Nat) :
    countOverload limit (some v) count = min 2 (count + 1) := if_pos h

/-- The state of an update in which the excess is judged. -/
def State.updateTaken (s : State) (load feeder : Reading) (d : Time) : State :=
  countUpdate d (if s.slowDue then slowPart d (s.fastTaken load feeder) else s.fastTaken load feeder)

theorem updateTaken_kept (s : State) (load feeder : Reading) (d : Time) :
    (s.updateTaken load feeder d).loader = s.loader ∧ (s.updateTaken load feeder d).grantCtl = s.grantCtl ∧
    (s.updateTaken load feeder d).sched = s.sched ∧ (s.updateTaken load feeder d).life = s.life ∧
    (s.updateTaken load feeder d).now = s.now ∧
    (s.updateTaken load feeder d).meter.overload =
      countOverload s.params.feederLimit (s.overloadFigure feeder) s.meter.overload := by
  unfold State.updateTaken
  split <;> simp [fastTaken_kept, fastTaken_meter, countUpdate]

theorem overloadFigure_congr {a b : State} (h : a.loader = b.loader) (feeder : Reading) :
    a.overloadFigure feeder = b.overloadFigure feeder := by
  unfold State.overloadFigure
  rw [params_congr (congrArg Loader.heldCopy h)]

theorem excess_of_above {s : State} {feeder : Reading} {v : Current} (hfigure : s.overloadFigure feeder = some v)
    (hcount : s.meter.overload = 2) (h : s.grantCtl.deficit < v - s.params.feederLimit) :
    s.excess feeder = some (v - s.params.feederLimit) := by
  unfold State.excess
  rw [hfigure]
  exact if_pos ⟨hcount, h⟩

theorem excess_of_below {s : State} {feeder : Reading} {v : Current} (hfigure : s.overloadFigure feeder = some v)
    (h : v - s.params.feederLimit ≤ s.grantCtl.deficit) : s.excess feeder = none := by
  unfold State.excess
  rw [hfigure]
  exact if_neg fun hc => absurd hc.2 (not_lt.mpr h)

theorem applyExcess_some {s : State} {feeder : Reading} {x : Current} (h : s.excess feeder = some x) :
    applyExcess feeder s = raiseRequest .shed x (applyShed x s) := by
  unfold applyExcess
  rw [h]

theorem applyExcess_none {s : State} {feeder : Reading} (h : s.excess feeder = none) : applyExcess feeder s = s := by
  unfold applyExcess
  rw [h]

/-- What the excess of an update leaves of D, the shed hold and the SHED slot stands at its end. -/
theorem meterUpdate_excess (load feeder : Reading) (d : Time) (s : State) :
    (meterUpdate load feeder d s).grantCtl.deficit =
      (applyExcess feeder (s.updateTaken load feeder d)).grantCtl.deficit ∧
    (meterUpdate load feeder d s).grantCtl.shedHold =
      (applyExcess feeder (s.updateTaken load feeder d)).grantCtl.shedHold ∧
    (meterUpdate load feeder d s).sched.shed = (applyExcess feeder (s.updateTaken load feeder d)).sched.shed := by
  refine ⟨?_, ?_, (meterUpdate_slots load feeder d s).2.2⟩
  all_goals
    unfold meterUpdate
    simp only [judgeLoad_frame, commitDemand_frame]
    rfl

end Sys2Proof.Machine

section
open Sys2Proof Sys2Proof.Machine Sys2Proof.Safety Sys2Proof.Claims

/-- Settles O44: the count at every update, and the excess while the overload lasts. -/
theorem overloadIsCountedAndItsExcessApplied : Obligations.OverloadIsCountedAndItsExcessApplied := by
  refine ⟨fun load feeder d s hr hd => ⟨_, exec_fastUpdate hr hd, fun hsensing => ?_, fun hsensing => ?_⟩,
    fun load feeder d v s hr hd hfigure habove hcount => ?_⟩
  · have hnone : (s.atTime d).overloadFigure feeder = none :=
      if_neg (by rw [show (s.atTime d).params = s.params from rfl, hsensing]; decide)
    rw [meterUpdate_overload, hnone]
    rfl
  · have hfigure : (s.atTime d).overloadFigure feeder = overloadFigure s.params.feederScale feeder := if_pos hsensing
    rw [meterUpdate_overload, hfigure]
    refine ⟨?_, ?_, ?_⟩
    · rintro v rfl
      rfl
    · rintro rfl
      rfl
    · rintro rfl
      rfl
  · have hmin : min 2 (s.meter.overload + 1) = 2 := by omega
    obtain ⟨hloader, hctl, hsched, hlife, hnow, hover⟩ := updateTaken_kept (s.atTime d) load feeder d
    have hfigure' : (s.atTime d).overloadFigure feeder = some v := hfigure
    have htwo : ((s.atTime d).updateTaken load feeder d).meter.overload = 2 := by
      rw [hover, hfigure']
      exact (countOverload_above habove _).trans hmin
    have hparams : ((s.atTime d).updateTaken load feeder d).params = s.params := params_congr (by rw [hloader]; rfl)
    have hread : ((s.atTime d).updateTaken load feeder d).overloadFigure feeder = some v :=
      (overloadFigure_congr hloader feeder).trans hfigure'
    have hdeficit : ((s.atTime d).updateTaken load feeder d).grantCtl.deficit = s.grantCtl.deficit := by rw [hctl]; rfl
    obtain ⟨hend, hhold, hshed⟩ := meterUpdate_excess load feeder d (s.atTime d)
    refine ⟨_, exec_fastUpdate hr hd, fun hone => exec_overloadBegins hr hd ?_, ?_, fun hlarger => ?_, fun hsmaller => ?_,
      by simp, by simp, by simp, by simp, by simp [Apart, PortKept], by simp⟩
    · have hcounted : countOverload s.params.feederLimit (s.overloadFigure feeder) s.meter.overload = 2 := by
        rw [hfigure]
        exact (countOverload_above habove _).trans hmin
      simp [State.overloadBegins, hone, hone ▸ hcounted]
    · rw [meterUpdate_overload, hfigure']
      exact (countOverload_above habove _).trans hmin
    · have happlied := applyExcess_some (excess_of_above hread htwo (by rw [hparams, hdeficit]; exact hlarger))
      rw [happlied, hparams] at hend hhold hshed
      have hnew := applyShed_grantCtl (v - s.params.feederLimit) ((s.atTime d).updateTaken load feeder d)
      refine ⟨?_, ?_, fun hpart => ?_⟩
      · rw [hend]
        simp only [raiseRequest_frame, hnew, hdeficit]
        exact Nat.max_eq_right hlarger.le
      · rw [hhold]
        simp only [raiseRequest_frame, hnew, hparams, hnow]
        rfl
      · rw [hshed]
        refine raiseRequest_stands (k := .shed) ?_
        have hstate : (applyShed (v - s.params.feederLimit) ((s.atTime d).updateTaken load feeder d)).life = s.life := by
          simp only [applyShed_frame, hlife]
          rfl
        rw [hstate]
        exact Bool.or_eq_true_iff.mpr (.inl hpart)
    · have hkept := applyExcess_none (excess_of_below hread (by rw [hparams, hdeficit]; exact hsmaller))
      rw [hkept] at hend hhold hshed
      exact ⟨hend.trans hdeficit, by rw [hhold, hctl]; rfl, by rw [hshed, hsched]; rfl⟩

/-- Settles O45: the slow figures of the tenth update, and the estimate from them. -/
theorem slowUpdateFormsTheFigures : Obligations.SlowUpdateFormsTheFigures := by
  intro load feeder d s hr hd hnine
  have hmeter := meterUpdate_meter_slow (load := load) (feeder := feeder) (d := d) (s := s.atTime d) hnine
  have hdue : (s.atTime d).slowDue = true := decide_eq_true hnine
  obtain ⟨hload, hfeeder⟩ := meterUpdate_channels load feeder d (s.atTime d)
  obtain ⟨-, -, -, -, hloadHistory⟩ := meterUpdate_load_fast load feeder d (s.atTime d)
  obtain ⟨-, -, -, -, hfeederHistory⟩ := meterUpdate_feeder_fast load feeder d (s.atTime d)
  rw [hdue] at hload hfeeder
  simp only [if_true, Bool.true_and] at hload hfeeder
  have hestimate : (meterUpdate load feeder d (s.atTime d)).meter.estimate = if s.params.feederSensing then
      ((s.atTime d).feederAfter feeder).formSlow.settledSlow.map (fun f => f -
        (((s.atTime d).loadAfter load).formSlow.settledSlow.getD 0 +
          ((s.roster.entries.filter (fun e => e.cls = .live)).map (fun e => e.draw.getD 0)).sum)) else none := by
    rw [hmeter]
    dsimp only
    rw [slowPart_estimate, fastTaken_params, fastTaken_meter, (fastTaken_kept _ _ _).2.2.1]
    rfl
  have hparams : (s.atTime d).params = s.params := rfl
  refine ⟨_, exec_slowUpdate hr hd hnine, exec_fastUpdate hr hd, by rw [hmeter], by rw [hmeter], fun hlen => ?_, fun hlen => ?_,
    fun hsensing hlen => ?_, fun hsensing hlen => ?_, fun hsensing => ?_, fun f hsensing hcount hslow => ?_, fun hcount => ?_,
    by simp, by simp, by simp, by simp [Apart, PortKept], by simp⟩
  · rw [hloadHistory] at hlen ⊢
    rw [hload, Channel.formSlow_full hlen]
    exact ⟨rfl, congrArg (fun n => min 4 (n + 1)) (Channel.take_slowCount hlen)⟩
  · rw [hloadHistory] at hlen
    rw [hload, Channel.formSlow_short hlen]
    exact ⟨rfl, rfl⟩
  · have hafter : (s.atTime d).feederAfter feeder = s.meter.feeder.take s.params.feederScale feeder := if_pos hsensing
    rw [hfeederHistory] at hlen ⊢
    rw [hfeeder, hparams, if_pos hsensing, Channel.formSlow_full hlen]
    refine ⟨rfl, ?_⟩
    rw [hafter] at hlen ⊢
    rw [Channel.take_slowCount hlen]
  · rw [hfeederHistory] at hlen
    rw [hfeeder, hparams, if_pos hsensing, Channel.formSlow_short hlen]
    exact ⟨rfl, rfl⟩
  · have hoff : ¬ s.params.feederSensing = true := by rw [hsensing]; decide
    rw [hfeeder, hestimate, hparams, if_neg hoff, if_neg hoff]
    exact ⟨if_neg hoff, rfl⟩
  · rw [hfeeder, hparams, if_pos hsensing] at hcount hslow
    rw [hestimate, if_pos hsensing, hload]
    have hsettled : ((s.atTime d).feederAfter feeder).formSlow.settledSlow = some f := (if_pos hcount).trans hslow
    have hown : ((s.atTime d).loadAfter load).formSlow.settledSlow.getD 0 =
        if ((s.atTime d).loadAfter load).formSlow.slowCount = 4 then ((s.atTime d).loadAfter load).formSlow.slow.getD 0
        else 0 := by
      unfold Channel.settledSlow
      split <;> rfl
    rw [hsettled, hown]
    rfl
  · rw [hestimate]
    by_cases hsensing : s.params.feederSensing = true
    · rw [hfeeder, hparams, if_pos hsensing] at hcount
      have hsettled : ((s.atTime d).feederAfter feeder).formSlow.settledSlow = none := if_neg hcount
      rw [if_pos hsensing, hsettled]
      rfl
    · rw [if_neg hsensing]

/-- Settles O47: the load figure of an update against the grant at its end. -/
theorem loadIsJudgedAgainstTheStandingGrant : Obligations.LoadIsJudgedAgainstTheStandingGrant := by
  intro load feeder d s hr hd
  refine ⟨_, exec_fastUpdate hr hd, ?_⟩
  generalize hw : commitDemand (s.atTime d) (takeUpdate load feeder d (s.atTime d)) = w
  have hu : meterUpdate load feeder d (s.atTime d) = judgeLoad w := by
    rw [← hw]
    rfl
  have henf : w.enf = s.enf := by
    rw [← hw]
    simp
  have hnow : w.now = max s.now d := by
    rw [← hw]
    simp
  have hparams : w.params = s.params := params_congr (by rw [← hw]; simp)
  have hlimit : w.drawLimit = w.grantCtl.grant + s.params.tolerance := by
    unfold State.drawLimit
    rw [hparams]
  rw [hu]
  simp only [judgeLoad_frame]
  refine ⟨fun v hfast hsettled => ?_, fun habsent => ?_⟩
  · have hfigure : w.meter.load.settledFast = some v := (if_pos hsettled).trans hfast
    have hjudged : judgeLoad w = judgeFigure v w := by
      unfold judgeLoad
      rw [hfigure]
    rw [hjudged]
    refine ⟨fun hst habove => ?_, fun hst hbelow => ?_, fun hst habove => ?_, fun hst hbelow => ?_,
      fun hst => ?_, fun hst => ?_⟩
    all_goals
      have hstate : w.enf.state = _ := (congrArg EnforcementUnit.state henf).trans hst
      unfold judgeFigure
      rw [hstate]
      dsimp only
    · rw [if_pos (by rw [hlimit]; exact habove), ← henf, ← hnow, ← hparams]
      exact ⟨rfl, rfl, rfl⟩
    · rw [if_neg (by rw [hlimit]; exact not_lt.mpr hbelow), henf]
    · rw [if_pos (by rw [hlimit]; exact habove), ← henf, ← hnow]
      rfl
    · rw [if_neg (by rw [hlimit]; exact not_lt.mpr hbelow), ← henf]
      rfl
    · exact henf
    · rw [← henf, ← hnow]
      rfl
  · have hnone : w.meter.load.settledFast = none := by
      unfold Channel.settledFast
      rcases habsent with h | h
      · rw [h, ite_self]
      · rw [h]
        rfl
    unfold judgeLoad
    rw [hnone, ← henf, ← hnow]
    rfl

end
end

section
/-! The trim at a slow update (R131 to R133). -/

namespace Sys2Proof.Machine

open Sys2Proof.Safety Sys2Proof.Claims

/-! ### The watch, branch by branch (R131, R132) -/

theorem judgeWatch_idle {d : Time} {x : State} (h : ¬x.trimCondition = true) :
    (judgeWatch d x).meter = { x.meter with watch := none } := by
  unfold judgeWatch
  rw [if_pos h]

theorem judgeWatch_begins {d : Time} {x : State} (h : x.trimCondition = true) (hwatch : x.meter.watch = none) :
    (judgeWatch d x).meter = { x.meter with watch := some d } := by
  unfold judgeWatch
  rw [if_neg (not_not_intro h), hwatch]

theorem judgeWatch_runs {d b : Time} {x : State} (h : x.trimCondition = true) (hwatch : x.meter.watch = some b)
    (hearly : d < b + x.params.trimTime * Config.sec) : judgeWatch d x = x := by
  unfold judgeWatch
  rw [if_neg (not_not_intro h), hwatch]
  exact if_neg (not_le.mpr hearly)

theorem judgeWatch_makes {d b : Time} {x : State} (h : x.trimCondition = true) (hwatch : x.meter.watch = some b)
    (hlate : b + x.params.trimTime * Config.sec ≤ d) :
    (judgeWatch d x).meter = { x.meter with trim := some x.trimValue, watch := none } := by
  unfold judgeWatch
  rw [if_neg (not_not_intro h), hwatch]
  exact congrArg State.meter (if_pos hlate)

/-! ### The trim, by what stands (R131, R133) -/

theorem endTrim_of_untrimmed {x : State} (h : x.meter.trim = none) : endTrim x = x := by
  refine if_neg ?_
  unfold State.trimEnds
  rw [h]
  exact Bool.false_ne_true

theorem judgeTrim_untrimmed (d : Time) {x : State} (h : x.meter.trim = none) :
    judgeTrim d x = if x.params.trimEnable then judgeWatch d x else x := by
  unfold judgeTrim State.watchJudged
  rw [endTrim_of_untrimmed h, h]
  simp

/-- A slow figure below the trimmed value less half the margin leaves the trim and its watch. -/
theorem judgeTrim_stands (d : Time) {x : State} {v t : Current} (hfigure : x.meter.load.settledSlow = some v)
    (htrim : x.meter.trim = some t) (hbelow : 2 * v + x.params.trimMargin < 2 * t) : judgeTrim d x = x := by
  have hend : endTrim x = x := by
    refine if_neg ?_
    unfold State.trimEnds
    rw [htrim, hfigure]
    exact fun h => not_le.mpr hbelow (of_decide_eq_true h)
  unfold judgeTrim State.watchJudged
  rw [hend, htrim]
  exact if_neg (by simp)

/-- The state once the standing trim has ended. -/
def State.untrimmed (s : State) : State := { s with meter := { s.meter with trim := none } }

/-- A slow figure at or above it ends the trim, and the watch is judged as while UNTRIMMED. -/
theorem judgeTrim_ends (d : Time) {x : State} {v t : Current} (hfigure : x.meter.load.settledSlow = some v)
    (htrim : x.meter.trim = some t) (habove : 2 * t ≤ 2 * v + x.params.trimMargin) :
    judgeTrim d x = judgeTrim d x.untrimmed := by
  have hend : endTrim x = x.untrimmed := by
    refine if_pos ?_
    unfold State.trimEnds
    rw [htrim, hfigure]
    exact decide_eq_true habove
  unfold judgeTrim
  rw [hend, endTrim_of_untrimmed (x := x.untrimmed) rfl]

/-- The trim condition for a settled slow figure (R131). -/
theorem trimCondition_iff {x : State} {v : Current} (hfigure : x.meter.load.settledSlow = some v) :
    x.trimCondition = true ↔ (x.enf.state = .clear ∨ x.enf.state = .over) ∧
      v + x.params.trimMargin < x.planner.claim.hostDemand := by
  unfold State.trimCondition
  rw [hfigure]
  cases x.enf.state <;> simp [EnfState.cutOrCooling]

/-! ### The figures an update judges -/

/-- The state whose slow figure a slow update judges. -/
def State.slowTaken (s : State) (load feeder : Reading) : State := formSlowFigures (s.fastTaken load feeder)

theorem slowTaken_kept (s : State) (load feeder : Reading) : (s.slowTaken load feeder).params = s.params ∧
    (s.slowTaken load feeder).enf = s.enf ∧ (s.slowTaken load feeder).planner = s.planner := by
  obtain ⟨-, hplanner, -, henf, -⟩ := fastTaken_kept s load feeder
  exact ⟨fastTaken_params s load feeder, henf, hplanner⟩

/-- A load channel without a fault keeps the trim and the watch for the judgement. -/
theorem slowTaken_trim {s : State} {load : Reading} (feeder : Reading) (h : (s.loadAfter load).faulted = false) :
    (s.slowTaken load feeder).meter.trim = s.meter.trim ∧ (s.slowTaken load feeder).meter.watch = s.meter.watch := by
  have hmeter := fastTaken_meter s load feeder
  rw [h] at hmeter
  unfold State.slowTaken formSlowFigures
  rw [hmeter]
  exact ⟨rfl, rfl⟩

/-- The trim, the watch and the load channel at the end of a slow update. -/
theorem meterUpdate_trim {load feeder : Reading} {d : Time} {s : State} (h : s.meter.updates = 9) :
    (meterUpdate load feeder d s).meter.trim = (judgeTrim d (s.slowTaken load feeder)).meter.trim ∧
    (meterUpdate load feeder d s).meter.watch = (judgeTrim d (s.slowTaken load feeder)).meter.watch ∧
    (meterUpdate load feeder d s).meter.load = (s.slowTaken load feeder).meter.load := by
  rw [meterUpdate_meter_slow h]
  refine ⟨rfl, rfl, ?_⟩
  have hload : (judgeTrim d (s.slowTaken load feeder)).meter.load = (s.slowTaken load feeder).meter.load := by simp
  exact hload

/-- While UNTRIMMED with the enable clear, no update makes a trim. -/
theorem meterUpdate_untrimmed (load feeder : Reading) (d : Time) {s : State} (henable : s.params.trimEnable = false)
    (htrim : s.meter.trim = none) (hwatch : s.meter.watch = none) :
    (meterUpdate load feeder d s).meter.trim = none ∧ (meterUpdate load feeder d s).meter.watch = none := by
  by_cases hnine : s.meter.updates = 9
  · obtain ⟨htrim', hwatch', -⟩ := meterUpdate_trim (load := load) (feeder := feeder) (d := d) hnine
    have hnone : (s.slowTaken load feeder).meter.trim = none ∧ (s.slowTaken load feeder).meter.watch = none := by
      unfold State.slowTaken formSlowFigures
      rw [fastTaken_meter, htrim, hwatch]
      exact ⟨ite_self none, ite_self none⟩
    rw [htrim', hwatch', judgeTrim_of_not_enabled d _ ((congrArg _ (slowTaken_kept s load feeder).1).trans henable),
      endTrim_of_untrimmed hnone.1]
    exact hnone
  · rw [meterUpdate_meter_fast hnine, htrim, hwatch]
    exact ⟨ite_self none, ite_self none⟩

end Sys2Proof.Machine

section
open Sys2Proof Sys2Proof.Machine Sys2Proof.Safety Sys2Proof.Claims

/-- Settles O46: the trim and its watch against the slow figure. -/
theorem trimFollowsTheSlowFigure : Obligations.TrimFollowsTheSlowFigure := by
  refine ⟨fun v0 feeder d v s hr hd hnine hgood => ?_, fun load feeder d s hr hd henable htrim hwatch =>
    ⟨_, exec_fastUpdate hr hd, meterUpdate_untrimmed load feeder d (s := s.atTime d) henable htrim hwatch⟩⟩
  refine ⟨_, exec_slowUpdate hr hd hnine, ?_⟩
  obtain ⟨htrim, hwatch, hload⟩ := meterUpdate_trim (load := .good v0) (feeder := feeder) (d := d) (s := s.atTime d) hnine
  obtain ⟨hparams, henf, hplanner⟩ := slowTaken_kept (s.atTime d) (.good v0) feeder
  obtain ⟨hstands, hwatched⟩ := slowTaken_trim (s := s.atTime d) (load := .good v0) feeder
    (Channel.good_faulted (v := min v0.toNat s.params.loadScale) hgood)
  rw [htrim, hwatch, hload]
  generalize (s.atTime d).slowTaken (.good v0) feeder = x at *
  replace hparams : x.params = s.params := hparams
  replace henf : x.enf = s.enf := henf
  replace hplanner : x.planner = s.planner := hplanner
  replace hstands : x.meter.trim = s.meter.trim := hstands
  replace hwatched : x.meter.watch = s.meter.watch := hwatched
  rw [← hparams, ← henf, ← hplanner, ← hstands, ← hwatched]
  refine ⟨fun hcount hslow => ?_, fun hcount => ?_⟩
  · have hfigure : x.meter.load.settledSlow = some v := (if_pos hcount).trans hslow
    have hcondition := trimCondition_iff hfigure
    have hcondition' : x.untrimmed.trimCondition = true ↔ _ := hcondition
    refine ⟨fun t ht hbelow => ?_, fun henable => ?_, fun henable => ⟨fun ht => ?_, fun t ht habove => ?_⟩⟩
    · rw [judgeTrim_stands d hfigure ht hbelow]
      exact ⟨ht, rfl⟩
    · intro holds
      have huntrimmed : ∀ y : State, y.params = x.params → y.meter.trim = none → judgeTrim d y = judgeWatch d y :=
        fun y hy ht => (judgeTrim_untrimmed d ht).trans (if_pos (by rw [hy]; exact henable))
      refine ⟨fun ht hnot => ?_, fun ht hholds hidle => ?_, fun b ht hholds hruns hearly => ?_,
        fun b ht hholds hruns hlate => ?_, fun t ht habove hnot => ?_, fun t ht habove hholds hidle => ?_⟩
      · rw [huntrimmed x rfl ht, judgeWatch_idle (fun h => hnot (hcondition.mp h))]
        exact ⟨ht, rfl⟩
      · rw [huntrimmed x rfl ht, judgeWatch_begins (hcondition.mpr hholds) hidle]
        exact ⟨ht, rfl⟩
      · rw [huntrimmed x rfl ht, judgeWatch_runs (hcondition.mpr hholds) hruns hearly]
        exact ⟨ht, hruns⟩
      · rw [huntrimmed x rfl ht, judgeWatch_makes (hcondition.mpr hholds) hruns hlate]
        unfold State.trimValue
        rw [hfigure]
        exact ⟨rfl, rfl⟩
      · rw [judgeTrim_ends d hfigure ht habove, huntrimmed x.untrimmed rfl rfl,
          judgeWatch_idle (fun h => hnot (hcondition'.mp h))]
        exact ⟨rfl, rfl⟩
      · rw [judgeTrim_ends d hfigure ht habove, huntrimmed x.untrimmed rfl rfl,
          judgeWatch_begins (hcondition'.mpr hholds) hidle]
        exact ⟨rfl, rfl⟩
    · rw [judgeTrim_of_not_enabled d x henable, endTrim_of_untrimmed ht]
      exact ⟨ht, rfl⟩
    · rw [judgeTrim_ends d hfigure ht habove, judgeTrim_of_not_enabled d x.untrimmed henable,
        endTrim_of_untrimmed (x := x.untrimmed) rfl]
      exact ⟨rfl, rfl⟩
  · have hunsettled : x.meter.load.settledSlow = none := if_neg hcount
    obtain ⟨htrim', hwatch'⟩ := judgeTrim_of_unsettled (d := d) hunsettled
    refine ⟨htrim', fun henable ht => ?_, fun henable => ?_⟩
    · rw [hwatch', henable, ht]
      rfl
    · rw [hwatch', henable]
      rfl

end
end

section
/-! What an event does to the blocks that neither the station state, nor the grant, nor the link record touches: the same in
two states that agree on those blocks (R22, R42, R78, R120). -/

namespace Sys2Proof.Machine

open Sys2Proof.Safety Sys2Proof.Claims

/-! ### States that agree on the work of an event -/

/-- The blocks that an event works on, but for the grant, its hold, the STATUS slot, the station record and the link record. -/
structure SameWork (s v : State) : Prop where
  now : v.now = s.now
  bus : v.bus = s.bus
  roster : v.roster = s.roster
  planner : v.planner = s.planner
  meter : v.meter = s.meter
  enf : v.enf = s.enf
  loader : v.loader = s.loader
  settled : v.grantCtl.settled = s.grantCtl.settled
  deficit : v.grantCtl.deficit = s.grantCtl.deficit
  shedHold : v.grantCtl.shedHold = s.grantCtl.shedHold
  shed : v.sched.shed = s.sched.shed
  leave : v.sched.leave = s.sched.leave
  announce : v.sched.announce = s.sched.announce
  inFlight : v.sched.inFlight = s.sched.inFlight
  spacing : v.sched.spacing = s.sched.spacing
  dropped : v.sched.requestsDropped = s.sched.requestsDropped
  count : v.sched.isolationCount = s.sched.isolationCount

theorem SameWork.refl (s : State) : SameWork s s := by constructor <;> rfl

theorem SameWork.symm {s v : State} (h : SameWork s v) : SameWork v s :=
  ⟨h.now.symm, h.bus.symm, h.roster.symm, h.planner.symm, h.meter.symm, h.enf.symm, h.loader.symm, h.settled.symm,
    h.deficit.symm, h.shedHold.symm, h.shed.symm, h.leave.symm, h.announce.symm, h.inFlight.symm, h.spacing.symm,
    h.dropped.symm, h.count.symm⟩

theorem SameWork.trans {s v w : State} (h : SameWork s v) (k : SameWork v w) : SameWork s w :=
  ⟨k.now.trans h.now, k.bus.trans h.bus, k.roster.trans h.roster, k.planner.trans h.planner, k.meter.trans h.meter,
    k.enf.trans h.enf, k.loader.trans h.loader, k.settled.trans h.settled, k.deficit.trans h.deficit,
    k.shedHold.trans h.shedHold, k.shed.trans h.shed, k.leave.trans h.leave, k.announce.trans h.announce,
    k.inFlight.trans h.inFlight, k.spacing.trans h.spacing, k.dropped.trans h.dropped, k.count.trans h.count⟩

theorem SameWork.slots {s v : State} (h : SameWork s v) : SlotsKept s v :=
  ⟨h.shed, h.leave, h.announce, h.inFlight, h.spacing, h.dropped⟩

theorem SameWork.params {s v : State} (h : SameWork s v) : v.params = s.params :=
  params_congr (congrArg Loader.heldCopy h.loader)

theorem SameWork.planNow {s v : State} (h : SameWork s v) : v.planNow = s.planNow :=
  planNow_of_same h.loader (congrArg SharePlanner.claim h.planner) h.roster h.meter h.deficit

theorem SameWork.digestNow {s v : State} (h : SameWork s v) : v.digestNow = s.digestNow :=
  digestNow_of_same h.loader (congrArg SharePlanner.claim h.planner) h.roster

/-- The work of `s` in the state `r`. -/
def State.workIn (s r : State) : State := { r with
  now := s.now, bus := s.bus, roster := s.roster, planner := s.planner, meter := s.meter, enf := s.enf, loader := s.loader
  grantCtl := { r.grantCtl with
    settled := s.grantCtl.settled, deficit := s.grantCtl.deficit, shedHold := s.grantCtl.shedHold }
  sched := { s.sched with status := r.sched.status } }

theorem SameWork.eq_workIn {s v : State} (h : SameWork s v) : v = s.workIn v := by
  have hgrant : v.grantCtl = (s.workIn v).grantCtl :=
    GrantController.ext rfl h.settled rfl h.deficit h.shedHold
  have hsched : v.sched = (s.workIn v).sched :=
    Scheduler.ext h.shed h.leave h.announce rfl h.inFlight h.spacing h.count h.dropped
  obtain ⟨hnow, hbus, hroster, hplanner, hmeter, henf, hloader, -⟩ := h
  cases v
  unfold State.workIn at *
  dsimp only at *
  subst hnow hbus hroster hplanner hmeter henf hloader
  rw [← hgrant, ← hsched]

/-- An operation that does the same work in every state that holds the work of `s` does so in every state that agrees. -/
theorem SameWork.map {g : State → State} {s v : State} (h : SameWork s v) (hg : ∀ r, SameWork (g s) (g (s.workIn r))) :
    SameWork (g s) (g v) := by
  rw [h.eq_workIn]
  exact hg v

/-! ### Operations that leave the work as it stands -/

theorem setGrant_sameWork (g : Current) (s : State) : SameWork s (setGrant g s) := by
  constructor <;> simp

theorem takeShare_sameWork (s : State) : SameWork s (takeShare s) := by
  constructor <;> simp

theorem raiseNote_sameWork (n : Notification) (s : State) : SameWork s (raiseNote n s) := by
  constructor <;> simp

theorem setStation_sameWork (st : StationState) (ph : Phase) (s : State) : SameWork s (setStation st ph s) := by
  constructor <;> simp

theorem raiseStatus_sameWork (x : Current) (s : State) : SameWork s (raiseRequest .status x s) := by
  obtain ⟨hshed, hleave, hannounce, hflight, hspacing, hdropped⟩ := raiseStatus_slotsKept x s
  exact ⟨by simp, by simp, by simp, by simp, by simp, by simp, by simp, by simp, by simp, by simp, hshed, hleave, hannounce,
    hflight, hspacing, hdropped, by simp⟩

theorem enterJoining_sameWork (s : State) : SameWork s (enterJoining s) := by
  obtain ⟨hshed, hleave, hannounce, hflight, hspacing, hdropped⟩ := enterJoining_slotsKept s
  exact ⟨by simp, by simp, by simp, by simp, by simp, by simp, by simp, by simp, by simp, by simp, hshed, hleave, hannounce,
    hflight, hspacing, hdropped, by simp⟩

theorem noteRoster_sameWork (before s : State) : SameWork s (noteRoster before s) := by
  constructor <;> simp

theorem closeWindow_slotsKept (d : Bool) (s : State) : SlotsKept s (closeWindow d s) := by
  unfold closeWindow
  dsimp only
  split_ifs
  · exact slotsKept_refl s
  · exact slotsKept_of_sched (by simp)
  · exact slotsKept_trans (slotsKept_of_sched (by simp)) (weighRaise_slotsKept _)

theorem frameEvent_slotsKept (d : Bool) (s : State) : SlotsKept s (frameEvent d s) := by
  unfold frameEvent
  generalize (if d then s.link.damaged + 1 else s.link.damaged) = n
  dsimp only
  split
  · exact closeWindow_slotsKept _ s
  · exact slotsKept_refl s

/-- A frame event works on the link record alone, whether it closes the window or not (R117 to R120). -/
theorem frameEvent_sameWork (d : Bool) (s : State) : SameWork s (frameEvent d s) := by
  obtain ⟨hshed, hleave, hannounce, hflight, hspacing, hdropped⟩ := frameEvent_slotsKept d s
  exact ⟨by simp, by simp, by simp, by simp, by simp, by simp, by simp, by simp, by simp, by simp, hshed, hleave, hannounce,
    hflight, hspacing, hdropped, by simp⟩

/-! ### The hand-off of the Roster Unit's events -/

section
variable {s v : State}

/-- A hand-off does the same work where both states plan or neither does. -/
theorem SameWork.handOn (h : SameWork s v) (hplans : v.life.state.plans = s.life.state.plans) (dig pln : Bool) :
    SameWork (handOn dig pln s) (handOn dig pln v) := by
  obtain ⟨hshed, hleave, hannounce, hflight, hspacing, hdropped⟩ := handOn_slotsKept dig pln s
  obtain ⟨kshed, kleave, kannounce, kflight, kspacing, kdropped⟩ := handOn_slotsKept dig pln v
  have hcleared : (clearConfirmations v).roster = (clearConfirmations s).roster := by
    unfold clearConfirmations
    rw [h.roster]
  constructor
  case roster => rw [handOn_roster, handOn_roster, hcleared, h.roster]
  case planner =>
    refine SharePlanner.ext ?_ ?_ ?_
    · simp [h.planner]
    · rw [handOn_plan, handOn_plan, hplans, h.planNow, h.planner]
    · rw [handOn_digest, handOn_digest, h.digestNow, h.planner]
  case shed => rw [kshed, hshed, h.shed]
  case leave => rw [kleave, hleave, h.leave]
  case announce => rw [kannounce, hannounce, h.announce]
  all_goals simp [h.now, h.bus, h.meter, h.enf, h.loader, h.settled, h.deficit, h.shedHold, h.inFlight, h.spacing, h.dropped,
    h.count]

theorem SameWork.commit {before before' : State} (hb : SameWork before before') (h : SameWork s v)
    (hplans : v.life.state.plans = s.life.state.plans) : SameWork (commit before s) (commit before' v) := by
  have hdigest : digestChanged before' v = digestChanged before s := by
    unfold digestChanged
    rw [hb.roster, hb.planner, h.roster, h.planner]
  have hplan : planInputChanged before' v = planInputChanged before s := by
    unfold planInputChanged
    rw [hb.roster, hb.planner, hb.meter, hb.deficit, h.roster, h.planner, h.meter, h.deficit]
  unfold Machine.commit
  rw [hdigest, hplan]
  exact h.handOn hplans _ _

theorem SameWork.handRoster {before before' : State} (hb : SameWork before before') (h : SameWork s v)
    (hplans : v.life.state.plans = s.life.state.plans) : SameWork (handRoster before s) (handRoster before' v) :=
  .commit hb ((noteRoster_sameWork before s).symm.trans (h.trans (noteRoster_sameWork before' v))) (by simpa using hplans)

theorem SameWork.evalSettled (h : SameWork s v) : SameWork (evalSettled s) (evalSettled v) := by
  obtain ⟨hshed, hleave, hannounce, hflight, hspacing, hdropped⟩ := evalSettled_slotsKept s
  obtain ⟨kshed, kleave, kannounce, kflight, kspacing, kdropped⟩ := evalSettled_slotsKept v
  constructor
  case settled => rw [evalSettled_settled, evalSettled_settled, settledCondition_congr h.roster]
  case shed => rw [kshed, hshed, h.shed]
  case leave => rw [kleave, hleave, h.leave]
  case announce => rw [kannounce, hannounce, h.announce]
  all_goals simp [h.now, h.bus, h.roster, h.planner, h.meter, h.enf, h.loader, h.deficit, h.shedHold, h.inFlight, h.spacing,
    h.dropped, h.count]

/-! ### A peer's frame (R25 to R50) -/

theorem takeClaim_workIn (n : Station) (network : Word16) (c : ClaimPart) (st : Option StatusPart) (s r : State) :
    takeClaim n network c st (s.workIn r) = (takeClaim n network c st s).workIn r := by
  unfold takeClaim
  rw [apply_ite (fun x : State => x.workIn r)]
  rfl

theorem hearNumber_workIn (s r : State) (n : Station) : hearNumber (s.workIn r) n = (hearNumber s n).workIn r := by
  unfold hearNumber
  rw [apply_ite (fun x : State => x.workIn r), apply_ite (fun x : State => x.workIn r)]
  rfl

theorem takeHearsay_workIn (n : Station) (quiet : BitVec 64) (s r : State) :
    takeHearsay n quiet (s.workIn r) = (takeHearsay n quiet s).workIn r := by
  have hfold : ∀ (ns : List Station) (w : State), ns.foldl hearNumber (w.workIn r) = (ns.foldl hearNumber w).workIn r := by
    intro ns
    induction ns with
    | nil => intro w; rfl
    | cons k ks ih => intro w; rw [List.foldl_cons, List.foldl_cons, hearNumber_workIn, ih]
  unfold takeHearsay takeQuietSet
  rw [apply_ite (fun x : State => x.workIn r), ← hfold]
  rfl

theorem workIn_sameWork (s r : State) : SameWork s (s.workIn r) := by constructor <;> rfl

theorem SameWork.takeClaim (h : SameWork s v) (n : Station) (network : Word16) (c : ClaimPart) (st : Option StatusPart) :
    SameWork (takeClaim n network c st s) (takeClaim n network c st v) :=
  h.map fun r => by rw [takeClaim_workIn]; exact workIn_sameWork _ r

theorem SameWork.takeHearsay (h : SameWork s v) (n : Station) (quiet : BitVec 64) :
    SameWork (takeHearsay n quiet s) (takeHearsay n quiet v) :=
  h.map fun r => by rw [takeHearsay_workIn]; exact workIn_sameWork _ r

theorem SameWork.confirmSender (h : SameWork s v) (n : Station) (digest : Word16) :
    SameWork (confirmSender n digest s) (confirmSender n digest v) :=
  h.map fun r => by constructor <;> rfl

theorem SameWork.applyShed (h : SameWork s v) (x : Current) : SameWork (applyShed x s) (applyShed x v) := by
  have hgrant := applyShed_grantCtl x s
  have hgrant' := applyShed_grantCtl x v
  constructor
  case deficit => rw [hgrant, hgrant', h.deficit]
  case shedHold => rw [hgrant, hgrant', h.now, h.params]
  all_goals simp [h.now, h.bus, h.roster, h.planner, h.meter, h.enf, h.loader, h.settled, h.shed, h.leave, h.announce,
    h.inFlight, h.spacing, h.dropped, h.count]

theorem SameWork.judgeShed (h : SameWork s v) (network : Word16) (x : Current) :
    SameWork (judgeShed network x s) (judgeShed network x v) := by
  unfold Machine.judgeShed
  by_cases hours : s.loader.networkDigest = some network
  · rw [if_pos hours, if_pos (h.loader ▸ hours)]
    exact h.applyShed x
  · rw [if_neg hours, if_neg (h.loader ▸ hours)]
    exact h.map (g := fun w => { w with roster := { w.roster with shedIgnored := bump w.roster.shedIgnored } })
      fun r => by constructor <;> rfl

/-- A peer's frame does the same work where both states plan or neither does. -/
theorem SameWork.takePeerFrame (h : SameWork s v) (hplans : v.life.state.plans = s.life.state.plans) (f : Frame) :
    SameWork (takePeerFrame f s) (takePeerFrame f v) := by
  cases f with
  | status n network c st =>
    have hcan : v.canHold n = s.canHold n := by unfold State.canHold; rw [h.roster]
    unfold Machine.takePeerFrame takeStatus
    dsimp only
    rw [hcan]
    refine ((SameWork.handRoster h ?_ ?_).confirmSender n st.rosterDigest).evalSettled
    · split
      · exact (h.takeClaim n network c (some st)).takeHearsay n st.quiet
      · exact h.takeClaim n network c (some st)
    · split <;> simpa using hplans
  | announce n network c =>
    have hhanded := SameWork.handRoster h (h.takeClaim n network c none) (by simpa using hplans)
    exact ((raiseStatus_sameWork 0 _).symm.trans (hhanded.trans (raiseStatus_sameWork 0 _))).evalSettled
  | leave n network serial =>
    have haccept : SameWork (answerAccept s) (answerAccept v) := h.map fun r => by constructor <;> rfl
    have hdrop : SameWork (dropEntry n (answerAccept s)) (dropEntry n (answerAccept v)) :=
      haccept.map fun r => by constructor <;> rfl
    unfold Machine.takePeerFrame takeLeave
    dsimp only
    rw [h.roster]
    split
    · exact (SameWork.handRoster h hdrop hplans).evalSettled
    · exact haccept
  | shed n network excess =>
    have hrefresh : SameWork (refreshSender n (answerAccept s)) (refreshSender n (answerAccept v)) :=
      h.map (g := fun w => refreshSender n (answerAccept w)) fun r => by constructor <;> rfl
    exact .commit h (hrefresh.judgeShed network excess.toNat) (by simpa [refreshSender, answerAccept] using hplans)

end

end Sys2Proof.Machine
end

section
/-! ISOLATED entered and ended (R71 to R78, R113). -/

namespace Sys2Proof.Machine

open Sys2Proof.Safety Sys2Proof.Claims

/-! ### Entry into ISOLATED (R74) -/

theorem enterIsolated_life (s : State) : (enterIsolated s).life = { s.life with
    state := .isolated, fallbackAt := some s.fallbackDue, spentAt := some s.spentDue
    phase := if s.spentDue ≤ s.now then .spent else if s.fallbackDue ≤ s.now then .fallback else .hold } := by
  unfold enterIsolated
  simp

theorem enterIsolated_grantCtl (s : State) : (enterIsolated s).grantCtl = { s.grantCtl with grant :=
    (if s.spentDue ≤ s.now then 0
    else if s.fallbackDue ≤ s.now then min s.params.fallback s.planner.claim.effectiveDemand
    else min s.grantCtl.grant (min s.params.fallback s.planner.claim.effectiveDemand)) } := by
  unfold enterIsolated
  by_cases hspent : s.spentDue ≤ s.now
  · simp [hspent]
  · by_cases hfallback : s.fallbackDue ≤ s.now
    · simp [hspent, hfallback]
    · simp [hspent, hfallback]

/-- The CUT output is driven at the entry (R147). -/
theorem enterIsolated_cutOutput {s : State} (h : s.life.state ≠ .isolated) : (enterIsolated s).cutOutput = s.cutFlag := by
  unfold enterIsolated
  dsimp only
  rw [(setGrant_frame _ _).2.2.2.1]
  exact setStation_cutOutput (by exact h)

/-! ### The outcomes that enter and end it (R72, R74, R78) -/

section
variable {s : State} {a : Attempt} {f : InFlight}

theorem limitReached_of_four (hst : s.life.state = .joining ∨ s.life.state = .active) (hcount : s.sched.isolationCount = 4) :
    s.limitReached .unheard = true := by
  rcases hst with h | h <;> simp [State.limitReached, h, hcount]

theorem lifecycleOutcome_limit (k : Kind) (dropped : Bool) (x : State) :
    lifecycleOutcome .unheard k true dropped x = enterIsolated x := rfl

theorem lifecycleOutcome_joins {o : AttemptOutcome} {k : Kind} {dropped : Bool} {x : State} (hst : x.life.state = .isolated)
    (ho : o.heard = true) : lifecycleOutcome o k false dropped x = enterJoining (setMarks o x) := by
  unfold lifecycleOutcome
  simp only [Bool.false_eq_true, if_false, setMarks_frame]
  exact if_pos ⟨hst, ho⟩

/-- The state in which the limit is reached, with the attempt disposed of and the count at 5. -/
def State.limitMet (s : State) (refuse : Bool) (a : Attempt) (f : InFlight) : State := { s with
  bus := (s.slotsTaken false refuse a).busAfter .unheard, link := s.linkAfter .unheard
  sched := { s.sched with inFlight := none, spacing := s.gapAfter f.kind, isolationCount := 5 } }

theorem exec_isolationLimit {t : Time} {refuse : Bool} (hopen : OpenWindow s) (ha : s.bus.attempt = some a)
    (hfirst : a.first ≠ .broken) (hf : s.sched.inFlight = some f) (hst : s.life.state = .joining ∨ s.life.state = .active)
    (hcount : s.sched.isolationCount = 4) :
    exec (.isolationLimit t refuse) s = .next (enterIsolated ((s.atTime t).limitMet refuse a f)) := by
  have hpart : s.life.state.participates = true := by rcases hst with h | h <;> rw [h] <;> rfl
  have hfive : min 5 (s.sched.isolationCount + 1) = 5 := by rw [hcount]; rfl
  have hend : endAttempt .unheard f ((s.atTime t).slotsTaken false refuse a) =
      enterIsolated ((s.atTime t).limitMet refuse a f) := by
    rw [endAttempt_open (s := (s.atTime t).slotsTaken false refuse a) (by exact hopen.2) (by decide),
      limitReached_of_four (s := (s.atTime t).slotsTaken false refuse a) hst hcount, finishAttempt_removed (.inr rfl),
      countIsolation_unheard (by exact hpart)]
    refine (lifecycleOutcome_limit ..).trans (congrArg enterIsolated ?_)
    exact congrArg (fun n : Nat => ({ s.atTime t with
      bus := ((s.atTime t).slotsTaken false refuse a).busAfter .unheard, link := s.linkAfter .unheard
      sched := { s.sched with inFlight := none, spacing := (s.atTime t).gapAfter f.kind, isolationCount := n } } : State)) hfive
  simp only [exec, execIsolationLimit]
  rw [arrive_released hopen.1, onlyIf_holds (by exact limitReached_of_four (s := s.atTime t) hst hcount),
    takeOutcome_open (s := s.atTime t) ha hf hfirst, slotsRead_eq, ← hend]
  rfl

end

/-! ### What a peer's frame leaves of the list and of the station record -/

theorem takePeerFrame_slotsKept (f : Frame) (s : State) : SlotsKept s (takePeerFrame f s) := by
  cases f with
  | status n network c st =>
    have hheard : SlotsKept s (if s.canHold n then takeHearsay n st.quiet (takeClaim n network c (some st) s)
        else takeClaim n network c (some st) s) := slotsKept_of_sched (by split <;> simp)
    exact slotsKept_trans hheard (slotsKept_trans (handRoster_slotsKept s _)
      (slotsKept_trans (slotsKept_of_sched (by simp)) (evalSettled_slotsKept (confirmSender n st.rosterDigest _))))
  | announce n network c =>
    have htaken : SlotsKept s (takeClaim n network c none s) := slotsKept_of_sched (by simp)
    exact slotsKept_trans htaken (slotsKept_trans (handRoster_slotsKept s _)
      (slotsKept_trans (raiseStatus_slotsKept 0 _) (evalSettled_slotsKept _)))
  | leave n network serial =>
    unfold takePeerFrame takeLeave
    dsimp only
    split
    · have hdropped : SlotsKept s (dropEntry n (answerAccept s)) := slotsKept_of_sched rfl
      exact slotsKept_trans hdropped (slotsKept_trans (handRoster_slotsKept s _) (evalSettled_slotsKept _))
    · exact slotsKept_of_sched rfl
  | shed n network excess =>
    have hjudged : SlotsKept s (judgeShed network excess.toNat (refreshSender n (answerAccept s))) :=
      slotsKept_of_sched (by simp [refreshSender, answerAccept])
    exact slotsKept_trans hjudged (commit_slotsKept s _)

/-- Of the station record a peer's frame touches what the settled condition does at its end (R22, R50). -/
theorem takePeerFrame_settles (f : Frame) (s : State) :
    (∃ x, x.life = s.life ∧ x.grantCtl.settled = s.grantCtl.settled ∧ takePeerFrame f s = evalSettled x) ∨
    ((takePeerFrame f s).life = s.life ∧ (takePeerFrame f s).grantCtl.settled = s.grantCtl.settled) := by
  cases f with
  | status n network c st =>
    refine .inl ⟨confirmSender n st.rosterDigest (handRoster s (if s.canHold n then
      takeHearsay n st.quiet (takeClaim n network c (some st) s) else takeClaim n network c (some st) s)), ?_, ?_, rfl⟩
    · split <;> simp
    · split <;> simp
  | announce n network c =>
    exact .inl ⟨raiseRequest .status 0 (handRoster s (takeClaim n network c none s)), by simp, by simp, rfl⟩
  | leave n network serial =>
    unfold takePeerFrame takeLeave
    dsimp only
    split
    · exact .inl ⟨handRoster s (dropEntry n (answerAccept s)), by simp [dropEntry, answerAccept],
        by simp [dropEntry, answerAccept], rfl⟩
    · exact .inr ⟨rfl, rfl⟩
  | shed n network excess =>
    unfold takePeerFrame takeShed
    exact .inr (by simp [refreshSender, answerAccept])

/-- JOINING ends where the frame settles the station, and nothing else of the record changes (R71). -/
theorem takePeerFrame_life_eq (f : Frame) (s : State) : (takePeerFrame f s).life = { s.life with
    state := if s.life.state = .joining ∧ s.grantCtl.settled = false ∧ (takePeerFrame f s).grantCtl.settled = true
      then .active else s.life.state
    phase := if s.life.state = .joining ∧ s.grantCtl.settled = false ∧ (takePeerFrame f s).grantCtl.settled = true
      then .none else s.life.phase } := by
  rcases takePeerFrame_settles f s with ⟨x, hlife, hsettled, heq⟩ | ⟨hlife, hsettled⟩
  · rw [heq, evalSettled_settled, evalSettled_life_eq, hlife, hsettled]
  · have hno : ¬(s.life.state = .joining ∧ s.grantCtl.settled = false ∧ s.grantCtl.settled = true) :=
      fun h => absurd (h.2.1.symm.trans h.2.2) (by decide)
    rw [hsettled, if_neg hno, if_neg hno]
    exact hlife

/-- Outside JOINING it leaves the station record to the report of the frame (R71). -/
theorem takePeerFrame_life {s : State} (h : s.life.state ≠ .joining) (f : Frame) : (takePeerFrame f s).life = s.life := by
  rw [takePeerFrame_life_eq, if_neg (fun hc => h hc.1), if_neg (fun hc => h hc.1)]

theorem takePeerFrame_participates {s : State} (h : s.life.state.participates = true) (f : Frame) :
    (takePeerFrame f s).life.state.participates = true := by
  rw [takePeerFrame_life_eq]
  dsimp only
  split
  · rfl
  · exact h

end Sys2Proof.Machine
end

section
/-! A peer's frame and an outcome at one moment (R113), and the rows that end ISOLATED. -/

namespace Sys2Proof.Machine

open Sys2Proof.Safety Sys2Proof.Claims

section
variable {s : State} {a : Attempt} {q : InFlight}

/-! ### The isolation limit and the outcome that ends the isolation -/

/-- The state that an outcome heard in ISOLATED hands to JOINING. -/
def State.heardIsolated (s : State) (refuse : Bool) (a : Attempt) (f : InFlight) : State :=
  setMarks (outcomeOf true refuse) { finishAttempt (outcomeOf true refuse) f (s.slotsTaken true refuse a) with
    link := s.linkAfter (outcomeOf true refuse)
    sched := { (finishAttempt (outcomeOf true refuse) f (s.slotsTaken true refuse a)).sched with isolationCount := 0 } }

theorem outcomeOf_heard (refuse : Bool) : (outcomeOf true refuse).heard = true ∧ outcomeOf true refuse ≠ .lost ∧
    outcomeOf true refuse ≠ .unheard := by
  cases refuse <;> decide

theorem exec_heardIsolated {t : Time} {refuse : Bool} (hopen : OpenWindow s) (ha : s.bus.attempt = some a)
    (hfirst : a.first ≠ .broken) (hf : s.sched.inFlight = some q) (hst : s.life.state = .isolated) :
    exec (.attemptOutcomeTaken t true refuse) s = .next (enterJoining ((s.atTime t).heardIsolated refuse a q)) := by
  obtain ⟨hheard, hlost, hunheard⟩ := outcomeOf_heard refuse
  have hpart : s.life.state.participates = true := congrArg StationState.participates hst
  rw [exec_outcome hopen ha hfirst hf, endAttempt_open (s := (s.atTime t).slotsTaken true refuse a) (by exact hopen.2) hlost,
    limitReached_of_ne hunheard, countIsolation_heard (by simp only [finishAttempt_frame]; exact hpart) hheard]
  exact congrArg Host.Outcome.next (lifecycleOutcome_joins (by simp only [finishAttempt_frame]; exact hst) hheard)

/-! ### A peer's frame in ISOLATED (R78, log 7) -/

/-- The frame has done all else before it ends the isolation. -/
theorem takeValid_isolated {f : Frame} {x : State} (hown : f.station ≠ x.ownStation) (hst : x.life.state = .isolated) :
    takeValid f x = enterJoining { takePeerFrame f x with
      sched := { (takePeerFrame f x).sched with isolationCount := 0 } } := by
  have hlife := takePeerFrame_life (s := x) (by rw [hst]; decide) f
  unfold takeValid reportPeerFrame
  rw [if_neg hown]
  exact if_pos (by rw [hlife]; exact hst)

theorem takeValid_isolated_slotsKept {f : Frame} {x : State} (hown : f.station ≠ x.ownStation)
    (hst : x.life.state = .isolated) : SlotsKept x (takeValid f x) := by
  have hcleared : SlotsKept (takePeerFrame f x) { takePeerFrame f x with
      sched := { (takePeerFrame f x).sched with isolationCount := 0 } } := slotsKept_refl _
  rw [takeValid_isolated hown hst]
  exact slotsKept_trans (takePeerFrame_slotsKept f x) (slotsKept_trans hcleared (enterJoining_slotsKept _))

theorem SameWork.clearCount {x y : State} (h : SameWork x y) : SameWork
    { x with sched := { x.sched with isolationCount := 0 } } { y with sched := { y.sched with isolationCount := 0 } } :=
  h.map (g := fun z => { z with sched := { z.sched with isolationCount := 0 } }) fun r => by constructor <;> rfl

/-- It works as in ACTIVE. -/
theorem takeValid_isolated_sameWork {f : Frame} {x y : State} (h : SameWork x y) (hown : f.station ≠ x.ownStation)
    (hst : x.life.state = .isolated) (hactive : y.life.state = .active) : SameWork (takeValid f y) (takeValid f x) := by
  have hlife := takePeerFrame_life (s := y) (by rw [hactive]; decide) f
  have hown' : f.station ≠ y.ownStation := by rwa [ownStation_congr (b := x) (by rw [h.loader])]
  rw [takeValid_isolated hown hst, takeValid_peer hown' (by rw [hlife, hactive]; decide)]
  exact (h.takePeerFrame (by rw [hst, hactive]; rfl) f).symm.clearCount.trans (enterJoining_sameWork _)

/-! ### A peer's frame at the moment of an outcome (R113, log 47) -/

/-- A peer's frame taken in full participation ends ISOLATED and clears the count; the attempt on the line stands (R72, R78). -/
theorem takeValid_joined {f : Frame} {x : State} (hown : f.station ≠ x.ownStation) (hst : x.life.state.participates = true) :
    (takeValid f x).bus.attempt = x.bus.attempt ∧ (takeValid f x).bus.validReceived = x.bus.validReceived ∧
    (takeValid f x).bus.unheard = x.bus.unheard ∧
    (takeValid f x).sched.inFlight = x.sched.inFlight ∧ (takeValid f x).sched.isolationCount = 0 ∧
    (takeValid f x).restartInput = x.restartInput ∧ (takeValid f x).now = x.now ∧
    ((takeValid f x).life.state = .joining ∨ (takeValid f x).life.state = .active) := by
  have hvalid : takeValid f x = reportPeerFrame (takePeerFrame f x) := if_neg hown
  rw [hvalid]
  by_cases hiso : (takePeerFrame f x).life.state = .isolated
  · have hreport : reportPeerFrame (takePeerFrame f x) = enterJoining { takePeerFrame f x with
        sched := { (takePeerFrame f x).sched with isolationCount := 0 } } := if_pos hiso
    rw [hreport, enterJoining_life]
    refine ⟨by simp, by simp, by simp, by simp, by simp, by simp, by simp, ?_⟩
    dsimp only
    split
    · exact .inr rfl
    · exact .inl rfl
  · have hreport : reportPeerFrame (takePeerFrame f x) = { takePeerFrame f x with
        sched := { (takePeerFrame f x).sched with isolationCount := 0 } } := if_neg hiso
    rw [hreport]
    refine ⟨by simp, by simp, by simp, by simp, rfl, by simp, by simp, ?_⟩
    have hpart : (takePeerFrame f x).life.state.participates = true := takePeerFrame_participates hst f
    revert hpart hiso
    dsimp only
    cases (takePeerFrame f x).life.state <;> decide

/-- The state in which a frame is taken that falls at the moment of our outcome. -/
def State.metByPeer (s : State) (t : Time) (bytes : List Byte) (a : Attempt) : State := { s.atTime t with bus := { s.bus with
  attempt := some { a with first := .peer }, assembly := .empty, validReceived := bump s.bus.validReceived
  recessive := trailingRecessive (lineBitsOf bytes), endLeft := 10 } }

/-- A valid frame taken with its report before or after it. -/
def takeReported (f : Frame) (linkFirst : Bool) (x : State) : State :=
  if linkFirst then takeValid f (frameEvent false x) else frameEvent false (takeValid f x)

theorem takeReported_joined {f : Frame} {x : State} (first : Bool) (hown : f.station ≠ x.ownStation)
    (hst : x.life.state.participates = true) :
    (takeReported f first x).bus.attempt = x.bus.attempt ∧
    (takeReported f first x).bus.validReceived = x.bus.validReceived ∧
    (takeReported f first x).bus.unheard = x.bus.unheard ∧
    (takeReported f first x).sched.inFlight = x.sched.inFlight ∧ (takeReported f first x).sched.isolationCount = 0 ∧
    (takeReported f first x).restartInput = x.restartInput ∧ (takeReported f first x).now = x.now ∧
    ((takeReported f first x).life.state = .joining ∨ (takeReported f first x).life.state = .active) := by
  unfold takeReported
  cases first
  · simpa using takeValid_joined hown hst
  · have hown' : f.station ≠ (frameEvent false x).ownStation := by
      rwa [ownStation_congr (b := x) (by simp)]
    simpa using takeValid_joined hown' (by simpa using hst)

theorem exec_frameRow_met {t : Time} {bytes : List Byte} {first : Bool} {f : Frame} (hr : s.restartInput = false)
    (hempty : s.bus.assembly = .empty) (ha : s.bus.attempt = some a) (hfirst : a.first = .nothing)
    (htakes : s.life.state.takesFrames = true) (hjudged : judgeFrame bytes = some (.inl f)) (hown : f.station ≠ s.ownStation)
    (hdue : a.frame.lastBit + 3 ≤ (max s.now t - a.startedAt) / bitTime s.params) :
    exec (frameRow f.kind t bytes first) s = .next (takeReported f first (s.metByPeer t bytes a)) := by
  have hcan : (s.atTime t).canTake bytes = false := by
    have hnot : s.bus.assembly.goesOnTo bytes = false := by rw [hempty]; rfl
    exact Bool.and_eq_false_iff.mpr (.inr hnot)
  have hmeets : (s.atTime t).meetsOutcome f = true := by
    have houtcome : (s.atTime t).outcomeDue = true := (outcomeDue_iff (s := s.atTime t) ha).mpr ⟨hfirst, hdue⟩
    unfold State.meetsOutcome
    rw [houtcome, Bool.and_true]
    exact Bool.and_eq_true_iff.mpr ⟨htakes, decide_eq_true hown⟩
  have hmark : markAttempt .peer bytes (s.atTime t) = { s.atTime t with bus := { s.bus with
      attempt := some { a with first := .peer } } } := by
    unfold markAttempt
    rw [if_neg (by rw [hcan]; decide)]
    have : (s.atTime t).bus.attempt = some a := ha
    rw [this]
    rfl
  rw [exec_frameRow, arrive_released hr, receiveKind_of_judged _ _ hjudged]
  unfold takeFrame State.canTakeValid
  rw [if_pos (Bool.or_eq_true_iff.mpr (.inr hmeets)), hmark]
  unfold receiveValid
  have hcount : countValid (frameEnds bytes { s.atTime t with bus := { s.bus with
      attempt := some { a with first := .peer } } }) = s.metByPeer t bytes a := by
    simp [countValid, frameEnds, State.metByPeer, countRecessive_eq_trailing, Config.slotBits, Config.endBits, State.atTime]
  rw [hcount]
  rfl

/-- UNHEARD below the limit, whether its event closes the window or not (R112, R113). -/
theorem endAttempt_unheard_reported {x : State} (hlimit : x.limitReached .unheard = false)
    (h : x.life.state.participates = true) : endAttempt .unheard q x = { frameEvent false (finishAttempt .unheard q x) with
      sched := { (frameEvent false (finishAttempt .unheard q x)).sched with
        isolationCount := min 5 (x.sched.isolationCount + 1) } } := by
  have hleave : x.life.state ≠ .leaving := fun hc => by rw [hc] at h; cases h
  have hreport : reportOutcome .unheard (finishAttempt .unheard q x) = frameEvent false (finishAttempt .unheard q x) := rfl
  have hlimit' : (finishAttempt .unheard q x).limitReached .unheard = false := by simpa [State.limitReached] using hlimit
  rw [endAttempt_eq, hreport, hlimit', countIsolation_unheard (by simpa using h),
    lifecycleOutcome_marks (by simp [AttemptOutcome.heard]) (by simp [hleave])]
  simp only [frameEvent_frame, finishAttempt_frame]
  rfl

end

end Sys2Proof.Machine

section
open Sys2Proof Sys2Proof.Machine Sys2Proof.Safety Sys2Proof.Claims

/-- Settles O25: the limit, an outcome heard, a peer's frame, and a frame at the moment of an outcome. -/
theorem isolationIsEnteredAndEnded : Obligations.IsolationIsEnteredAndEnded := by
  refine ⟨?_, ?_, ?_, ?_⟩
  · intro t refuse a f clean any s hopen ha hfirst hf hst hcount hclean hany now fallbackAt spentAt cap
    refine ⟨_, exec_isolationLimit (t := t) (refuse := refuse) hopen ha hfirst hf hst hcount, ?_⟩
    generalize hw : (s.atTime t).limitMet refuse a f = w
    have hfrom : w = (s.atTime t).limitMet refuse a f := hw.symm
    have hlife : w.life = s.life := by rw [hfrom]; rfl
    have hgrant : w.grantCtl = s.grantCtl := by rw [hfrom]; rfl
    have hplanner : w.planner = s.planner := by rw [hfrom]; rfl
    have hparams : w.params = s.params := by rw [hfrom]; rfl
    have hnow : w.now = now := by rw [hfrom]; rfl
    have hspent : w.spentDue = spentAt := by unfold State.spentDue; rw [hlife, hparams, hclean]; rfl
    have hfallback : w.fallbackDue = fallbackAt := by unfold State.fallbackDue; rw [hlife, hparams, hany]; rfl
    have hne : w.life.state ≠ .isolated := by rw [hlife]; rcases hst with h | h <;> rw [h] <;> decide
    refine ⟨?_, ?_, ?_, ?_, ?_, ?_, ?_, ?_, ?_, ?_, ?_, ?_, ?_, ?_⟩
    · rw [enterIsolated_life, hspent, hfallback, hnow, hlife]
    · rw [enterIsolated_grantCtl, hspent, hfallback, hnow, hgrant, hparams, hplanner]
    · simp [hfrom, State.limitMet]
    · simp [hfrom, State.limitMet]
    · simp only [enterIsolated_frame]
      rw [hfrom]
      unfold State.limitMet State.busAfter
      rw [trailerAfter_same (u := (s.atTime t).slotsTaken false refuse a) ha rfl rfl]
      rfl
    · simp [hfrom, State.limitMet]
      rfl
    · rw [enterIsolated_cutOutput hne]
      rw [hfrom]
      rfl
    all_goals simp [hfrom, State.limitMet, Apart, PortKept, now]
  · intro t refuse a f s hopen ha hfirst hf hst
    refine ⟨_, exec_heardIsolated (t := t) (refuse := refuse) hopen ha hfirst hf hst, ?_⟩
    have hmarked := setMarks_life (outcomeOf true refuse)
      { finishAttempt (outcomeOf true refuse) f ((s.atTime t).slotsTaken true refuse a) with
        link := (s.atTime t).linkAfter (outcomeOf true refuse)
        sched := { (finishAttempt (outcomeOf true refuse) f ((s.atTime t).slotsTaken true refuse a)).sched with
          isolationCount := 0 } }
    have htrailer := trailerAfter_same (u := (s.atTime t).slotsTaken true refuse a) ha rfl rfl
    generalize hw : (s.atTime t).heardIsolated refuse a f = w
    have hfrom : w = (s.atTime t).heardIsolated refuse a f := hw.symm
    have hlife : w.life = { s.life with
        tClean := if refuse then s.life.tClean else some (max s.now t), tAny := some (max s.now t) } := by
      rw [hfrom]
      refine hmarked.trans ?_
      simp only [finishAttempt_frame]
      cases refuse <;> rfl
    have hgrant : w.grantCtl = s.grantCtl := by rw [hfrom]; simp [State.heardIsolated, State.slotsTaken]
    have hlink : w.link = { s.link with
           events := s.link.events + 1, damaged := s.link.damaged + (if refuse then 1 else 0) } := by
      rw [hfrom]; simp only [State.heardIsolated, setMarks_frame]; cases refuse <;> rfl
    have hplanner : w.planner = s.planner := by rw [hfrom]; simp [State.heardIsolated, State.slotsTaken]
    have hloader : w.loader = s.loader := by rw [hfrom]; simp [State.heardIsolated, State.slotsTaken]
    have hshare : w.ownShare = s.ownShare := ownShare_congr (by rw [hplanner]) (by rw [hloader])
    refine ⟨?_, ?_, ?_, ?_, ?_, ?_, ?_, ?_, ?_, ?_, ?_, ?_, ?_, ?_⟩
    · rw [enterJoining_life, hlife, hgrant]
    · rw [enterJoining_grantCtl, hgrant, hlink, hshare]
    · simp only [enterJoining_frame]
      rw [hfrom]
      simp only [State.heardIsolated, setMarks_frame, finishAttempt_frame, htrailer]
      cases refuse <;> rfl
    · simp only [enterJoining_frame]
      exact hlink
    · simp [hfrom, State.heardIsolated]
    · simp [hfrom, State.heardIsolated]
    · rw [enterJoining_cutOutput (by rw [hlife]; exact hst ▸ (by decide))]
      rw [hfrom]
      simp [State.heardIsolated, State.slotsTaken, State.cutFlag]
    all_goals simp [hfrom, State.heardIsolated, State.slotsTaken, Apart, PortKept]
  · intro t bytes first f s hopen hcan hjudged hown hst
    let active : State := { s with life := { s.life with state := .active, phase := .none } }
    have hcan' : active.canTake bytes = true := by
      unfold State.canTake at hcan ⊢
      rw [hst] at hcan
      exact hcan
    obtain ⟨l, -, hexec⟩ := exec_frameRow_taken (t := t) (first := first) hopen hcan hjudged
    obtain ⟨l', -, hexec'⟩ := exec_frameRow_taken (t := t) (first := first) (s := active) hopen hcan' hjudged
    have hsame : SameWork (s.received t bytes l) (active.received t bytes l') := by constructor <;> rfl
    have hwork := takeValid_isolated_sameWork (f := f) hsame hown hst rfl
    have hslots := takeValid_isolated_slotsKept (f := f) (x := s.received t bytes l) hown hst
    have hlife : (takePeerFrame f (s.received t bytes l)).life = s.life :=
      takePeerFrame_life (s := s.received t bytes l) (by exact hst ▸ (by decide)) f
    have hvalid : takeValid f (s.received t bytes l) = _ := takeValid_isolated hown hst
    refine ⟨_, _, hexec, hexec', hwork.roster, hwork.planner, hwork.bus, rfl, hwork.settled, hwork.deficit,
      hwork.shedHold, ?_, ?_, hslots, ?_, ?_, ?_, ?_, ?_⟩
    · dsimp only
      rw [hvalid, enterJoining_life, hlife]
      simp
    all_goals
      rw [hvalid]
      simp [State.received, Apart, PortKept]
  · intro t bytes first refuse f a q s hr hempty ha hfirst hq hpart hjudged hown hdue met
    have htakes : s.life.state.takesFrames = true := by revert hpart; cases s.life.state <;> decide
    have hexec := exec_frameRow_met (first := first) hr hempty ha hfirst htakes hjudged hown hdue
    have hmet : exec (frameRow f.kind t bytes first) met = .next (takeReported f first (s.metByPeer t bytes a)) := by
      have hcan : (met.atTime t).canTake bytes = true := Bool.and_eq_true_iff.mpr ⟨htakes, rfl⟩
      rw [exec_frameRow, arrive_released (s := met) hr, receiveKind_of_judged _ _ hjudged, takeFrame_of_canTake hcan]
      unfold receiveValid
      rw [countValid_frameEnds]
      rfl
    obtain ⟨hattempt, hvalid, hunheard, hflight, hcount, hrestart, -, hstate⟩ :=
      takeReported_joined (f := f) (x := s.metByPeer t bytes a) first hown hpart
    generalize takeReported f first (s.metByPeer t bytes a) = u at *
    have hheard := exec_attemptOutcomeTaken (t := t) (accept := false) (refuse := refuse) (hrestart.trans hr) hattempt
      (by decide : FirstFrame.peer ≠ .broken) (hflight.trans hq)
    refine ⟨u, _, hexec, hmet, hattempt, hflight.trans hq, hcount, hvalid, hstate, hheard, ?_⟩
    have hpart' : u.life.state.participates = true := by rcases hstate with h | h <;> rw [h] <;> rfl
    have hlimit : (slotsRead false refuse a.frame (u.atTime t)).limitReached .unheard = false := by
      have hne : ¬u.sched.isolationCount + 1 = 5 := by omega
      exact Bool.and_eq_false_iff.mpr (.inr (decide_eq_false hne))
    have hend := endAttempt_unheard_reported (q := q) hlimit (by exact hpart')
    have htrailer := trailerAfter_same (s := u) (u := slotsRead false refuse a.frame (u.atTime t)) hattempt rfl rfl
    have hone : (slotsRead false refuse a.frame (u.atTime t)).sched.isolationCount = 0 := hcount
    rw [outcomeOf, if_neg (by decide), hend, hone]
    simp only [frameEvent_frame, finishAttempt_frame, htrailer]
    exact ⟨rfl, rfl, rfl, rfl, trivial, trivial, congrArg bump hunheard, if_neg (by decide)⟩

end
end

section
/-! What the parts of a frame event do besides their work: the notifications they raise, what they leave alone, and no raise
left unmade (R55, R65, R120). -/

namespace Sys2Proof.Machine

open Sys2Proof.Safety Sys2Proof.Claims

/-! ### No raise left unmade (R55) -/

/-- What raise permission allows is made. -/
def Weighed (s : State) : Prop := s.permission = true → s.ownShare ≤ s.grantCtl.grant

theorem weighed_of_not_active {s : State} (h : s.life.state ≠ .active) : Weighed s :=
  fun hp => absurd (permission_iff.mp hp).1 h

theorem Weighed.congr {s u : State} (h : Weighed s) (hlife : u.life.state = s.life.state) (hgrant : u.grantCtl = s.grantCtl)
    (hlink : u.link = s.link) (hplan : u.planner.plan = s.planner.plan) (hloader : u.loader = s.loader) : Weighed u := by
  intro hp
  have hpermission : s.permission = true := by
    rw [permission_iff] at hp ⊢
    rwa [hlife, hgrant, hlink] at hp
  rw [ownShare_congr hplan (congrArg Loader.heldCopy hloader), hgrant]
  exact h hpermission

theorem weighRaise_weighed (s : State) : Weighed (weighRaise s) := by
  unfold weighRaise
  split
  · intro _
    simp [ownShare_congr (a := setGrant s.ownShare s) (b := s) (by simp) (by simp)]
  · next h => exact fun hp => not_lt.mp fun hlt => h ⟨hp, hlt⟩

theorem takeShare_weighed (s : State) : Weighed (takeShare s) := by
  unfold takeShare
  split
  · intro _
    simp [ownShare_congr (a := setGrant s.ownShare s) (b := s) (by simp) (by simp)]
  · exact weighRaise_weighed s

theorem enterActive_weighed (s : State) : Weighed (enterActive s) := takeShare_weighed _

theorem enterJoining_weighed (s : State) : Weighed (enterJoining s) := by
  unfold enterJoining
  dsimp only
  split
  · exact enterActive_weighed _
  · exact takeShare_weighed _

theorem evalSettled_weighed {s : State} (h : Weighed s) : Weighed (evalSettled s) := by
  unfold evalSettled
  dsimp only
  split_ifs with hsame hrises hjoining
  · exact h
  · exact enterActive_weighed _
  · exact weighRaise_weighed _
  · exact fun hp => absurd (permission_iff.mp hp).2.1 hrises

theorem handOn_weighed {dig pln : Bool} {s : State} (h : Weighed s) : Weighed (handOn dig pln s) := by
  rw [handOn_eq]
  split
  · exact takeShare_weighed _
  · next hplans =>
    have hhold : (handed dig pln s).grantCtl.raiseHold = if dig || ((pln && s.life.state.plans) &&
        increases s.planner.plan s.planNow) then .running (s.now + s.params.raiseHold * Config.sec)
        else s.grantCtl.raiseHold := handed_raiseHold dig pln s
    rw [Bool.eq_false_iff.mpr hplans, Bool.false_and, Bool.or_false] at hhold
    intro hp
    rw [permission_iff] at hp
    obtain ⟨hlife, hsettled, hexpired, hdegraded⟩ := hp
    cases dig with
    | true =>
      rw [hhold] at hexpired
      cases hexpired
    | false =>
      rw [hhold] at hexpired
      have hkept : (handed false pln s).ownShare ≤ (handed false pln s).grantCtl.grant ↔
          s.ownShare ≤ s.grantCtl.grant := by
        rw [ownShare_congr (a := handed false pln s) (b := s) (by simp [Bool.eq_false_iff.mpr hplans]) (by simp)]
        simp
      exact hkept.mpr (h (permission_iff.mpr
        ⟨by simpa using hlife, by simpa using hsettled, hexpired, by simpa using hdegraded⟩))

theorem commit_weighed {before s : State} (h : Weighed s) : Weighed (commit before s) := handOn_weighed h

theorem handRoster_weighed {before s : State} (h : Weighed s) : Weighed (handRoster before s) :=
  commit_weighed (h.congr (by simp) (by simp) (by simp) (by simp) (by simp))

theorem takePeerFrame_weighed {f : Frame} {s : State} (h : Weighed s) : Weighed (takePeerFrame f s) := by
  cases f with
  | status n network c st =>
    have hheard : Weighed (if s.canHold n then takeHearsay n st.quiet (takeClaim n network c (some st) s)
        else takeClaim n network c (some st) s) := by
      split <;> exact h.congr (by simp) (by simp) (by simp) (by simp) (by simp)
    exact evalSettled_weighed ((handRoster_weighed hheard).congr rfl rfl rfl rfl rfl)
  | announce n network c =>
    have htaken : Weighed (takeClaim n network c none s) := h.congr (by simp) (by simp) (by simp) (by simp) (by simp)
    exact evalSettled_weighed ((handRoster_weighed (before := s) htaken).congr (by simp) (by simp) (by simp) (by simp) (by simp))
  | leave n network serial =>
    unfold takePeerFrame takeLeave
    dsimp only
    split
    · exact evalSettled_weighed (handRoster_weighed (h.congr rfl rfl rfl rfl rfl))
    · exact h.congr rfl rfl rfl rfl rfl
  | shed n network excess =>
    refine commit_weighed ?_
    have hsame : ∀ {u : State}, u.grantCtl.grant = s.grantCtl.grant → u.grantCtl.settled = s.grantCtl.settled →
        u.grantCtl.raiseHold = s.grantCtl.raiseHold → u.life = s.life → u.link = s.link → u.planner = s.planner →
        u.loader = s.loader → Weighed u := by
      intro u hgrant hsettled hhold hlife hlink hplanner hloader hp
      rw [permission_iff, hlife, hsettled, hhold, hlink] at hp
      rw [ownShare_congr (congrArg SharePlanner.plan hplanner) (congrArg Loader.heldCopy hloader), hgrant]
      exact h (permission_iff.mpr hp)
    exact hsame (by simp [refreshSender, answerAccept]) (by simp [refreshSender, answerAccept])
      (by simp [refreshSender, answerAccept]) (by simp [refreshSender, answerAccept])
      (by simp [refreshSender, answerAccept]) (by simp [refreshSender, answerAccept]) (by simp [refreshSender, answerAccept])

theorem takeValid_weighed {f : Frame} {s : State} (h : Weighed s) : Weighed (takeValid f s) := by
  unfold takeValid
  split
  · exact weighed_of_not_active (by simp [takeOwnNumber, enterDuplicate])
  · unfold reportPeerFrame
    dsimp only
    split
    · exact enterJoining_weighed _
    · exact (takePeerFrame_weighed h).congr rfl rfl rfl rfl rfl

/-- A window that closes and clears DEGRADED has the raise made (R65, R120). -/
theorem closeWindow_weighed {s : State} (h : s.link.degraded = true) : Weighed (closeWindow false s) := by
  unfold closeWindow
  dsimp only
  rw [if_neg (by rw [h]; decide)]
  exact weighRaise_weighed _

/-! ### The notifications of a frame event -/

theorem enterJoining_raisesPlain (s : State) : RaisesPlain s (enterJoining s) := by
  unfold enterJoining
  dsimp only
  have hjoined : RaisesPlain s (takeShare (setStation .joining .none
      { s with life := { s.life with fallbackAt := none, spentAt := none } })) := by
    refine RaisesPlain.trans ?_ (takeShare_raisesPlain _)
    exact (setStation_raisesPlain _ _ { s with life := { s.life with fallbackAt := none, spentAt := none } }).of_queue rfl
  split
  · exact hjoined.trans (enterActive_raisesPlain _)
  · exact hjoined

theorem enterIsolated_raisesPlain (s : State) : RaisesPlain s (enterIsolated s) := by
  refine RaisesPlain.trans ?_ (setGrant_raisesPlain _ _)
  exact (setStation_raisesPlain _ _ { s with life := { s.life with
    fallbackAt := some s.fallbackDue, spentAt := some s.spentDue } }).of_queue rfl

theorem enterDuplicate_raisesPlain (s : State) : RaisesPlain s (enterDuplicate s) := by
  have hraised : RaisesPlain s (raiseNote .duplicate
      { s with life := { s.life with listen := none, fallbackAt := none, spentAt := none } }) :=
    (raiseNote_raisesPlain rfl { s with life := { s.life with listen := none, fallbackAt := none, spentAt := none } }).of_queue rfl
  refine RaisesPlain.trans ?_ (setGrant_raisesPlain _ _)
  exact (hraised.trans (setStation_raisesPlain .duplicate .none _)).to_queue rfl

theorem enterDormant_raisesPlain (s : State) : RaisesPlain s (enterDormant s) := by
  have hcleared : RaisesPlain s (dormantCleared s) := (setStation_raisesPlain .dormant .none s).to_queue rfl
  obtain ⟨dig, before, heq⟩ := enterDormant_eq s
  rw [heq]
  refine RaisesPlain.trans (RaisesPlain.trans ?_ (handOn_raisesPlain _ _ _)) (evalSettled_raisesPlain _)
  exact (hcleared.trans (noteRoster_raisesPlain before _)).to_queue rfl

theorem takePeerFrame_raisesPlain (f : Frame) (s : State) : RaisesPlain s (takePeerFrame f s) := by
  cases f with
  | status n network c st =>
    have hheard : RaisesPlain s (if s.canHold n then takeHearsay n st.quiet (takeClaim n network c (some st) s)
        else takeClaim n network c (some st) s) := raisesPlain_of_queue (by split <;> simp)
    exact (hheard.trans (handRoster_raisesPlain s _)).trans ((evalSettled_raisesPlain _).of_queue rfl)
  | announce n network c =>
    have htaken : RaisesPlain s (takeClaim n network c none s) := raisesPlain_of_queue (by simp)
    exact ((htaken.trans (handRoster_raisesPlain s _)).trans (raiseRequest_raisesPlain _ _ _)).trans (evalSettled_raisesPlain _)
  | leave n network serial =>
    unfold takePeerFrame takeLeave
    dsimp only
    split
    · refine RaisesPlain.trans ?_ (evalSettled_raisesPlain _)
      exact (handRoster_raisesPlain s (dropEntry n (answerAccept s))).of_queue rfl
    · exact raisesPlain_of_queue rfl
  | shed n network excess =>
    have hjudged : RaisesPlain s (judgeShed network excess.toNat (refreshSender n (answerAccept s))) := by
      unfold judgeShed
      split
      · exact (applyShed_raisesPlain _ _).of_queue rfl
      · exact raisesPlain_of_queue rfl
    exact hjudged.trans (handOn_raisesPlain _ _ _)

theorem takeValid_raisesPlain (f : Frame) (s : State) : RaisesPlain s (takeValid f s) := by
  unfold takeValid
  split
  · exact (enterDuplicate_raisesPlain _).of_queue rfl
  · refine (takePeerFrame_raisesPlain f s).trans ?_
    unfold reportPeerFrame
    dsimp only
    split
    · exact (enterJoining_raisesPlain _).of_queue rfl
    · exact raisesPlain_of_queue rfl

end Sys2Proof.Machine
end

section
/-! The parts of a frame event in two states that agree on the work and on the station record (R120). -/

namespace Sys2Proof.Machine

open Sys2Proof.Safety Sys2Proof.Claims

/-- The two states agree on what an event works on and on the station record. -/
structure SameEvent (s v : State) : Prop where
  work : SameWork s v
  life : v.life = s.life

section
variable {s v : State}

theorem SameEvent.symm (h : SameEvent s v) : SameEvent v s := ⟨h.work.symm, h.life.symm⟩

theorem SameEvent.trans {w : State} (h : SameEvent s v) (k : SameEvent v w) : SameEvent s w :=
  ⟨h.work.trans k.work, k.life.trans h.life⟩

theorem SameEvent.ownStation (h : SameEvent s v) : v.ownStation = s.ownStation :=
  ownStation_congr (congrArg Loader.heldCopy h.work.loader)

theorem frameEvent_sameEvent (d : Bool) (s : State) : SameEvent s (frameEvent d s) :=
  ⟨frameEvent_sameWork d s, by simp⟩

/-! ### The report of a peer's frame and our own number -/

theorem SameEvent.enterJoining (h : SameEvent s v) : SameEvent (enterJoining s) (enterJoining v) :=
  ⟨(enterJoining_sameWork s).symm.trans (h.work.trans (enterJoining_sameWork v)), by
    rw [enterJoining_life, enterJoining_life, h.life, h.work.settled]⟩

theorem SameEvent.takePeerFrame (h : SameEvent s v) (f : Frame) : SameEvent (takePeerFrame f s) (takePeerFrame f v) := by
  have hwork := h.work.takePeerFrame (by rw [h.life]) f
  exact ⟨hwork, by rw [takePeerFrame_life_eq, takePeerFrame_life_eq f s, hwork.settled, h.life, h.work.settled]⟩

theorem SameEvent.reportPeerFrame (h : SameEvent s v) : SameEvent (reportPeerFrame s) (reportPeerFrame v) := by
  have hcleared : SameEvent { s with sched := { s.sched with isolationCount := 0 } }
      { v with sched := { v.sched with isolationCount := 0 } } := ⟨h.work.clearCount, h.life⟩
  unfold Machine.reportPeerFrame
  by_cases hiso : s.life.state = .isolated
  · rw [if_pos hiso, if_pos ((congrArg Lifecycle.state h.life).trans hiso)]
    exact hcleared.enterJoining
  · rw [if_neg hiso, if_neg fun hc => hiso ((congrArg Lifecycle.state h.life).symm.trans hc)]
    exact hcleared

/-- What the entry into DUPLICATE leaves of the blocks' work (R22, R82). -/
def duplicateHeld (s : State) : State := holdRoster (emptyRequests (silenceBus s))

theorem SameWork.duplicateHeld (h : SameWork s v) : SameWork (duplicateHeld s) (duplicateHeld v) :=
  h.map fun r => by constructor <;> rfl

theorem takeOwnNumber_sameWork (s : State) : SameWork (duplicateHeld s) (takeOwnNumber s) := by
  let quiet : State := { s with
    bus := { s.bus with trailer := .neither }
    life := { s.life with listen := none, fallbackAt := none, spentAt := none } }
  have hquiet : SameWork (duplicateHeld s) (duplicateHeld quiet) := by constructor <;> rfl
  have hentered : SameWork quiet (setStation .duplicate .none (raiseNote .duplicate quiet)) :=
    (raiseNote_sameWork _ _).trans (setStation_sameWork _ _ _)
  exact hquiet.trans (hentered.duplicateHeld.trans (setGrant_sameWork 0 _))

theorem SameEvent.takeOwnNumber (h : SameEvent s v) : SameEvent (takeOwnNumber s) (takeOwnNumber v) := by
  refine ⟨(takeOwnNumber_sameWork s).symm.trans (h.work.duplicateHeld.trans (takeOwnNumber_sameWork v)), ?_⟩
  simp [Machine.takeOwnNumber, enterDuplicate, h.life]

theorem SameEvent.takeValid (h : SameEvent s v) (f : Frame) : SameEvent (takeValid f s) (takeValid f v) := by
  unfold Machine.takeValid
  rw [h.ownStation]
  split
  · exact h.takeOwnNumber
  · exact (h.takePeerFrame f).reportPeerFrame

/-! ### The end of an attempt -/

theorem enterIsolated_sameWork (s : State) : SameWork s (enterIsolated s) := by
  refine SameWork.trans ?_ (setGrant_sameWork _ _)
  refine SameWork.trans ?_ (setStation_sameWork _ _ _)
  constructor <;> rfl

theorem SameEvent.enterIsolated (h : SameEvent s v) : SameEvent (enterIsolated s) (enterIsolated v) := by
  have hfallback : v.fallbackDue = s.fallbackDue := by unfold State.fallbackDue; rw [h.life, h.work.params]
  have hspent : v.spentDue = s.spentDue := by unfold State.spentDue; rw [h.life, h.work.params]
  refine ⟨(enterIsolated_sameWork s).symm.trans (h.work.trans (enterIsolated_sameWork v)), ?_⟩
  rw [enterIsolated_life, enterIsolated_life, hfallback, hspent, h.life, h.work.now]

theorem SameWork.dormantCleared (h : SameWork s v) : SameWork (dormantCleared s) (dormantCleared v) := by
  have hset : SameWork (setStation .dormant .none s) (setStation .dormant .none v) :=
    (setStation_sameWork _ _ s).symm.trans (h.trans (setStation_sameWork _ _ v))
  exact hset.map (g := fun x => { emptyRequests (silenceBus x) with
    roster := { x.roster with entries := [], overflow := false, forgotten := [] }
    sched := { (emptyRequests (silenceBus x)).sched with isolationCount := 0 } }) fun r => by constructor <;> rfl

theorem SameWork.recomputeDigest (h : SameWork s v) : SameWork (recomputeDigest s) (recomputeDigest v) :=
  h.map fun r => by constructor <;> rfl

/-- The state in which DORMANT is entered, with its roster still held. -/
def dormantQuiet (s : State) : State := emptyRequests (silenceBus (setStation .dormant .none s))

theorem enterDormant_handsOn (s : State) : enterDormant s = evalSettled (handOn
    (digestChanged (dormantQuiet s) (dormantCleared s)) true
    (recomputeDigest (noteRoster (dormantQuiet s) (dormantCleared s)))) :=
  rfl

theorem dormantNoted_life (b s : State) : (recomputeDigest (noteRoster b (dormantCleared s))).life =
    { s.life with state := .dormant, phase := .none } := by
  simp [dormantCleared]

theorem enterDormant_life (s : State) : (enterDormant s).life = { s.life with state := .dormant, phase := .none } := by
  have hhanded : (handOn (digestChanged (dormantQuiet s) (dormantCleared s)) true
      (recomputeDigest (noteRoster (dormantQuiet s) (dormantCleared s)))).life =
      { s.life with state := .dormant, phase := .none } := (by simp : _ = _).trans (dormantNoted_life (dormantQuiet s) s)
  rw [enterDormant_handsOn, evalSettled_life (by rw [hhanded]; exact fun h => nomatch h), hhanded]

theorem SameEvent.enterDormant (h : SameEvent s v) : SameEvent (enterDormant s) (enterDormant v) := by
  have hcleared := h.work.dormantCleared
  have hchanged : digestChanged (dormantQuiet v) (Machine.dormantCleared v) =
      digestChanged (dormantQuiet s) (Machine.dormantCleared s) := by
    have hquiet : (dormantQuiet v).roster.entries = (dormantQuiet s).roster.entries ∧
        (dormantQuiet v).planner = (dormantQuiet s).planner := by simp [dormantQuiet, h.work.roster, h.work.planner]
    unfold digestChanged
    rw [hquiet.1, hquiet.2, hcleared.roster, hcleared.planner]
  have hnoted := ((noteRoster_sameWork (dormantQuiet s) _).symm.trans
    (hcleared.trans (noteRoster_sameWork (dormantQuiet v) _))).recomputeDigest
  refine ⟨?_, by rw [enterDormant_life, enterDormant_life, h.life]⟩
  rw [enterDormant_handsOn, enterDormant_handsOn, hchanged]
  exact (hnoted.handOn (by rw [dormantNoted_life, dormantNoted_life]) _ true).evalSettled

theorem SameWork.startSpacing (h : SameWork s v) {o : AttemptOutcome} (ho : o ≠ .lost) (k : Kind) :
    SameWork (startSpacing o k s) (startSpacing o k v) := by
  rw [startSpacing_eq ho, startSpacing_eq ho]
  refine h.map (g := fun x => { x with sched := { x.sched with spacing := x.gapAfter k } }) fun r => ?_
  cases k <;> constructor <;> rfl

theorem SameEvent.returnRequest (h : SameEvent s v) (k : Kind) (r : Request) :
    SameWork (returnRequest k r s) (returnRequest k r v) := by
  have hkeeps : v.life.state.keeps k = s.life.state.keeps k := by rw [h.life]
  rw [returnRequest_eq, returnRequest_eq]
  unfold State.listWith
  rw [hkeeps]
  split
  · refine h.work.map (g := fun x => { x with sched := x.sched.setSlot k (some (r.merged (x.sched.slot k))) }) fun _ => ?_
    cases k <;> constructor <;> rfl
  · exact h.work

theorem SameEvent.finishAttempt (h : SameEvent s v) {o : AttemptOutcome} (ho : o ≠ .lost) (q : InFlight) :
    SameEvent (finishAttempt o q s) (finishAttempt o q v) := by
  have hended : SameEvent
      { s with bus := { s.bus.count o with attempt := none, trailer := s.trailerAfterAttempt }
               sched := { s.sched with inFlight := none } }
      { v with bus := { v.bus.count o with attempt := none, trailer := v.trailerAfterAttempt }
               sched := { v.sched with inFlight := none } } := ⟨h.work.map (g := fun x => { x with
        bus := { x.bus.count o with attempt := none, trailer := x.trailerAfterAttempt }
        sched := { x.sched with inFlight := none } }) fun r => by constructor <;> rfl, h.life⟩
  refine ⟨?_, by simp [h.life]⟩
  unfold Machine.finishAttempt
  refine SameWork.startSpacing ?_ ho q.kind
  cases o with
  | accepted | unheard => exact hended.work
  | lost => exact absurd rfl ho
  | partly | aborted =>
    unfold disposeRequest
    dsimp only
    split
    · exact hended.work.map (g := fun x => { x with sched := { x.sched with requestsDropped := bump x.sched.requestsDropped } })
        fun r => by constructor <;> rfl
    · exact hended.returnRequest _ _

theorem SameEvent.countIsolation (h : SameEvent s v) (o : AttemptOutcome) :
    SameEvent (countIsolation o s) (countIsolation o v) := by
  have hcount : ∀ n : State → Nat, n v = n s → SameEvent { s with sched := { s.sched with isolationCount := n s } }
      { v with sched := { v.sched with isolationCount := n v } } := fun n hn => ⟨by
        rw [hn]
        exact h.work.map (g := fun x => { x with sched := { x.sched with isolationCount := n s } })
          fun r => by constructor <;> rfl, h.life⟩
  have hpart : v.life.state.participates = s.life.state.participates := by rw [h.life]
  by_cases hstate : s.life.state.participates = true
  · cases o with
    | unheard =>
      rw [countIsolation_unheard hstate, countIsolation_unheard (hpart.trans hstate)]
      exact hcount (fun x => min 5 (x.sched.isolationCount + 1)) (by rw [h.work.count])
    | accepted | partly =>
      rw [countIsolation_heard hstate rfl, countIsolation_heard (hpart.trans hstate) rfl]
      exact hcount (fun _ => 0) rfl
    | lost | aborted =>
      unfold Machine.countIsolation
      rw [if_pos hstate, if_pos (hpart.trans hstate)]
      exact h
  · have hstate' := Bool.eq_false_iff.mpr hstate
    rw [countIsolation_elsewhere hstate', countIsolation_elsewhere (hpart.trans hstate')]
    exact h

theorem setMarks_sameWork (o : AttemptOutcome) (s : State) : SameWork s (setMarks o s) := by
  cases o <;> constructor <;> rfl

theorem SameEvent.setMarks (h : SameEvent s v) (o : AttemptOutcome) : SameEvent (setMarks o s) (setMarks o v) :=
  ⟨(setMarks_sameWork o s).symm.trans (h.work.trans (setMarks_sameWork o v)), by
    rw [setMarks_life, setMarks_life, h.life, h.work.now]⟩

theorem SameEvent.lifecycleOutcome (h : SameEvent s v) (o : AttemptOutcome) (k : Kind) (limit dropped : Bool) :
    SameEvent (lifecycleOutcome o k limit dropped s) (lifecycleOutcome o k limit dropped v) := by
  have hmarked := h.setMarks o
  unfold Machine.lifecycleOutcome
  dsimp only
  rw [hmarked.life]
  split_ifs
  · exact hmarked.enterIsolated
  · exact hmarked.enterJoining
  · exact hmarked.enterDormant
  · exact hmarked

end

end Sys2Proof.Machine
end

section
/-! A frame event in its parts: what comes before its report to the Link Monitor and what comes after, neither of which looks at
the link counts (R112, R117, R121). -/

namespace Sys2Proof.Machine

open Sys2Proof.Safety Sys2Proof.Claims

/-! ### Operations that leave the link record to the report -/

/-- What no part of a frame event touches. -/
def EventKept (s u : State) : Prop := Apart s u ∧ u.meter = s.meter ∧ u.enf = s.enf ∧ u.loader = s.loader ∧
  u.planner.claim = s.planner.claim ∧ u.now = s.now

theorem EventKept.trans {s v u : State} (h : EventKept s v) (k : EventKept v u) : EventKept s u := by
  obtain ⟨⟨hpending, hrestart, ⟨hprogress, hwaiting, hoverrun⟩, hrx, hgap, hdiscarded⟩,
    hmeter, henf, hloader, hclaim, hnow⟩ := h
  obtain ⟨⟨kpending, krestart, ⟨kprogress, kwaiting, koverrun⟩, krx, kgap, kdiscarded⟩,
    kmeter, kenf, kloader, kclaim, know⟩ := k
  exact ⟨⟨kpending.trans hpending, krestart.trans hrestart, ⟨kprogress.trans hprogress, kwaiting.trans hwaiting,
    koverrun.trans hoverrun⟩, krx.trans hrx, kgap.trans hgap, kdiscarded.trans hdiscarded⟩, kmeter.trans hmeter,
    kenf.trans henf, kloader.trans hloader, kclaim.trans hclaim, know.trans hnow⟩

theorem frameEvent_eventKept (d : Bool) (s : State) : EventKept s (frameEvent d s) := by simp [EventKept, Apart, PortKept]

/-- An operation that does the same whatever the link record holds, leaves it, and raises no LINK. -/
structure LinkFree (g : State → State) : Prop where
  same : ∀ {s v}, SameEvent s v → SameEvent (g s) (g v)
  link : ∀ s, (g s).link = s.link
  plain : ∀ s, RaisesPlain s (g s)
  kept : ∀ s, EventKept s (g s)

theorem LinkFree.comp {g f : State → State} (hg : LinkFree g) (hf : LinkFree f) : LinkFree (fun s => g (f s)) :=
  ⟨fun h => hg.same (hf.same h), fun s => (hg.link _).trans (hf.link s), fun s => (hf.plain s).trans (hg.plain _),
    fun s => (hf.kept s).trans (hg.kept _)⟩

/-- An operation that writes the bus alone, by what the bus and the station record hold. -/
theorem linkFree_of_bus {g : State → State} (hg : ∀ s, g s = { s with bus := (g s).bus })
    (hb : ∀ {s v}, SameEvent s v → (g v).bus = (g s).bus) : LinkFree g where
  same {s v} h := by
    refine ⟨?_, ?_⟩
    · have hbus := hb h
      rw [hg s, hg v, hbus]
      exact ⟨h.work.now, rfl, h.work.roster, h.work.planner, h.work.meter, h.work.enf, h.work.loader, h.work.settled,
        h.work.deficit, h.work.shedHold, h.work.shed, h.work.leave, h.work.announce, h.work.inFlight, h.work.spacing,
        h.work.dropped, h.work.count⟩
    · rw [hg s, hg v]
      exact h.life
  link s := by rw [hg s]
  plain s := raisesPlain_of_queue (by rw [hg s])
  kept s := by
    rw [hg s]
    exact ⟨⟨rfl, rfl, ⟨rfl, rfl, rfl⟩, rfl, rfl, rfl⟩, rfl, rfl, rfl, rfl, rfl⟩

theorem linkFree_id : LinkFree (fun s => s) := linkFree_of_bus (fun _ => rfl) fun h => h.work.bus

theorem SameEvent.canTake {s v : State} (h : SameEvent s v) (bytes : List Byte) : v.canTake bytes = s.canTake bytes := by
  unfold State.canTake
  rw [h.life, h.work.bus]

theorem markAttempt_linkFree (m : FirstFrame) (bytes : List Byte) : LinkFree (markAttempt m bytes) := by
  refine linkFree_of_bus (fun s => ?_) fun {s v} h => ?_
  · unfold markAttempt
    split <;> rfl
  · have hcan := h.canTake bytes
    unfold markAttempt
    rw [hcan]
    split
    · exact h.work.bus
    · simp [h.work.bus]

theorem frameEnds_linkFree (bytes : List Byte) : LinkFree (frameEnds bytes) :=
  linkFree_of_bus (fun _ => rfl) fun h => by simp [frameEnds, h.work.bus]

theorem countValid_linkFree : LinkFree countValid :=
  linkFree_of_bus (fun _ => rfl) fun h => by simp [countValid, h.work.bus]

theorem slotsRead_linkFree (accept refuse : Bool) (f : Frame) : LinkFree (slotsRead accept refuse f) :=
  linkFree_of_bus (fun _ => rfl) fun h => by simp [slotsRead, h.work.bus]

theorem SameEvent.firstFrame {s v : State} (h : SameEvent s v) : v.firstFrame = s.firstFrame := by
  unfold State.firstFrame
  rw [h.work.bus]

theorem keepAssembling_linkFree (o : AssemblyOrigin) (f : Frame) (pos : Nat) : LinkFree (keepAssembling o f pos) :=
  linkFree_of_bus (fun _ => rfl) fun h => by simp [keepAssembling, h.firstFrame, h.work.bus, h.life]

/-- A complete damaged frame, before its report. -/
def damagedCounted (s : State) : State := { s with bus := { s.bus with
  assembly := .empty, trailer := .refuse, damagedReceived := bump s.bus.damagedReceived } }

theorem damagedCounted_linkFree : LinkFree damagedCounted :=
  linkFree_of_bus (fun _ => rfl) fun h => by simp [damagedCounted, h.work.bus]

/-- A frame cut short, before its report. -/
def cutCounted (level : Bool) (s : State) : State := { abandon level s with bus := { (abandon level s).bus with
  damagedReceived := bump (abandon level s).bus.damagedReceived } }

theorem cutCounted_linkFree (level : Bool) : LinkFree (cutCounted level) :=
  linkFree_of_bus (fun _ => rfl) fun h => by simp [cutCounted, abandon, h.work.bus]

theorem takeValid_linkFree (f : Frame) : LinkFree (takeValid f) where
  same h := h.takeValid f
  link := takeValid_link f
  plain := takeValid_raisesPlain f
  kept s := by
    unfold takeValid
    split
    · simp [EventKept, Apart, PortKept, takeOwnNumber]
    · simp [EventKept, Apart, PortKept]

theorem finishAttempt_linkFree {o : AttemptOutcome} (ho : o ≠ .lost) (q : InFlight) : LinkFree (finishAttempt o q) where
  same h := h.finishAttempt ho q
  link s := by simp
  plain s := raisesPlain_of_queue (by simp)
  kept s := by simp [EventKept, Apart, PortKept]

/-! ### The hand-off of an outcome (R112) -/

/-- What an outcome does after its report. -/
def outcomeTaken (o : AttemptOutcome) (k : Kind) (limit dropped : Bool) (s : State) : State :=
  lifecycleOutcome o k limit dropped (countIsolation o s)

theorem lifecycleOutcome_raisesPlain (o : AttemptOutcome) (k : Kind) (limit dropped : Bool) (s : State) :
    RaisesPlain s (lifecycleOutcome o k limit dropped s) := by
  have hmarked : RaisesPlain s (setMarks o s) := raisesPlain_of_queue (by simp)
  refine hmarked.trans ?_
  unfold lifecycleOutcome
  dsimp only
  split_ifs
  · exact enterIsolated_raisesPlain _
  · exact enterJoining_raisesPlain _
  · exact enterDormant_raisesPlain _
  · exact raisesPlain_refl _

theorem lifecycleOutcome_kept (o : AttemptOutcome) (k : Kind) (limit dropped : Bool) (s : State) :
    (lifecycleOutcome o k limit dropped s).link = s.link ∧ EventKept s (lifecycleOutcome o k limit dropped s) := by
  unfold lifecycleOutcome
  dsimp only
  split_ifs
  all_goals simp [EventKept, Apart, PortKept]

theorem outcomeTaken_linkFree (o : AttemptOutcome) (k : Kind) (limit dropped : Bool) :
    LinkFree (outcomeTaken o k limit dropped) where
  same h := (h.countIsolation o).lifecycleOutcome o k limit dropped
  link s := ((lifecycleOutcome_kept o k limit dropped _).1).trans (by simp)
  plain s := (raisesPlain_of_queue (by simp)).trans (lifecycleOutcome_raisesPlain o k limit dropped _)
  kept s := EventKept.trans (by simp [EventKept, Apart, PortKept]) (lifecycleOutcome_kept o k limit dropped _).2

theorem outcomeTaken_weighed {o : AttemptOutcome} {k : Kind} {limit dropped : Bool} {s : State} (h : Weighed s) :
    Weighed (outcomeTaken o k limit dropped s) := by
  have hmarked : Weighed (setMarks o (countIsolation o s)) := h.congr (by simp) (by simp) (by simp) (by simp) (by simp)
  unfold outcomeTaken lifecycleOutcome
  dsimp only
  split_ifs
  · exact weighed_of_not_active (by rw [enterIsolated_life]; exact fun hc => nomatch hc)
  · exact enterJoining_weighed _
  · exact weighed_of_not_active (by rw [enterDormant_life]; exact fun hc => nomatch hc)
  · exact hmarked

theorem endAttempt_parts {o : AttemptOutcome} (ho : o ≠ .lost) (q : InFlight) (s : State) :
    endAttempt o q s = outcomeTaken o q.kind (s.limitReached o) (o.drops q.request)
      (frameEvent o.retried (finishAttempt o q s)) := by
  have hlimit : (finishAttempt o q s).limitReached o = s.limitReached o := by simp [State.limitReached]
  rw [endAttempt_eq, hlimit]
  cases o with
  | lost => exact absurd rfl ho
  | _ => rfl

end Sys2Proof.Machine
end

section
/-! The window that closes (R117 to R121): each frame event is its parts around one report, and so the close of the window. -/

namespace Sys2Proof.Machine

open Sys2Proof.Safety Sys2Proof.Claims

/-! ### A frame event in its parts -/

/-- The event counts as damaged (T 7-2). -/
def countsDamaged : FrameEvent → Bool
  | .received bytes _ => (damagedFrame bytes).isSome
  | .cutShort _ => true
  | .outcome accept refuse => accept && refuse
  | .aborted _ => true

/-- The event is one report between two operations that do not look at the link record, in every state that agrees with `w`. -/
def InParts (ev : FrameEvent) (w : State) : Prop := ∃ pre post, LinkFree pre ∧ LinkFree post ∧
  (∀ s, Weighed s → Weighed (post s)) ∧
  ∀ y, SameEvent w y → takeFrameEvent ev y = post (frameEvent (countsDamaged ev) (pre y))

theorem outcomeOf_retried (accept refuse : Bool) : (outcomeOf accept refuse).retried = (accept && refuse) := by
  cases accept <;> cases refuse <;> rfl

theorem outcomeOf_ne_lost (accept refuse : Bool) : outcomeOf accept refuse ≠ .lost := by
  cases accept <;> cases refuse <;> decide

section
variable {w y : State}

theorem SameEvent.ownAttempt (h : SameEvent w y) : y.ownAttempt = w.ownAttempt := by
  unfold State.ownAttempt
  rw [h.work.bus, h.work.inFlight]

theorem SameEvent.openAttempt (h : SameEvent w y) : y.openAttempt = w.openAttempt := by
  unfold State.openAttempt
  rw [h.firstFrame, h.ownAttempt]

theorem SameEvent.canTakeValid (h : SameEvent w y) (f : Frame) (bytes : List Byte) :
    y.canTakeValid f bytes = w.canTakeValid f bytes := by
  have hbit : y.attemptBit = w.attemptBit := by
    unfold State.attemptBit
    rw [h.work.bus, h.work.now, h.work.params]
  have hdue : y.outcomeDue = w.outcomeDue := by
    unfold State.outcomeDue
    rw [h.work.bus, hbit]
  unfold State.canTakeValid State.meetsOutcome
  rw [h.canTake bytes, h.life, h.ownStation, hdue]

theorem SameEvent.canTakeDamaged (h : SameEvent w y) (bytes : List Byte) :
    y.canTakeDamaged bytes = w.canTakeDamaged bytes := by
  unfold State.canTakeDamaged State.overtakenBy
  rw [h.canTake bytes, h.life, h.work.bus]

theorem SameEvent.limitReached (h : SameEvent w y) (o : AttemptOutcome) : y.limitReached o = w.limitReached o := by
  unfold State.limitReached
  rw [h.life, h.work.count]

/-- An attempt that ends is in parts, whatever is read before it ends. -/
theorem endAttempt_inParts {o : AttemptOutcome} {q : InFlight} {read : State → State} {ev : FrameEvent} (ho : o ≠ .lost)
    (hread : LinkFree read) (hdamages : countsDamaged ev = o.retried)
    (hev : ∀ y, SameEvent w y → takeFrameEvent ev y = endAttempt o q (read y)) : InParts ev w := by
  refine ⟨fun s => finishAttempt o q (read s), outcomeTaken o q.kind ((read w).limitReached o) (o.drops q.request),
    (finishAttempt_linkFree ho q).comp hread, outcomeTaken_linkFree .., fun _ => outcomeTaken_weighed, fun y hy => ?_⟩
  rw [hev y hy, endAttempt_parts ho, (hread.same hy).limitReached, hdamages]

/-- A valid frame is in parts, its report before its taking or after it (R117, R121). -/
theorem takeFrame_inParts {f : Frame} {bytes : List Byte} (first : Bool) (hjudged : judgeFrame bytes = some (.inl f))
    (hcan : w.canTakeValid f bytes = true) : InParts (.received bytes first) w := by
  have hcounted : LinkFree fun s => countValid (frameEnds bytes (markAttempt .peer bytes s)) :=
    countValid_linkFree.comp ((frameEnds_linkFree bytes).comp (markAttempt_linkFree .peer bytes))
  have hsound : countsDamaged (.received bytes first) = false := by
    simp [countsDamaged, damagedFrame, hjudged]
  have htake : ∀ y, SameEvent w y → takeFrameEvent (.received bytes first) y =
      receiveValid f first (frameEnds bytes (markAttempt .peer bytes y)) := fun y hy => by
    have hreceived : takeReceived bytes first y = takeFrame f bytes first y := by
      unfold takeReceived
      rw [hjudged]
    exact hreceived.trans (if_pos ((hy.canTakeValid f bytes).trans hcan))
  cases first with
  | true =>
    refine ⟨_, takeValid f, hcounted, takeValid_linkFree f, fun _ => takeValid_weighed, fun y hy => ?_⟩
    rw [htake y hy, hsound]
    rfl
  | false =>
    refine ⟨_, fun s => s, (takeValid_linkFree f).comp hcounted, linkFree_id, fun _ h => h, fun y hy => ?_⟩
    rw [htake y hy, hsound]
    rfl

theorem takeDamaged_parts {bytes : List Byte} {why : Damage} {y : State} (hjudged : judgeFrame bytes = some (.inr why))
    (hcan : y.canTakeDamaged bytes = true) : takeDamaged bytes y =
      frameEvent true (damagedCounted (frameEnds bytes (markAttempt .broken bytes y))) :=
  if_pos ⟨by rw [damagedFrame_of_judged hjudged]; rfl, hcan⟩

theorem takeFrameEvent_damaged {bytes : List Byte} {why : Damage} (first : Bool)
    (hjudged : judgeFrame bytes = some (.inr why)) (y : State) :
    takeFrameEvent (.received bytes first) y = takeDamaged bytes y := by
  have hreceived : takeReceived bytes first y = takeDamaged bytes y := by
    unfold takeReceived
    rw [hjudged]
  exact hreceived

theorem takeDamaged_inParts {bytes : List Byte} {why : Damage} (first : Bool) (hjudged : judgeFrame bytes = some (.inr why))
    (hcan : w.canTakeDamaged bytes = true) : InParts (.received bytes first) w := by
  have hdamages : countsDamaged (.received bytes first) = true := by
    simp [countsDamaged, damagedFrame_of_judged hjudged]
  refine ⟨_, fun s => s, damagedCounted_linkFree.comp ((frameEnds_linkFree bytes).comp (markAttempt_linkFree .broken bytes)),
    linkFree_id, fun _ h => h, fun y hy => ?_⟩
  rw [takeFrameEvent_damaged first hjudged, takeDamaged_parts hjudged ((hy.canTakeDamaged bytes).trans hcan), hdamages]

theorem cutShort_counted {level : Bool} {o : AssemblyOrigin} {bits : List Bool} {run : Nat}
    (hassembly : y.bus.assembly = .good o bits run) (ho : o ≠ .afterAborted) :
    cutShort level y = frameEvent true (cutCounted level y) := by
  unfold cutShort
  rw [hassembly]
  cases o with
  | afterAborted => exact absurd rfl ho
  | _ => rfl

theorem cutShort_occurs {level : Bool} (hocc : w.frameEventOccurs (.cutShort level) = true) :
    w.receiving = true ∧ ∃ o bits run, w.bus.assembly = .good o bits run ∧ o ≠ .afterAborted := by
  unfold State.frameEventOccurs at hocc
  cases hassembly : w.bus.assembly with
  | empty => simp [hassembly, State.receiving, Assembly.isGood] at hocc
  | abandoned => simp [hassembly, State.receiving, Assembly.isGood] at hocc
  | good o bits run =>
    simp only [hassembly] at hocc
    cases o with
    | afterAborted => cases hocc
    | _ => exact ⟨hocc, _, _, _, rfl, fun h => nomatch h⟩

theorem outcome_occurs {accept refuse : Bool} (hocc : w.frameEventOccurs (.outcome accept refuse) = true) :
    ∃ a q, w.openAttempt = some (a, q) := by
  obtain ⟨⟨a, q⟩, h⟩ := Option.isSome_iff_exists.mp hocc
  exact ⟨a, q, h⟩

theorem aborted_occurs {pos : Nat} (hocc : w.frameEventOccurs (.aborted pos) = true) :
    ∃ a q, w.ownAttempt = some (a, q) ∧ a.breaksAt pos = true := by
  unfold State.frameEventOccurs at hocc
  cases hown : w.ownAttempt with
  | none => simp [hown] at hocc
  | some p =>
    simp only [hown] at hocc
    exact ⟨p.1, p.2, rfl, hocc⟩

theorem received_occurs {bytes : List Byte} {first : Bool} (hocc : w.frameEventOccurs (.received bytes first) = true) :
    (∃ f, judgeFrame bytes = some (.inl f) ∧ w.canTakeValid f bytes = true) ∨
    (∃ why, judgeFrame bytes = some (.inr why) ∧ w.canTakeDamaged bytes = true) := by
  unfold State.frameEventOccurs at hocc
  cases hjudged : judgeFrame bytes with
  | none => simp [hjudged] at hocc
  | some r =>
    simp only [hjudged] at hocc
    cases r with
    | inl f => exact .inl ⟨f, rfl, hocc⟩
    | inr why => exact .inr ⟨why, rfl, hocc⟩

theorem takeFrameEvent_inParts {ev : FrameEvent} (hocc : w.frameEventOccurs ev = true) : InParts ev w := by
  cases ev with
  | received bytes first =>
    rcases received_occurs hocc with ⟨f, hjudged, hcan⟩ | ⟨why, hjudged, hcan⟩
    · exact takeFrame_inParts first hjudged hcan
    · exact takeDamaged_inParts first hjudged hcan
  | cutShort level =>
    obtain ⟨-, o, bits, run, hassembly, ho⟩ := cutShort_occurs hocc
    exact ⟨_, fun s => s, cutCounted_linkFree level, linkFree_id, fun _ h => h, fun y hy =>
      cutShort_counted (by rw [hy.work.bus]; exact hassembly) ho⟩
  | outcome accept refuse =>
    obtain ⟨a, q, hopen⟩ := outcome_occurs hocc
    refine endAttempt_inParts (q := q) (outcomeOf_ne_lost accept refuse) (slotsRead_linkFree accept refuse a.frame)
      (outcomeOf_retried accept refuse).symm fun y hy => ?_
    have htaken : takeOutcome accept refuse y = endAttempt (outcomeOf accept refuse) q (slotsRead accept refuse a.frame y) := by
      unfold takeOutcome
      rw [hy.openAttempt, hopen]
    exact htaken
  | aborted pos =>
    obtain ⟨a, q, hown, hbreaks⟩ := aborted_occurs hocc
    refine endAttempt_inParts (o := .aborted) (q := q) (by decide) (keepAssembling_linkFree .afterAborted a.frame pos) rfl
      fun y hy => ?_
    have htaken : abortAt pos y = endAttempt .aborted q (keepAssembling .afterAborted a.frame pos y) := by
      unfold abortAt
      rw [hy.ownAttempt, hown]
      exact if_pos hbreaks
    exact htaken

end

/-! ### The rows of a frame event (log 4) -/

/-- What can be taken now can be taken later: an outcome that is due stays so. -/
theorem frameEventOccurs_atTime {ev : FrameEvent} {s : State} (t : Time) (h : s.frameEventOccurs ev = true) :
    (s.atTime t).frameEventOccurs ev = true := by
  cases ev with
  | received bytes first =>
    have hdue : s.outcomeDue = true → (s.atTime t).outcomeDue = true := fun hd => by
      cases ha : s.bus.attempt with
      | none => simp [State.outcomeDue, ha] at hd
      | some a =>
        obtain ⟨hfirst, hlast⟩ := (outcomeDue_iff ha).mp hd
        exact (outcomeDue_iff (s := s.atTime t) ha).mpr ⟨hfirst, hlast.trans
          (Nat.div_le_div_right (Nat.sub_le_sub_right (Nat.le_max_left _ _) _))⟩
    have hvalid : ∀ f, s.canTakeValid f bytes = true → (s.atTime t).canTakeValid f bytes = true := fun f hc => by
      rcases Bool.or_eq_true_iff.mp hc with hcan | hmeets
      · exact Bool.or_eq_true_iff.mpr (.inl hcan)
      · obtain ⟨htakes, hd⟩ := Bool.and_eq_true_iff.mp hmeets
        exact Bool.or_eq_true_iff.mpr (.inr (Bool.and_eq_true_iff.mpr ⟨htakes, hdue hd⟩))
    unfold State.frameEventOccurs
    rcases received_occurs h with ⟨f, hjudged, hcan⟩ | ⟨why, hjudged, hcan⟩
    · simp only [hjudged]
      exact hvalid f hcan
    · simp only [hjudged]
      exact hcan
  | cutShort level => exact h
  | outcome accept refuse => exact h
  | aborted pos => exact h

theorem exec_eventRow {t : Time} {ev : FrameEvent} {s : State} (hr : s.restartInput = false)
    (h : (s.atTime t).frameEventOccurs ev = true) : exec (eventRow t ev) s = .next (takeFrameEvent ev (s.atTime t)) := by
  cases ev with
  | received bytes first =>
    rcases received_occurs h with ⟨f, hjudged, -⟩ | ⟨why, hjudged, -⟩
    · have hrow : eventRow t (.received bytes first) = frameRow f.kind t bytes first := by
        unfold eventRow
        simp only [hjudged]
      rw [hrow, exec_frameRow, arrive_released hr, receiveKind_of_judged _ _ hjudged]
      unfold takeFrameEvent takeReceived
      simp only [hjudged]
    · have hrow : eventRow t (.received bytes first) = .frameDamaged t bytes := by
        unfold eventRow
        simp only [hjudged]
      rw [hrow, takeFrameEvent_damaged first hjudged]
      exact arrive_released hr
  | cutShort level =>
    obtain ⟨hreceiving, -⟩ := cutShort_occurs h
    exact (arrive_released hr).trans (congrArg _ (onlyIf_holds hreceiving))
  | outcome accept refuse => exact arrive_released hr
  | aborted pos => exact arrive_released hr

theorem exec_windowClose {t : Time} {ev : FrameEvent} {s : State} (hr : s.restartInput = false)
    (hwindow : s.params.window ≤ s.link.events + 1) (h : (s.atTime t).frameEventOccurs ev = true) :
    exec (.windowClose t ev) s = .next (takeFrameEvent ev (s.atTime t)) := by
  have hdue : (s.atTime t).windowDue = true := decide_eq_true hwindow
  exact (arrive_released hr).trans (congrArg _ (onlyIf_holds (by rw [hdue, h]; rfl)))

/-! ### The close of the window (R119, R120) -/

theorem closeWindow_queue (d : Bool) (s : State) : ∃ ns, (∀ n ∈ ns, n.plain = true) ∧ (closeWindow d s).host.queue =
    enterNotes ((if d = s.link.degraded then [] else [Notification.link d]) ++ ns) s.host.queue := by
  unfold closeWindow
  dsimp only
  by_cases hsame : s.link.degraded = d
  · rw [if_pos hsame, if_pos hsame.symm]
    exact ⟨[], by simp, rfl⟩
  · have hchanged : (if d = s.link.degraded then [] else [Notification.link d]) = [.link d] :=
      if_neg fun hd => hsame hd.symm
    rw [if_neg hsame, hchanged]
    cases d with
    | true => exact ⟨[], by simp, rfl⟩
    | false =>
      obtain ⟨ns, hns, hqueue⟩ := weighRaise_raisesPlain
        (raiseNote (.link false) { s with link := { events := 0, damaged := 0, degraded := false } })
      exact ⟨ns, hns, hqueue⟩

/-- The flag that a damaged frame sets is reported, and nothing else is (R97, R120). -/
theorem takeFrameEvent_damaged_queue {bytes : List Byte} {why : Damage} {w : State} (first : Bool)
    (hjudged : judgeFrame bytes = some (.inr why)) (hcan : w.canTakeDamaged bytes = true)
    (hwindow : w.params.window ≤ w.link.events + 1) (hclear : w.link.degraded = false)
    (hset : (takeFrameEvent (.received bytes first) w).link.degraded = true) :
    (takeFrameEvent (.received bytes first) w).host.queue = enterNote (.link true) w.host.queue := by
  have hfree := damagedCounted_linkFree.comp ((frameEnds_linkFree bytes).comp (markAttempt_linkFree .broken bytes))
  have hlink := hfree.link w
  have hparams := params_congr (congrArg Loader.heldCopy (hfree.kept w).2.2.2.1)
  have hqueue : (damagedCounted (frameEnds bytes (markAttempt .broken bytes w))).host = w.host := by simp [damagedCounted]
  rw [takeFrameEvent_damaged first hjudged, takeDamaged_parts hjudged hcan,
    frameEvent_of_window_le _ (by rw [hparams, hlink]; exact hwindow)] at hset ⊢
  rw [closeWindow_link] at hset
  have hraises : ∀ x : State, x.link.degraded = false →
      (closeWindow true x).host.queue = enterNote (.link true) x.host.queue := fun x hx => by
    unfold closeWindow
    rw [if_neg (by rw [hx]; decide)]
    rfl
  have hdegraded : decide ((damagedCounted (frameEnds bytes (markAttempt .broken bytes w))).params.threshold <
      (damagedCounted (frameEnds bytes (markAttempt .broken bytes w))).link.damaged + (if true then 1 else 0)) = true := hset
  rw [hdegraded, hraises _ (by rw [hlink]; exact hclear), hqueue]

end Sys2Proof.Machine

section
open Sys2Proof Sys2Proof.Machine Sys2Proof.Safety Sys2Proof.Claims

/-- Settles O36: every frame event is one report between two operations that do not look at the link record. -/
theorem windowCloseJudgesTheLink : Obligations.WindowCloseJudgesTheLink := by
  intro t ev s hr hwindow hoccurs damage
  have hocc := frameEventOccurs_atTime t hoccurs
  have hdamage : damage = if countsDamaged ev then 1 else 0 := by
    cases ev with
    | received bytes first =>
      cases hjudged : judgeFrame bytes with
      | none => simp [damage, countsDamaged, damagedFrame, hjudged]
      | some r => cases r <;> simp [damage, countsDamaged, damagedFrame, hjudged]
    | cutShort level => rfl
    | outcome accept refuse => simp [damage, countsDamaged]
    | aborted pos => rfl
  obtain ⟨pre, post, hpre, hpost, hweighed, hparts⟩ := takeFrameEvent_inParts hocc
  have hparams : (pre (s.atTime t)).params = s.params := params_congr (congrArg Loader.heldCopy (hpre.kept _).2.2.2.1)
  have hlink : (pre (s.atTime t)).link = s.link := hpre.link _
  have hclose : frameEvent (countsDamaged ev) (pre (s.atTime t)) =
      closeWindow (decide (s.params.threshold < s.link.damaged + damage)) (pre (s.atTime t)) := by
    rw [frameEvent_of_window_le _ (by rw [hparams, hlink]; exact hwindow), hparams, hlink, hdamage]
  have hwhole := hparts (s.atTime t) ⟨.refl _, rfl⟩
  have hlinks := (hpost.link _).trans ((congrArg State.link hclose).trans (closeWindow_link _ _))
  refine ⟨_, exec_windowClose hr hwindow hocc, exec_eventRow hr hocc, ?_, ?_, ?_, ?_, ?_, ?_, ?_, ?_⟩
  · rw [hwhole, hlinks]
  · rw [hwhole, hlinks]
  · rw [hwhole, hlinks]
  · intro d hclear hset hev hjudged
    subst hev
    have hcan : (s.atTime t).canTakeDamaged d = true := by
      rcases received_occurs hocc with ⟨f, hvalid, -⟩ | ⟨why, -, hcan⟩
      · exact nomatch hjudged.symm.trans hvalid
      · exact hcan
    exact takeFrameEvent_damaged_queue (w := s.atTime t) true hjudged hcan hwindow hclear hset
  · obtain ⟨ns, hns, hqueue⟩ := hpre.plain (s.atTime t)
    obtain ⟨ms, hms, hqueue'⟩ := closeWindow_queue (decide (s.params.threshold < s.link.damaged + damage)) (pre (s.atTime t))
    obtain ⟨ks, hks, hqueue''⟩ := hpost.plain (frameEvent (countsDamaged ev) (pre (s.atTime t)))
    refine ⟨ns, ms ++ ks, fun n hn d => ?_, ?_⟩
    · have hplain : n.plain = true := by
        rcases List.mem_append.mp hn with h | h
        · exact hns n h
        · exact (List.mem_append.mp h).elim (hms n) (hks n)
      exact plain_not_link hplain d
    · rw [hwhole, hqueue'', hclose, hqueue', hqueue, ← hclose, hlinks, hlink]
      simp only [enterNotes, List.foldl_append]
      rfl
  · intro hset hclear
    rw [hwhole] at hclear ⊢
    rw [hlinks] at hclear
    refine hweighed _ ?_
    rw [hclose, show decide (s.params.threshold < s.link.damaged + damage) = false from hclear]
    exact closeWindow_weighed (by rw [hlink]; exact hset)
  · intro _
    have hsame : SameEvent (s.atTime t) (State.atTime { s with link := { s.link with events := 0 } } t) :=
      ⟨by constructor <;> rfl, rfl⟩
    have hoccurs' : ({ s with link := { s.link with events := 0 } } : State).frameEventOccurs ev = true := by
      rw [← hoccurs]
      cases ev <;> rfl
    have hother := hparts _ hsame
    have hagree : SameEvent (frameEvent (countsDamaged ev) (pre (State.atTime { s with link := { s.link with events := 0 } } t)))
        (frameEvent (countsDamaged ev) (pre (s.atTime t))) :=
      (frameEvent_sameEvent _ _).symm.trans ((hpre.same hsame.symm).trans (frameEvent_sameEvent _ _))
    have hend := hpost.same hagree
    refine ⟨_, exec_eventRow hr (frameEventOccurs_atTime t hoccurs'), ?_⟩
    rw [hwhole, hother]
    exact ⟨hend.work.roster, hend.work.planner, hend.life, hend.work.bus, hend.work.slots, hend.work.count⟩
  · have hkept := ((hpre.kept (s.atTime t)).trans (frameEvent_eventKept (countsDamaged ev) _)).trans (hpost.kept _)
    rw [hwhole]
    exact hkept

end
end
